-- ==== Sys2Proof/Word.lean ====
section
/-! DEFINITION. The byte and the 16-bit word of the lines, and the two total ways in which the model
writes a table of like records (a `Vector`): one entry by its number, or every entry at once. -/

namespace Sys2Proof

/-- One byte of a telegram or of the configuration image (R171, R172). -/
abbrev Byte := BitVec 8

/-- A 16-bit quantity: a head's total (R17), a pairing code (R132), a CRC-16 (R171). -/
abbrev Word := BitVec 16

/-- The table with entry `i` rewritten by `f`. -/
def upd {α : Type} {n : Nat} (v : Vector α n) (i : Fin n) (f : α → α) : Vector α n :=
  v.set i (f v[i])

/-- The table with every entry rewritten from its number and its old contents. -/
@[irreducible] def mapTab {α β : Type} {n : Nat} (f : Fin n → α → β) (v : Vector α n)
    : Vector β n :=
  Vector.ofFn fun i => f i v[i]

/-- A list without its repeats, the first of each kept. -/
def distinct {α : Type} [DecidableEq α] : List α → List α
  | [] => []
  | x :: xs => x :: (distinct xs).filter (fun y => y ≠ x)

/-- Whether a list holds nothing twice. -/
def noRepeats {α : Type} [DecidableEq α] : List α → Bool
  | [] => true
  | x :: xs => !xs.contains x && noRepeats xs

end Sys2Proof
end

