-- ==== Sys2Proof/Syntax.lean ====
section
/-! DEFINITION. The commands of the Brafvik 416, one constructor of `Instr` for each row of the
opcode table, and the operand types they carry: lines, lamps, pages, received frames and the
telegram payloads of chapter 12. The part has one command queue of its own (chapter 11): the rows
SET_ROUTE to UNKNOWN_COMMAND take their arguments from the head of that queue and so carry no
operand here. -/

namespace Sys2Proof

/-- The two station lines (R131). -/
inductive Line where
  | a
  | b
deriving DecidableEq, Repr

/-- The three lamps of a signal (R92). -/
inductive Lamp where
  | red
  | yellow
  | green
deriving DecidableEq, Repr

/-- The two DISPLAY pages (R165). -/
inductive Page where
  | zero
  | one
deriving DecidableEq, Repr

/-- A STATUS entry for one reported head (R146, R171). -/
structure HeadEntry where
  number : Byte
  forward : Word
  backward : Word
  flag : Byte
deriving DecidableEq, Repr

/-- A STATUS entry for one boundary section. -/
structure SectionEntry where
  number : Byte
  state : Byte
deriving DecidableEq, Repr

/-- A STATUS entry for one reported signal: bits 0 to 1 the shown aspect, bit 7 the red lamp-failed
flag. -/
structure SignalEntry where
  number : Byte
  info : Byte
deriving DecidableEq, Repr

/-- A STATUS entry for one hosted portion: bits 0 to 2 the runtime state, bit 7 the
requester-released mark. -/
structure PortionEntry where
  number : Byte
  requester : Byte
  offerId : Byte
  info : Byte
deriving DecidableEq, Repr

/-- A STATUS entry for one hosted flank grant: bits 0 to 1 the element code, bit 7 PROVEN. -/
structure GrantEntry where
  requester : Byte
  offerId : Byte
  element : Byte
  info : Byte
deriving DecidableEq, Repr

/-- A STATUS entry of the held-offer list: kind 0 PORTION, 1 FLANK. -/
structure OfferEntry where
  neighbour : Byte
  offerId : Byte
  kind : Byte
  target : Byte
deriving DecidableEq, Repr

/-- The content of a STATUS telegram (R146), each field as the byte the line carries. -/
structure StatusContent where
  station : Byte
  faultCode : Byte
  heads : List HeadEntry
  sections : List SectionEntry
  signals : List SignalEntry
  portions : List PortionEntry
  grants : List GrantEntry
  offers : List OfferEntry
deriving DecidableEq, Repr

/-- The content of DISPLAY page 0 (R165): the entries of its three lists, byte for byte. -/
structure PageZero where
  station : Byte
  neighbours : List (Byte × Byte)
  routes : List (Byte × Byte)
  signals : List (Byte × Byte × Byte)
deriving DecidableEq, Repr

/-- The content of DISPLAY page 1 (R165): sections (number, state and block flag, count), points
(number, state), and the listed faults with the "more" flag. -/
structure PageOne where
  sections : List (Byte × Byte × Word)
  points : List (Byte × Byte)
  faults : List (Byte × Byte)
  more : Bool
deriving DecidableEq, Repr

/-- The payload of a telegram, one constructor for each of the thirteen kinds of R133; DISPLAY has
one for each page. -/
inductive Payload where
  | status (content : StatusContent)
  | displayZero (content : PageZero)
  | displayOne (content : PageOne)
  | portionRequest (portion offerId : Byte)
  | portionGrant (portion offerId : Byte)
  | portionRefuse (portion offerId reason : Byte)
  | portionRelease (portion offerId : Byte)
  | flankRequest (offerId code element : Byte)
  | flankGrant (offerId : Byte)
  | flankRefuse (offerId reason : Byte)
  | flankRelease (offerId : Byte)
  | sectionReset (number : Byte)
  | command (code arg1 arg2 arg3 : Byte)
  | commandResult (seq code result reason : Byte)
deriving DecidableEq, Repr

/-- A telegram as collected by the receiver of one line (R131), its fields as R171 lays them out.
The kind code is not held here: the row of the command gives it. -/
structure Frame where
  line : Line
  length : Byte
  source : Byte
  dest : Byte
  seq : Byte
  code : Word
  payload : List Byte
  crc : Word
deriving DecidableEq, Repr

/-- The commands of the part, in the order of the opcode table. -/
inductive Instr where
  /-- The reset pin or power-on (R16). -/
  | reset
  /-- Reading of the image ends, with the bytes the memory delivered (R166, R172). -/
  | configReadEnd (delivered : List Byte)
  /-- 2.0 s pass before the reading ends, with the bytes delivered so far (R166). -/
  | configReadTimeout (delivered : List Byte)
  /-- The 3.0 s quiet timer expires (R167). -/
  | quietTimerExpiry
  /-- A filtered edge of STOP to active; the bytes the memory had delivered are read in CONFIG
  alone (R168). -/
  | stop (delivered : List Byte)
  /-- The pair of filtered sensor values (A, B) of a local head (R7, R18). -/
  | headObservation (head : Fin 24) (a b : Bool)
  /-- The rest timer of a faulted decoder expires (R21). -/
  | restTimerExpiry (head : Fin 24)
  /-- The pair of filtered detection values (DETECT_N, DETECT_R) of a point (R8, R56). -/
  | detectionObservation (point : Fin 16) (n r : Bool)
  /-- A filtered edge of a lamp proving input (R9, R99). -/
  | provingEdge (signal : Fin 16) (lamp : Lamp) (lit : Bool)
  /-- The end of a half of the flash phase (R12, R97). -/
  | flashBoundary
  /-- A lamp's failure timer expires (R99). -/
  | failureTimerExpiry (signal : Fin 16) (lamp : Lamp)
  /-- A lamp's stray timer expires (R101). -/
  | strayTimerExpiry (signal : Fin 16) (lamp : Lamp)
  /-- A lamp's stray-clear timer expires (R102). -/
  | strayClearTimerExpiry (signal : Fin 16) (lamp : Lamp)
  /-- The settle timer of a moving point expires (R62). -/
  | settleTimerExpiry (point : Fin 16)
  /-- The move timer of a moving point expires (R63). -/
  | moveTimerExpiry (point : Fin 16)
  /-- The LKU takes the notice of a section (R88). -/
  | sectionNotice (number : Fin 32)
  /-- The LKU takes the notice of a point (R90). -/
  | pointNotice (point : Fin 16)
  /-- The setting timer of a route expires (R85). -/
  | settingTimerExpiry (route : Fin 64)
  /-- A granted release timer expires (R117). -/
  | poolTimerExpiry (timer : Fin 16)
  /-- A COMMAND telegram is collected on a line (R160). -/
  | command (frame : Frame)
  /-- The SET_ROUTE at the head of the command queue is taken (R75). -/
  | setRoute
  /-- The CANCEL_ROUTE at the head of the command queue is taken (R111). -/
  | cancelRoute
  /-- The MOVE_POINT at the head of the command queue is taken (R60). -/
  | movePoint
  /-- The BLOCK at the head of the command queue is taken (R162). -/
  | block
  /-- The RESET_SECTION at the head of the command queue is taken (R44). -/
  | resetSection
  /-- The CONFIRM_RESET at the head of the command queue is taken (R46). -/
  | confirmReset
  /-- The CLEAR_NEIGHBOUR_BLOCK at the head of the command queue is taken (R163). -/
  | clearNeighbourBlock
  /-- The CLEAR_FAULT at the head of the command queue is taken (R163). -/
  | clearFault
  /-- A command of unknown code at the head of the command queue is taken (R161). -/
  | unknownCommand
  /-- The window timer of the pending reset record expires (R47). -/
  | resetWindowExpiry
  /-- A STATUS telegram is collected on a line (R147). -/
  | status (frame : Frame)
  /-- The silence timer of a neighbour expires (R145). -/
  | silenceTimerExpiry (neighbour : Fin 4)
  /-- A PORTION_REQUEST telegram is collected on a line (R153). -/
  | portionRequest (frame : Frame)
  /-- A PORTION_GRANT telegram is collected on a line (R149). -/
  | portionGrant (frame : Frame)
  /-- A PORTION_REFUSE telegram is collected on a line (R149). -/
  | portionRefuse (frame : Frame)
  /-- A PORTION_RELEASE telegram is collected on a line (R155). -/
  | portionRelease (frame : Frame)
  /-- A FLANK_REQUEST telegram is collected on a line (R128). -/
  | flankRequest (frame : Frame)
  /-- A FLANK_GRANT telegram is collected on a line (R149). -/
  | flankGrant (frame : Frame)
  /-- A FLANK_REFUSE telegram is collected on a line (R149). -/
  | flankRefuse (frame : Frame)
  /-- A FLANK_RELEASE telegram is collected on a line (R130). -/
  | flankRelease (frame : Frame)
  /-- A SECTION_RESET telegram is collected on a line (R50). -/
  | sectionReset (frame : Frame)
  /-- The reply timer of an offer record expires (R150). -/
  | replyTimerExpiry (record : Fin 8)
  /-- The silence timer of a panel expires (R141). -/
  | panelSilenceTimerExpiry (panel : Fin 2)
  /-- The health timer of a line expires (R142). -/
  | lineHealthTimerExpiry (line : Line)
  /-- The STATUS period expires (R146). -/
  | statusPeriodExpiry
  /-- The 50 ms after a STATUS placing end (R146). -/
  | statusPacingEnd
  /-- The DISPLAY period expires (R165). -/
  | displayPeriodExpiry
  /-- The 100 ms after the placing of a page end (R165). -/
  | displayPacingEnd (page : Page)
  /-- A line that has been idle for `idle` bit times may begin an attempt (R135). -/
  | transmitAttempt (line : Line) (idle : Nat)
  /-- An attempt ends; `echo` is what the line gave back (R136). -/
  | telegramSent (line : Line) (echo : List Byte)
  /-- An attempt meets a byte that differs; `echo` is what the line gave back, that byte
  included (R136). -/
  | attemptFailed (line : Line) (echo : List Byte)
  /-- 100 ms have passed since the placing of the telegram of this sequence number (R136). -/
  | transmitGiveUp (line : Line) (seq : Byte)
  /-- A telegram of any kind is collected on a line and is discarded at check 5 or 6 (R138). -/
  | discardedTelegram (kind : Byte) (frame : Frame)
deriving DecidableEq, Repr

end Sys2Proof
end

