-- ==== Sys2Proof/Decode.lean ====
section
/-! DEFINITION. The decoder of opcode-table words. The table of this part gives no row any bits
(its rows are events and telegrams, not encoded words), so no word spells a command: the answer is
`none` for every word. The byte layouts the spec does give, those of telegrams and of the
configuration image, are read in Machine/Telegram.lean and Machine/Image.lean. -/

namespace Sys2Proof

/-- The command that the low `nbits` bits of `w` spell by the opcode table: none, for the table
gives no row any bits. -/
def decodeTableWord (_nbits _w : Nat) : Option Instr := none

end Sys2Proof
end

