-- ==== Sys2Proof/Config.lean ====
section
/-! DEFINITION. The configuration of a zone as the accepted image gives it (chapters 1 to 10 name
the values, chapter 12 the layout), the fixed times of the part, and the one value the manual leaves
open. -/

namespace Sys2Proof

/-- A point's position (R56). -/
inductive Position where
  | normal
  | reverse
deriving DecidableEq, Repr

/-- The other position. -/
def Position.other : Position → Position
  | .normal => .reverse
  | .reverse => .normal

/-- The kinds of element (chapter 0, "Element"; R171 codes them 0, 1, 2). -/
inductive ElementKind where
  | sect
  | point
  | signal
deriving DecidableEq, Repr

/-- A bounding head of a section: a local head or an entry of the remote head table (R24). -/
inductive HeadRef where
  | localHead (head : Fin 24)
  | remoteHead (entry : Fin 8)
deriving DecidableEq, Repr

/-- One entry of a section's bounding list; `plus` is orientation +1 (R24). -/
structure Bound where
  head : HeadRef
  plus : Bool
deriving DecidableEq, Repr

/-- A configured section: its bounding list, its reset owner (`none` the own station) and the
neighbour's number for it (R24, R42). -/
structure SectionCfg where
  bounds : List Bound
  owner : Option (Fin 4)
  neighbourNumber : Option (Fin 32)
deriving DecidableEq, Repr

/-- A configured remote head table entry (R31). -/
structure RemoteHeadCfg where
  neighbour : Fin 4
  head : Fin 24
deriving DecidableEq, Repr

/-- A configured boundary map entry: a neighbour's element under a local name. -/
structure BoundaryCfg where
  neighbour : Fin 4
  kind : ElementKind
  number : Byte
deriving DecidableEq, Repr

/-- A configured point; the move limit in seconds (R54). -/
structure PointCfg where
  track : Fin 32
  individual : Bool
  moveLimit : Nat
deriving DecidableEq, Repr

/-- The two route classes (R69). -/
inductive RouteClass where
  | main
  | callOn
deriving DecidableEq, Repr

/-- The exit signal of a route or portion: a local signal, or a boundary map entry (R69). -/
inductive ExitSignal where
  | localSignal (signal : Fin 16)
  | remoteSignal (entry : Fin 32)
deriving DecidableEq, Repr

/-- What a route and a hosted portion have alike: the elements they hold and claim (R69, R152). -/
structure Plan where
  path : List (Fin 32)
  points : List (Fin 16 × Position)
  overlap : List (Fin 32)
  overlapPoints : List (Fin 16 × Position)
  flank : List (Fin 48)
  exit : ExitSignal
deriving DecidableEq, Repr

/-- A configured route; times in seconds (R69). -/
structure RouteCfg where
  cls : RouteClass
  entry : Fin 16
  plan : Plan
  approach : List (Fin 32)
  request : Option (Fin 4 × Fin 16)
  settingLimit : Nat
  approachTime : Nat
  overlapTime : Nat
deriving DecidableEq, Repr

/-- A configured hosted portion (R152). -/
structure PortionCfg where
  requester : Fin 4
  plan : Plan
deriving DecidableEq, Repr

/-- The element of a flank table entry with its required state (R118). The two remote kinds name a
boundary map entry. -/
inductive FlankElement where
  | point (point : Fin 16) (position : Position)
  | signal (signal : Fin 16)
  | remotePoint (entry : Fin 32) (position : Position)
  | remoteSignal (entry : Fin 32)
deriving DecidableEq, Repr

/-- A configured flank table entry (R118, R119). -/
structure FlankCfg where
  element : FlankElement
  substitute : Option (Fin 48)
  requestable : Bool
deriving DecidableEq, Repr

/-- The four reply policies (R150). -/
inductive ReplyPolicy where
  | wait
  | resend
  | drop
  | block
deriving DecidableEq, Repr

/-- A configured neighbour; reply time and silence limit in steps of 100 ms, already clamped
(R144). -/
structure NeighbourCfg where
  address : Byte
  code : Word
  replyTime : Nat
  silenceLimit : Nat
  policy : ReplyPolicy
deriving DecidableEq, Repr

/-- A configured panel (R132). -/
structure PanelCfg where
  address : Byte
  code : Word
deriving DecidableEq, Repr

/-- Every configured table. An entry is `none` where the image configures no such element; a head
and a signal carry only whether they are reported (R39, R91). Periods in milliseconds, already
clamped (R146, R165). -/
structure ZoneConfig where
  statusPeriod : Nat
  displayPeriod : Nat
  heads : Vector (Option Bool) 24
  sections : Vector (Option SectionCfg) 32
  remoteHeads : Vector (Option RemoteHeadCfg) 8
  boundary : Vector (Option BoundaryCfg) 32
  points : Vector (Option PointCfg) 16
  signals : Vector (Option Bool) 16
  routes : Vector (Option RouteCfg) 64
  flank : Vector (Option FlankCfg) 48
  portions : Vector (Option PortionCfg) 16
  neighbours : Vector (Option NeighbourCfg) 4
  panels : Vector (Option PanelCfg) 2
deriving DecidableEq, Repr

/-- The tables from reset until an image is accepted: nothing is configured. The periods are the
defaults, which a HALT entered from CONFIG applies (R166). -/
def ZoneConfig.empty : ZoneConfig where
  statusPeriod := 200
  displayPeriod := 500
  heads := Vector.replicate 24 none
  sections := Vector.replicate 32 none
  remoteHeads := Vector.replicate 8 none
  boundary := Vector.replicate 32 none
  points := Vector.replicate 16 none
  signals := Vector.replicate 16 none
  routes := Vector.replicate 64 none
  flank := Vector.replicate 48 none
  portions := Vector.replicate 16 none
  neighbours := Vector.replicate 4 none
  panels := Vector.replicate 2 none

/-! Fixed times on the 100 ms base, in steps of it (R170's last paragraph and the rules named). -/

/-- Rest timer, 1.0 s (R20). -/
def Config.restTime : Nat := 10
/-- Settle timer, 0.3 s (R61). -/
def Config.settleTime : Nat := 3
/-- Lamp proving delay, 0.3 s (R92). -/
def Config.provingTime : Nat := 3
/-- Reset confirm window, 10 s (R43). -/
def Config.windowTime : Nat := 100
/-- Quiet period, 3.0 s (R167). -/
def Config.quietTime : Nat := 30
/-- Panel silence limit, 5.0 s (R141). -/
def Config.panelSilence : Nat := 50
/-- Line health timer, 2.0 s (R142). -/
def Config.lineHealth : Nat := 20

/-! Fixed times on the station's own time, in milliseconds. -/

/-- Reading limit of the image, 2.0 s (R166). -/
def Config.readLimit : Nat := 2000
/-- STATUS pacing, 50 ms (R146). -/
def Config.statusPacing : Nat := 50
/-- DISPLAY pacing, 100 ms (R165). -/
def Config.displayPacing : Nat := 100
/-- Life of a telegram in its place, 100 ms (R136). -/
def Config.telegramLife : Nat := 100

/-- FREE VALUE (log 15). The pairing code a STATUS carries in RUN where the zone has no neighbour:
R133 says "the neighbours' code", and with none configured the manual gives no such code. -/
opaque Config.codeWithoutNeighbours : Word

end Sys2Proof
end

