-- ==== Sys2Proof/Machine/State.lean ====
section
/-! DEFINITION. The state of the part, block by block as chapter 0 lists the blocks, and its value
right after reset. Every record is plain data. Timers are modelled as stopped, or running with the
number of ends of their time base still to come. -/

namespace Sys2Proof.Machine

open Sys2Proof

/-- No command of this part stops it with a fault: the part's own stop is the station state HALT,
which is a state like the others (R169). -/
inductive Fault where
deriving DecidableEq, Repr

/-- Why a command would have no meaning. -/
inductive Refusal where
  /-- The meaning of this row has not been written. Raised by an arm of `exec` alone. Safe: nothing
  can be concluded of such a command. -/
  | notModelled (mnemonic : String)
deriving DecidableEq, Repr

/-- A timer: stopped, or running with `left` further ends of its base before it expires (R1). -/
inductive Timer where
  | stopped
  | running (left : Nat)
deriving DecidableEq, Repr

/-! ## FSU -/

/-- The filter record of one input (1.1.2): length N, the most recent logical samples (newest
first, at most N), the filtered value (`true` is active). -/
structure FilterRec where
  length : Nat
  history : List Bool
  value : Bool
deriving DecidableEq, Repr

/-- The role of an input (1.1.1). -/
inductive InputRole where
  | unbound
  | sensorA (head : Fin 24)
  | sensorB (head : Fin 24)
  | detectN (point : Fin 16)
  | detectR (point : Fin 16)
  | prove (signal : Fin 16) (lamp : Lamp)
deriving DecidableEq, Repr

/-- One input: role, polarity, filter (R2, R3, R5). -/
structure InputRec where
  role : InputRole
  inverted : Bool
  filter : FilterRec
deriving DecidableEq, Repr

/-- The role of an output (1.3.1). -/
inductive OutputRole where
  | unbound
  | lamp (signal : Fin 16) (lamp : Lamp)
  | drive (point : Fin 16) (position : Position)
deriving DecidableEq, Repr

/-- One output: role, carrier code (`true` is code 1), safe state (`true` is ON) and energised
state (R10, R14). -/
structure OutputRec where
  role : OutputRole
  code : Bool
  safeOn : Bool
  energised : Bool
deriving DecidableEq, Repr

/-- The field scan unit. The carrier generators and the position within the flash half are read
from the clock (`State.ticks`); `onHalf` is the half of the flash phase (R12). -/
structure FieldScan where
  sensors : Vector InputRec 48
  contacts : Vector InputRec 80
  lamps : Vector OutputRec 48
  drives : Vector OutputRec 32
  onHalf : Bool
deriving DecidableEq, Repr

/-- What passes on a line: a whole byte (start bit, eight data bits, stop bit), or a number of bit
times in which the line is idle (R131). -/
inductive LineSymbol where
  | byte (b : Byte)
  | idle (bits : Nat)
deriving DecidableEq, Repr

/-- What the surroundings drive: the raw level of every input and of STOP (`true` is high), the
bytes the configuration memory has delivered since reset, and what each line has carried since the
last sensor sampling instant, oldest first. No command changes it (log 5); the receivers empty what
the lines carried as they take it (log 35). -/
structure Pins where
  sensors : Vector Bool 48
  contacts : Vector Bool 80
  stop : Bool
  delivered : List Byte
  lineA : List LineSymbol
  lineB : List LineSymbol
deriving DecidableEq, Repr

/-! ## ACU -/

/-- Where a head's decoder stands in a wheel passage (R17). -/
inductive Phase where
  | idle
  | aFirst
  | aBoth
  | aLeaving
  | bFirst
  | bBoth
  | bLeaving
  | faulted
deriving DecidableEq, Repr

/-- A head record (R17). -/
structure HeadRec where
  phase : Phase
  forward : Word
  backward : Word
  seqFault : Bool
  rest : Timer
deriving DecidableEq, Repr

/-- The states of a section (R25). -/
inductive SectionState where
  | clear
  | occupied
  | disturbed
  | prepared
  | sweeping
deriving DecidableEq, Repr

/-- A section record: count, state, OCC and CHG latches (R25). -/
structure SectionRec where
  count : Nat
  state : SectionState
  occ : Bool
  chg : Bool
deriving DecidableEq, Repr

/-- A remote head baseline (R31). -/
structure Baseline where
  valid : Bool
  forward : Word
  backward : Word
deriving DecidableEq, Repr

/-- The axle count unit. -/
structure AxleCount where
  heads : Vector HeadRec 24
  sections : Vector SectionRec 32
  baselines : Vector Baseline 8
deriving DecidableEq, Repr

/-! ## PCU -/

/-- The detected position of a point (R56). -/
inductive Detected where
  | normal
  | reverse
  | none
  | both
deriving DecidableEq, Repr

/-- The controller state of a point (4.3.1). -/
inductive Controller where
  | rest
  | movingN
  | movingR
  | failed
deriving DecidableEq, Repr

/-- A point record (R55). -/
structure PointRec where
  detected : Detected
  controller : Controller
  held : Option Position
  move : Timer
  settle : Timer
  chg : Bool
deriving DecidableEq, Repr

/-- The point control unit. -/
structure PointControl where
  points : Vector PointRec 16
deriving DecidableEq, Repr

/-! ## LKU and FLU -/

/-- What may hold an element: a route or a hosted portion (R70). -/
inductive Owner where
  | route (route : Fin 64)
  | portion (portion : Fin 16)
deriving DecidableEq, Repr

/-- In which role an element is held (R70). -/
inductive Role where
  | path
  | overlap
  | entry
deriving DecidableEq, Repr

/-- A holder of an element (R70). -/
structure Holder where
  owner : Owner
  role : Role
deriving DecidableEq, Repr

/-- Lock table entry of a section. -/
structure SectionLock where
  holder : Option Holder
  blocked : Bool
deriving DecidableEq, Repr

/-- Lock table entry of a point: holder, flank claim counts, block flag (R71). -/
structure PointLock where
  holder : Option Holder
  claimsN : Nat
  claimsR : Nat
  blocked : Bool
deriving DecidableEq, Repr

/-- Lock table entry of a signal: holder, flank hold count, block flag (R71). -/
structure SignalLock where
  holder : Option Holder
  holds : Nat
  blocked : Bool
deriving DecidableEq, Repr

/-- The states of a route (R73). -/
inductive RouteState where
  | idle
  | setting
  | locked
  | inUse
  | approachHeld
  | overlapHeld
deriving DecidableEq, Repr

/-- The status of a path section (R73). -/
inductive PathStatus where
  | locked
  | seenOccupied
  | released
deriving DecidableEq, Repr

/-- The overlap state of a route or portion (R73). -/
inductive OverlapState where
  | none
  | held
  | released
deriving DecidableEq, Repr

/-- One item of a held-flank set: the entry chosen and, for a remote element, its offer record
(R120). -/
structure FlankItem where
  entry : Fin 48
  offer : Option (Fin 8)
deriving DecidableEq, Repr

/-- What the runtime records of a route and of a hosted portion have alike: the status of each path
section (places beyond the configured path stay LOCKED), the overlap state and the held-flank set,
which the FLU keeps for the record (R73, R120, R152). -/
structure Hold where
  status : Vector PathStatus 8
  overlap : OverlapState
  flank : List FlankItem
deriving DecidableEq, Repr

/-- A route's pool reference (R73). The place in the queue is the route's position in
`TimerPool.queue`. -/
inductive PoolRef where
  | none
  | timer (timer : Fin 16)
  | queued
deriving DecidableEq, Repr

/-- A route runtime record (R73). `note` is the PASSED_AT_DANGER note. -/
structure RouteRec where
  state : RouteState
  setting : Timer
  hold : Hold
  offers : List (Fin 8)
  pool : PoolRef
  note : Bool
deriving DecidableEq, Repr

/-- The locking unit with the held-flank sets of the flank unit. -/
structure Locking where
  sections : Vector SectionLock 32
  points : Vector PointLock 16
  signals : Vector SignalLock 16
  routes : Vector RouteRec 64
deriving DecidableEq, Repr

/-! ## ASU -/

/-- The four aspects, from most to least restrictive. -/
inductive Aspect where
  | danger
  | callOn
  | caution
  | proceed
deriving DecidableEq, Repr

/-- The supervision record of one lamp (R92). -/
structure LampRec where
  failed : Bool
  stray : Bool
  failureTimer : Timer
  strayTimer : Timer
  strayClearTimer : Timer
deriving DecidableEq, Repr

/-- A signal record (R92). `kept` is the model's own field: the shown aspect as the last event left
it, which nothing but a flash boundary makes less restrictive (R97, log 36). -/
structure SignalRec where
  presented : Aspect
  kept : Aspect
  red : LampRec
  yellow : LampRec
  green : LampRec
deriving DecidableEq, Repr

/-- The aspect unit. -/
structure AspectUnit where
  signals : Vector SignalRec 16
deriving DecidableEq, Repr

/-! ## RTP -/

/-- A granted release timer: the route and its running time (R114). -/
structure PoolTimer where
  route : Fin 64
  time : Timer
deriving DecidableEq, Repr

/-- The release timer pool: 16 timers, and the wait queue, oldest request first (R114). -/
structure TimerPool where
  timers : Vector (Option PoolTimer) 16
  queue : List (Fin 64)
deriving DecidableEq, Repr

/-! ## SLU -/

/-- A telegram of the own station (R133). -/
structure Telegram where
  source : Byte
  dest : Byte
  seq : Byte
  code : Word
  payload : Payload
deriving DecidableEq, Repr

/-- How far one line has come with a placed telegram: finished there, attempts used, and whether its
100 ms ran out during an attempt (R134, R136). -/
structure LineProgress where
  finished : Bool
  attempts : Nat
  late : Bool
deriving DecidableEq, Repr

/-- A telegram in a place (R134). `serial` is the model's own number of the placing (log 20);
`life` is what is left of its 100 ms. -/
structure TxItem where
  serial : Nat
  telegram : Telegram
  onA : LineProgress
  onB : LineProgress
  life : Timer
deriving DecidableEq, Repr

/-- An attempt in progress on a line (R136). -/
structure Attempt where
  serial : Nat
  telegram : Telegram
deriving DecidableEq, Repr

/-- A line health timer: not started, running, or expired (R142). -/
inductive LineHealth where
  | stopped
  | running (left : Nat)
  | expired
deriving DecidableEq, Repr

/-- The receiver of a line (R131): the bit times for which the line has been idle, counted up to 24,
and the bytes of the telegram being collected, where one has begun. -/
structure Receiver where
  idle : Nat
  bytes : Option (List Byte)
deriving DecidableEq, Repr

/-- What belongs to one line: the attempt in progress, the health timer and the receiver. -/
structure LineRec where
  attempt : Option Attempt
  health : LineHealth
  receiver : Receiver
deriving DecidableEq, Repr

/-- The station line unit (R143). `placings` counts the telegrams placed since reset, the model's
own serial (log 20). -/
structure StationLine where
  counter : Byte
  placings : Nat
  classOne : List TxItem
  statusSlot : Option TxItem
  displayZero : Option TxItem
  displayOne : Option TxItem
  lineA : LineRec
  lineB : LineRec
  neighbourWindows : Vector (List Byte) 4
  panelWindows : Vector (List Byte) 2
  panelSilence : Vector Timer 2
deriving DecidableEq, Repr

/-! ## HOU -/

/-- The state of a neighbour record (R144). -/
inductive NeighbourState where
  | neverHeard
  | alive
  | silent
deriving DecidableEq, Repr

/-- A neighbour record (R144). -/
structure NeighbourRec where
  state : NeighbourState
  blocked : Bool
  silence : Timer
  view : Option StatusContent
deriving DecidableEq, Repr

/-- The kind of an offer (R148). -/
inductive OfferKind where
  | portion
  | flank
deriving DecidableEq, Repr

/-- The state of an offer record (R148). -/
inductive OfferState where
  | sent
  | granted
  | unconfirmed
deriving DecidableEq, Repr

/-- An offer record (R148). `code` is the element code a FLANK_REQUEST carries, kept so that a
resend repeats it (log 24). -/
structure Offer where
  id : Byte
  kind : OfferKind
  neighbour : Fin 4
  target : Byte
  code : Byte
  route : Fin 64
  state : OfferState
  resends : Nat
  reply : Timer
deriving DecidableEq, Repr

/-- The runtime state of a hosted portion (R152). -/
inductive PortionState where
  | idle
  | setting
  | proven
  | inUse
  | overlapHeld
deriving DecidableEq, Repr

/-- A hosted portion record (R152): `requester` is the neighbour and the offer id, `released` the
requester-released mark. -/
structure PortionRec where
  state : PortionState
  requester : Option (Fin 4 × Byte)
  hold : Hold
  orphan : Bool
  released : Bool
deriving DecidableEq, Repr

/-- A hosted flank grant record in use (R127). -/
structure Grant where
  requester : Fin 4
  offerId : Byte
  requested : Fin 48
  used : Fin 48
  proven : Bool
  orphan : Bool
deriving DecidableEq, Repr

/-- The handover unit: neighbour records, offer table, hosted records, and the times of STATUS
(R146). `statusChange` says that a change of content waits for the end of the 50 ms. -/
structure Handover where
  neighbours : Vector NeighbourRec 4
  offers : Vector (Option Offer) 8
  lastId : Byte
  portions : Vector PortionRec 16
  grants : Vector (Option Grant) 8
  statusPeriod : Timer
  statusPacing : Timer
  statusChange : Bool
deriving DecidableEq, Repr

/-! ## CMU -/

/-- A queued command (R160). -/
structure QueuedCommand where
  panel : Fin 2
  seq : Byte
  code : Byte
  arg1 : Byte
  arg2 : Byte
  arg3 : Byte
deriving DecidableEq, Repr

/-- The pending reset record (R43). -/
structure PendingReset where
  number : Fin 32
  panel : Byte
  window : Timer
deriving DecidableEq, Repr

/-- The fault kinds, in the order of R164. -/
inductive FaultKind where
  | configFault
  | stopped
  | headSequence
  | remoteImplausible
  | pointTimeout
  | trailed
  | pointLost
  | pointContradiction
  | settingFailed
  | passedAtDanger
  | lampFailed
  | strayProving
  | pairingMismatch
  | lineFault
  | neighbourBlocked
deriving DecidableEq, Repr

/-- A fault condition: its kind and its element as R171 codes it. -/
structure Condition where
  kind : FaultKind
  element : Byte
deriving DecidableEq, Repr

/-- The times of one DISPLAY page: the 100 ms after its placing, and whether a change of content
waits for their end (R165). -/
structure PageTimes where
  pacing : Timer
  change : Bool
deriving DecidableEq, Repr

/-- The command unit. The fault set is a list in the order of R164's fault list, each condition
once. -/
structure CommandUnit where
  queue : List QueuedCommand
  pendingReset : Option PendingReset
  faults : List Condition
  displayPeriod : Timer
  pageZero : PageTimes
  pageOne : PageTimes
deriving DecidableEq, Repr

/-! ## SLD -/

/-- The station states (11.5). -/
inductive StationState where
  | config
  | quiet
  | run
  | halt
deriving DecidableEq, Repr

/-- The check state of the configuration image. -/
inductive CheckState where
  | reading
  | accepted
  | refused
deriving DecidableEq, Repr

/-- The start-up loader: station state, image check state and fault code, the own address once a
header has given one, the reading limit, the quiet timer, and the filter of STOP (R166 to R168). -/
structure Loader where
  station : StationState
  check : CheckState
  faultCode : Byte
  ownAddress : Option Byte
  reading : Timer
  quiet : Timer
  stopFilter : FilterRec
deriving DecidableEq, Repr

/-- The state of the part. `pending` is the queue of the commands that are waiting, first in first
out; `ticks` the sensor sampling intervals (0.25 ms) since reset. -/
structure State where
  pending : List Instr
  ticks : Nat
  pins : Pins
  config : ZoneConfig
  fsu : FieldScan
  acu : AxleCount
  pcu : PointControl
  lku : Locking
  asu : AspectUnit
  rtp : TimerPool
  slu : StationLine
  hou : Handover
  cmu : CommandUnit
  sld : Loader
deriving DecidableEq, Repr

/-! ## Reset values -/

/-- A filter just started (R6). -/
def FilterRec.started (length : Nat) : FilterRec := ⟨length, [], false⟩

/-- A progress record of a telegram just placed. -/
def LineProgress.fresh : LineProgress := ⟨false, 0, false⟩

/-- The hold of an idle record: every path section LOCKED, no flank (R73). -/
def Hold.idle (overlap : OverlapState) : Hold := ⟨Vector.replicate 8 .locked, overlap, []⟩

/-- An idle route record (R73). -/
def RouteRec.idle (overlap : OverlapState) : RouteRec :=
  ⟨.idle, .stopped, Hold.idle overlap, [], .none, false⟩

/-- An idle hosted portion record (R152). -/
def PortionRec.idle (overlap : OverlapState) : PortionRec :=
  ⟨.idle, none, Hold.idle overlap, false, false⟩

/-- A lamp record at reset (R92). -/
def LampRec.reset : LampRec := ⟨false, false, .stopped, .stopped, .stopped⟩

/-- The FSU at reset (R16). -/
def FieldScan.reset : FieldScan where
  sensors := Vector.replicate 48 ⟨.unbound, false, .started 3⟩
  contacts := Vector.replicate 80 ⟨.unbound, false, .started 8⟩
  lamps := Vector.replicate 48 ⟨.unbound, false, false, false⟩
  drives := Vector.replicate 32 ⟨.unbound, false, false, false⟩
  onHalf := true

/-- The ACU at reset (R17, R25, R31). -/
def AxleCount.reset : AxleCount where
  heads := Vector.replicate 24 ⟨.idle, 0, 0, false, .stopped⟩
  sections := Vector.replicate 32 ⟨0, .disturbed, false, false⟩
  baselines := Vector.replicate 8 ⟨false, 0, 0⟩

/-- The PCU at reset (R55). -/
def PointControl.reset : PointControl where
  points := Vector.replicate 16 ⟨.none, .rest, none, .stopped, .stopped, false⟩

/-- The LKU at reset (R70 to R73). -/
def Locking.reset : Locking where
  sections := Vector.replicate 32 ⟨none, false⟩
  points := Vector.replicate 16 ⟨none, 0, 0, false⟩
  signals := Vector.replicate 16 ⟨none, 0, false⟩
  routes := Vector.replicate 64 (RouteRec.idle .none)

/-- The ASU at reset (R92). -/
def AspectUnit.reset : AspectUnit where
  signals := Vector.replicate 16 ⟨.danger, .danger, .reset, .reset, .reset⟩

/-- The RTP at reset (R114). -/
def TimerPool.reset : TimerPool where
  timers := Vector.replicate 16 none
  queue := []

/-- The receiver of a line at reset: no telegram begun and no idle counted (log 35). -/
def Receiver.reset : Receiver := ⟨0, none⟩

/-- The SLU at reset (R143). -/
def StationLine.reset : StationLine where
  counter := 0
  placings := 0
  classOne := []
  statusSlot := none
  displayZero := none
  displayOne := none
  lineA := ⟨none, .stopped, .reset⟩
  lineB := ⟨none, .stopped, .reset⟩
  neighbourWindows := Vector.replicate 4 []
  panelWindows := Vector.replicate 2 []
  panelSilence := Vector.replicate 2 .stopped

/-- The HOU at reset (R127, R144, R148, R152). -/
def Handover.reset : Handover where
  neighbours := Vector.replicate 4 ⟨.neverHeard, false, .stopped, none⟩
  offers := Vector.replicate 8 none
  lastId := 255
  portions := Vector.replicate 16 (PortionRec.idle .none)
  grants := Vector.replicate 8 none
  statusPeriod := .stopped
  statusPacing := .stopped
  statusChange := false

/-- The CMU at reset (chapter 11, table of states). -/
def CommandUnit.reset : CommandUnit where
  queue := []
  pendingReset := none
  faults := []
  displayPeriod := .stopped
  pageZero := ⟨.stopped, false⟩
  pageOne := ⟨.stopped, false⟩

/-- The SLD at reset: CONFIG, reading, code 0, the 2.0 s of R166 running (chapter 11, R166, R168).
-/
def Loader.reset : Loader where
  station := .config
  check := .reading
  faultCode := 0
  ownAddress := none
  reading := .running (4 * Config.readLimit)
  quiet := .stopped
  stopFilter := .started 8

/-- Pins all low, nothing yet delivered, and nothing yet carried by the lines (log 5). -/
def Pins.low : Pins where
  sensors := Vector.replicate 48 false
  contacts := Vector.replicate 80 false
  stop := false
  delivered := []
  lineA := []
  lineB := []

/-- The part right after reset. -/
def State.reset : State where
  pending := []
  ticks := 0
  pins := .low
  config := .empty
  fsu := .reset
  acu := .reset
  pcu := .reset
  lku := .reset
  asu := .reset
  rtp := .reset
  slu := .reset
  hou := .reset
  cmu := .reset
  sld := .reset

end Sys2Proof.Machine
end

