-- ==== Sys2Proof/Machine/Codes.lean ====
section
/-! DEFINITION. The numeric codes of 12.2 (R171): kinds, commands, states, reasons, fault kinds,
configuration fault codes, and reading them back where the part receives them. -/

namespace Sys2Proof.Machine

open Sys2Proof

/-- Telegram kinds. -/
def kindStatus : Byte := 1
def kindDisplay : Byte := 2
def kindPortionRequest : Byte := 3
def kindPortionGrant : Byte := 4
def kindPortionRefuse : Byte := 5
def kindPortionRelease : Byte := 6
def kindFlankRequest : Byte := 7
def kindFlankGrant : Byte := 8
def kindFlankRefuse : Byte := 9
def kindFlankRelease : Byte := 10
def kindSectionReset : Byte := 11
def kindCommand : Byte := 12
def kindCommandResult : Byte := 13

/-- Command codes. -/
def cmdSetRoute : Byte := 1
def cmdCancelRoute : Byte := 2
def cmdMovePoint : Byte := 3
def cmdBlock : Byte := 4
def cmdResetSection : Byte := 5
def cmdConfirmReset : Byte := 6
def cmdClearNeighbourBlock : Byte := 7
def cmdClearFault : Byte := 8

/-- The kind code of a payload. -/
def kindOf : Payload → Byte
  | .status _ => kindStatus
  | .displayZero _ => kindDisplay
  | .displayOne _ => kindDisplay
  | .portionRequest _ _ => kindPortionRequest
  | .portionGrant _ _ => kindPortionGrant
  | .portionRefuse _ _ _ => kindPortionRefuse
  | .portionRelease _ _ => kindPortionRelease
  | .flankRequest _ _ _ => kindFlankRequest
  | .flankGrant _ => kindFlankGrant
  | .flankRefuse _ _ => kindFlankRefuse
  | .flankRelease _ => kindFlankRelease
  | .sectionReset _ => kindSectionReset
  | .command _ _ _ _ => kindCommand
  | .commandResult _ _ _ _ => kindCommandResult

def StationState.code : StationState → Byte
  | .config => 0
  | .quiet => 1
  | .run => 2
  | .halt => 3

def NeighbourState.code : NeighbourState → Byte
  | .neverHeard => 0
  | .alive => 1
  | .silent => 2

def RouteState.code : RouteState → Byte
  | .idle => 0
  | .setting => 1
  | .locked => 2
  | .inUse => 3
  | .approachHeld => 4
  | .overlapHeld => 5

def PortionState.code : PortionState → Byte
  | .idle => 0
  | .setting => 1
  | .proven => 2
  | .inUse => 3
  | .overlapHeld => 4

def SectionState.code : SectionState → Byte
  | .clear => 0
  | .occupied => 1
  | .disturbed => 2
  | .prepared => 3
  | .sweeping => 4

/-- A section state as a STATUS carries it; `none` for a byte that codes no state. -/
def sectionStateOf (b : Byte) : Option SectionState :=
  match b.toNat with
  | 0 => some .clear
  | 1 => some .occupied
  | 2 => some .disturbed
  | 3 => some .prepared
  | 4 => some .sweeping
  | _ => none

def Aspect.code : Aspect → Byte
  | .danger => 0
  | .callOn => 1
  | .caution => 2
  | .proceed => 3

/-- The rank of an aspect, 0 the most restrictive (chapter 0, "Positions and aspects"). -/
def Aspect.rank : Aspect → Nat
  | .danger => 0
  | .callOn => 1
  | .caution => 2
  | .proceed => 3

/-- The aspect in bits 0 to 1 of a STATUS signal entry. -/
def aspectOf (b : Byte) : Aspect :=
  match (b.toNat % 4) with
  | 0 => .danger
  | 1 => .callOn
  | 2 => .caution
  | _ => .proceed

def Detected.code : Detected → Byte
  | .normal => 0
  | .reverse => 1
  | .none => 2
  | .both => 3

def Controller.code : Controller → Byte
  | .rest => 0
  | .movingN => 1
  | .movingR => 2
  | .failed => 3

def FaultKind.code : FaultKind → Byte
  | .configFault => 1
  | .stopped => 2
  | .headSequence => 3
  | .remoteImplausible => 4
  | .pointTimeout => 5
  | .trailed => 6
  | .pointLost => 7
  | .pointContradiction => 8
  | .settingFailed => 9
  | .passedAtDanger => 10
  | .lampFailed => 11
  | .strayProving => 12
  | .pairingMismatch => 13
  | .lineFault => 14
  | .neighbourBlocked => 15

/-- The fault kind a CLEAR_FAULT argument codes, of those that are latching (R163, R164). -/
def latchingKindOf (b : Byte) : Option FaultKind :=
  match b.toNat with
  | 3 => some .headSequence
  | 4 => some .remoteImplausible
  | 5 => some .pointTimeout
  | 6 => some .trailed
  | 9 => some .settingFailed
  | 10 => some .passedAtDanger
  | _ => none

/-- The reasons of a refusal. -/
inductive Reason where
  | notIdle
  | conflict
  | blocked
  | flankHeld
  | pointOccupied
  | neighbourSilent
  | neighbourBlocked
  | flankUnavailable
  | noOfferSlot
  | notSet
  | inUse
  | alreadyReleasing
  | pointNotFree
  | notPermitted
  | alreadyThere
  | busy
  | notOwner
  | notResettable
  | sectionLocked
  | resetPending
  | confirmMismatch
  | noPendingReset
  | unknownElement
  | unknownCommand
  | notLatched
  | halted
  | wrongRequester
  | noGrantSlot
deriving DecidableEq, Repr

def Reason.code : Reason → Byte
  | .notIdle => 1
  | .conflict => 2
  | .blocked => 3
  | .flankHeld => 4
  | .pointOccupied => 5
  | .neighbourSilent => 6
  | .neighbourBlocked => 7
  | .flankUnavailable => 8
  | .noOfferSlot => 9
  | .notSet => 10
  | .inUse => 11
  | .alreadyReleasing => 12
  | .pointNotFree => 13
  | .notPermitted => 14
  | .alreadyThere => 15
  | .busy => 16
  | .notOwner => 17
  | .notResettable => 18
  | .sectionLocked => 19
  | .resetPending => 20
  | .confirmMismatch => 21
  | .noPendingReset => 22
  | .unknownElement => 23
  | .unknownCommand => 24
  | .notLatched => 25
  | .halted => 26
  | .wrongRequester => 27
  | .noGrantSlot => 28

/-- The configuration fault codes (R170). -/
inductive ImageFault where
  | read
  | header
  | crc
  | count
  | reference
  | binding
  | safeState
  | flankChain
  | boundaryMap
  | remoteHead
  | safetyTime
  | stopped
deriving DecidableEq, Repr

def ImageFault.code : ImageFault → Byte
  | .read => 1
  | .header => 2
  | .crc => 3
  | .count => 4
  | .reference => 5
  | .binding => 6
  | .safeState => 7
  | .flankChain => 8
  | .boundaryMap => 9
  | .remoteHead => 10
  | .safetyTime => 11
  | .stopped => 12

/-- Element numbers as the lines carry them. -/
def byteOf (n : Nat) : Byte := BitVec.ofNat 8 n

/-- A byte as an index below `n`, where it is one. -/
def indexOf? (n : Nat) (b : Byte) : Option (Fin n) :=
  if h : b.toNat < n then some ⟨b.toNat, h⟩ else none

/-- A lamp's number within its signal in a fault element. -/
def lampNumber : Lamp → Nat
  | .red => 0
  | .yellow => 1
  | .green => 2

/-- The fault element of a lamp condition: signal × 4 + lamp. -/
def lampElement (signal : Fin 16) (lamp : Lamp) : Byte := byteOf (signal.val * 4 + lampNumber lamp)

/-- The fault element of a line: 0 for A, 1 for B. -/
def lineElement : Line → Byte
  | .a => 0
  | .b => 1

/-- The element code of a flank element: 0 point NORMAL, 1 point REVERSE, 2 signal at danger. -/
def flankCode : FlankElement → Byte
  | .point _ .normal => 0
  | .point _ .reverse => 1
  | .signal _ => 2
  | .remotePoint _ .normal => 0
  | .remotePoint _ .reverse => 1
  | .remoteSignal _ => 2

end Sys2Proof.Machine
end

