-- ==== Sys2Proof/Machine/Flags.lean ====
section
/-! DEFINITION. The flags other blocks read: timers (R1), the notice latches of a section (R28) with
the count and state changes that set them (R27, R40, R48), and the fault set (R164). -/

namespace Sys2Proof.Machine

open Sys2Proof

/-! ## Timers -/

/-- A timer of the 100 ms base started with a duration of `steps` steps. It expires at the end of
the base step in which the duration has run out, so no earlier than the duration and at most one
step later (R1). -/
def Timer.start (steps : Nat) : Timer := .running (steps + 1)

/-- A timer of the station's own time started with a duration in milliseconds, counted in sampling
intervals of 0.25 ms. -/
def Timer.startMs (ms : Nat) : Timer := .running (4 * ms)

/-- Whether a timer is running. -/
def Timer.isRunning : Timer → Bool
  | .stopped => false
  | .running _ => true

/-- One end of the timer's base passes. -/
def Timer.tick : Timer → Timer
  | .stopped => .stopped
  | .running n => .running (n - 1)

/-- Whether a timer expires at the present end of its base (`t` after the end is counted). -/
def Timer.due : Timer → Bool
  | .stopped => false
  | .running n => n == 0

/-! ## Sections -/

/-- The notice latches after an event that takes a section record from `old` to `new` (R28): CHG at
a change of state, OCC at a change away from CLEAR, and both at a rise of the count outside
DISTURBED. A latch already set stays set. -/
def SectionRec.latched (old new : SectionRec) : SectionRec :=
  let changed := new.state ≠ old.state
  let rose := old.count < new.count ∧ new.state ≠ .disturbed
  { new with
    chg := old.chg || changed || rose
    occ := old.occ || (old.state = .clear ∧ new.state ≠ .clear) || rose }

/-- The state a section takes at a count within 0 to 999 (R27). -/
def SectionState.atCount (state : SectionState) (count : Nat) : SectionState :=
  match state with
  | .clear => if count = 0 then .clear else .occupied
  | .occupied => if count = 0 then .clear else .occupied
  | .prepared => if count = 0 then .prepared else .sweeping
  | .sweeping => if count = 0 then .clear else .sweeping
  | .disturbed => .disturbed

/-- The count and state after a signed change `d`, latches aside (R27). -/
def SectionRec.shifted (d : Int) (r : SectionRec) : SectionRec :=
  let c : Int := r.count + d
  if d = 0 then r
  else if c < 0 then { r with count := 0, state := .disturbed }
  else if 999 < c then { r with count := 999, state := .disturbed }
  else { r with count := c.toNat, state := r.state.atCount c.toNat }

/-- A signed change as one event at the section record (R27, R28). -/
def SectionRec.change (d : Int) (r : SectionRec) : SectionRec := r.latched (r.shifted d)

/-- DISTURBED with the count unchanged, as one event (R40, R28). -/
def SectionRec.disturb (r : SectionRec) : SectionRec := r.latched { r with state := .disturbed }

/-- The execution of a section reset: count 0, PREPARED, CHG set, OCC left (R48). -/
def SectionRec.prepare (r : SectionRec) : SectionRec :=
  { r with count := 0, state := .prepared, chg := true }

/-- Both latches cleared: the taking of the notice (R29). -/
def SectionRec.noticed (r : SectionRec) : SectionRec := { r with occ := false, chg := false }

/-- CLEAR with no pending OCC: the occupancy test of points, releases and overlaps. -/
def SectionRec.isFree (r : SectionRec) : Bool := r.state == .clear && !r.occ

/-! ## The fault set -/

/-- The place of a condition in the order of the fault list (R164). -/
def Condition.key (c : Condition) : Nat := c.kind.code.toNat * 256 + c.element.toNat

/-- The fault set with a condition set; one that stands stays a single condition. -/
def setCondition (c : Condition) : List Condition → List Condition
  | [] => [c]
  | d :: rest =>
    if c = d then d :: rest
    else if c.key < d.key then c :: d :: rest
    else d :: setCondition c rest

/-- The fault set with a condition removed. -/
def clearCondition (c : Condition) (faults : List Condition) : List Condition :=
  faults.filter (fun d => d ≠ c)

/-- The fault set with a condition set or removed as a truth value says. -/
def putCondition (c : Condition) (stands : Bool) (faults : List Condition) : List Condition :=
  if stands then setCondition c faults else clearCondition c faults

/-! ## Filters -/

/-- The filter record after one more logical sample, and whether there is an edge (R5). -/
def FilterRec.sample (v : Bool) (r : FilterRec) : FilterRec × Bool :=
  let history := (v :: r.history).take r.length
  let edge := r.length ≤ history.length && history.all (· == !r.value)
  (⟨r.length, history, if edge then !r.value else r.value⟩, edge)

/-- The filter record at an edge the surroundings report: the filtered value taken, and the N
samples that led to it in the history (log 6). -/
def FilterRec.accept (v : Bool) (r : FilterRec) : FilterRec :=
  if r.value = v then r else ⟨r.length, List.replicate r.length v, v⟩

end Sys2Proof.Machine
end

