-- ==== Sys2Proof/Machine/Ops.lean ====
section
/-! DEFINITION. The named operations over the records: one update for each kind of record, the fault
set of a state, and the look-ups in the configuration that several blocks share. -/

namespace Sys2Proof.Machine

open Sys2Proof

/-- The numbers 0 to n − 1. -/
abbrev indices (n : Nat) : List (Fin n) := List.finRange n

/-! ## One update for each kind of record -/

def State.updHead (s : State) (h : Fin 24) (f : HeadRec → HeadRec) : State :=
  { s with acu := { s.acu with heads := upd s.acu.heads h f } }
def State.updSection (s : State) (k : Fin 32) (f : SectionRec → SectionRec) : State :=
  { s with acu := { s.acu with sections := upd s.acu.sections k f } }
def State.mapSections (s : State) (f : Fin 32 → SectionRec → SectionRec) : State :=
  { s with acu := { s.acu with sections := mapTab f s.acu.sections } }
def State.mapBaselines (s : State) (f : Fin 8 → Baseline → Baseline) : State :=
  { s with acu := { s.acu with baselines := mapTab f s.acu.baselines } }
def State.updPoint (s : State) (p : Fin 16) (f : PointRec → PointRec) : State :=
  { s with pcu := { s.pcu with points := upd s.pcu.points p f } }
def State.mapPoints (s : State) (f : Fin 16 → PointRec → PointRec) : State :=
  { s with pcu := { s.pcu with points := mapTab f s.pcu.points } }
def State.updSectionLock (s : State) (k : Fin 32) (f : SectionLock → SectionLock) : State :=
  { s with lku := { s.lku with sections := upd s.lku.sections k f } }
def State.updPointLock (s : State) (p : Fin 16) (f : PointLock → PointLock) : State :=
  { s with lku := { s.lku with points := upd s.lku.points p f } }
def State.updSignalLock (s : State) (g : Fin 16) (f : SignalLock → SignalLock) : State :=
  { s with lku := { s.lku with signals := upd s.lku.signals g f } }
def State.updRoute (s : State) (r : Fin 64) (f : RouteRec → RouteRec) : State :=
  { s with lku := { s.lku with routes := upd s.lku.routes r f } }
def State.updSignal (s : State) (g : Fin 16) (f : SignalRec → SignalRec) : State :=
  { s with asu := { s.asu with signals := upd s.asu.signals g f } }
def State.mapSignals (s : State) (f : Fin 16 → SignalRec → SignalRec) : State :=
  { s with asu := { s.asu with signals := mapTab f s.asu.signals } }
def State.updPoolTimer (s : State) (k : Fin 16) (v : Option PoolTimer) : State :=
  { s with rtp := { s.rtp with timers := upd s.rtp.timers k fun _ => v } }
def State.setPoolQueue (s : State) (q : List (Fin 64)) : State :=
  { s with rtp := { s.rtp with queue := q } }
def State.updNeighbour (s : State) (n : Fin 4) (f : NeighbourRec → NeighbourRec) : State :=
  { s with hou := { s.hou with neighbours := upd s.hou.neighbours n f } }
def State.updOffer (s : State) (k : Fin 8) (f : Option Offer → Option Offer) : State :=
  { s with hou := { s.hou with offers := upd s.hou.offers k f } }
def State.updPortion (s : State) (p : Fin 16) (f : PortionRec → PortionRec) : State :=
  { s with hou := { s.hou with portions := upd s.hou.portions p f } }
def State.mapPortions (s : State) (f : Fin 16 → PortionRec → PortionRec) : State :=
  { s with hou := { s.hou with portions := mapTab f s.hou.portions } }
def State.updGrant (s : State) (k : Fin 8) (f : Option Grant → Option Grant) : State :=
  { s with hou := { s.hou with grants := upd s.hou.grants k f } }
def State.mapGrants (s : State) (f : Fin 8 → Option Grant → Option Grant) : State :=
  { s with hou := { s.hou with grants := mapTab f s.hou.grants } }
def State.updFaults (s : State) (f : List Condition → List Condition) : State :=
  { s with cmu := { s.cmu with faults := f s.cmu.faults } }

/-- A fault condition set (R164). -/
def State.setFault (s : State) (kind : FaultKind) (element : Byte) : State :=
  s.updFaults (setCondition ⟨kind, element⟩)

/-- A fault condition removed (R164). -/
def State.clearFault (s : State) (kind : FaultKind) (element : Byte) : State :=
  s.updFaults (clearCondition ⟨kind, element⟩)

/-- Whether a fault condition stands. -/
def State.hasFault (s : State) (kind : FaultKind) (element : Byte) : Bool :=
  s.cmu.faults.contains ⟨kind, element⟩

/-- The FAULT output: active while the fault set holds a condition (R164). -/
def State.faultOutput (s : State) : Bool := !s.cmu.faults.isEmpty

/-- A list of updates applied one after the other. -/
@[irreducible] def State.forEach {α : Type} (s : State) (xs : List α) (f : State → α → State)
    : State :=
  xs.foldl f s

/-! ## Look-ups -/

/-- The orientation with which a section names a head in its bounding list; `true` is +1 (R24). -/
def orientationOf (cfg : ZoneConfig) (k : Fin 32) (head : HeadRef) : Option Bool :=
  (cfg.sections[k]).bind fun c => (c.bounds.find? fun b => b.head == head).map (·.plus)

/-- Whether a section's bounding list names a head. -/
def bounds (cfg : ZoneConfig) (k : Fin 32) (head : HeadRef) : Bool :=
  (orientationOf cfg k head).isSome

/-- The neighbour whose remote heads bound a section; `none` for a local section (R24). -/
def boundaryNeighbour (cfg : ZoneConfig) (k : Fin 32) : Option (Fin 4) :=
  (cfg.sections[k]).bind fun c =>
    c.bounds.findSome? fun b =>
      match b.head with
      | .localHead _ => none
      | .remoteHead e => (cfg.remoteHeads[e]).map (·.neighbour)

/-- The common part of an owner's configuration. -/
def planOf (cfg : ZoneConfig) : Owner → Option Plan
  | .route r => (cfg.routes[r]).map (·.plan)
  | .portion p => (cfg.portions[p]).map (·.plan)

/-- The path of an owner; empty where it is not configured. -/
def pathOf (cfg : ZoneConfig) (o : Owner) : List (Fin 32) := ((planOf cfg o).map (·.path)).getD []
def pointsOf (cfg : ZoneConfig) (o : Owner) : List (Fin 16 × Position) :=
  ((planOf cfg o).map (·.points)).getD []
def overlapOf (cfg : ZoneConfig) (o : Owner) : List (Fin 32) :=
  ((planOf cfg o).map (·.overlap)).getD []
def overlapPointsOf (cfg : ZoneConfig) (o : Owner) : List (Fin 16 × Position) :=
  ((planOf cfg o).map (·.overlapPoints)).getD []
def flankListOf (cfg : ZoneConfig) (o : Owner) : List (Fin 48) :=
  ((planOf cfg o).map (·.flank)).getD []

/-- The position an owner's configuration requires of a point (R70). -/
def requiredPosition (cfg : ZoneConfig) (o : Owner) (p : Fin 16) : Option Position :=
  ((pointsOf cfg o ++ overlapPointsOf cfg o).find? fun q => q.1 == p).map (·.2)

/-- Whether an owner has an overlap. -/
def hasOverlap (cfg : ZoneConfig) (o : Owner) : Bool :=
  !(overlapOf cfg o).isEmpty || !(overlapPointsOf cfg o).isEmpty

/-- The overlap state of an idle record (R73). -/
def idleOverlap (cfg : ZoneConfig) (o : Owner) : OverlapState :=
  if hasOverlap cfg o then .released else .none

/-- The runtime hold of an owner. -/
def State.holdOf (s : State) : Owner → Hold
  | .route r => s.lku.routes[r].hold
  | .portion p => s.hou.portions[p].hold

/-- The runtime hold of an owner rewritten. -/
def State.updHold (s : State) (o : Owner) (f : Hold → Hold) : State :=
  match o with
  | .route r => s.updRoute r fun c => { c with hold := f c.hold }
  | .portion p => s.updPortion p fun c => { c with hold := f c.hold }

/-- The flank element of a flank table entry. -/
def elementOf (cfg : ZoneConfig) (e : Fin 48) : Option FlankElement :=
  (cfg.flank[e]).map (·.element)

/-- The distinct flank elements of a held-flank set. -/
def flankElements (cfg : ZoneConfig) (items : List FlankItem) : List FlankElement :=
  distinct (items.filterMap fun i => elementOf cfg i.entry)

/-- The locally claimed flank points of a held-flank set (R120). -/
def flankPoints (cfg : ZoneConfig) (items : List FlankItem) : List (Fin 16 × Position) :=
  (flankElements cfg items).filterMap fun
    | .point p q => some (p, q)
    | _ => none

/-- The local flank signals of a held-flank set (R120). -/
def flankSignals (cfg : ZoneConfig) (items : List FlankItem) : List (Fin 16) :=
  (flankElements cfg items).filterMap fun
    | .signal g => some g
    | _ => none

/-! ## Field inputs and outputs by role -/

/-- The filtered value of the proving input of a lamp (R9). -/
def State.lit (s : State) (g : Fin 16) (l : Lamp) : Bool :=
  s.fsu.contacts.toList.any fun i => i.role == .prove g l && i.filter.value

/-- The energised state of the output of a lamp (R14). -/
def State.energised (s : State) (g : Fin 16) (l : Lamp) : Bool :=
  s.fsu.lamps.toList.any fun o => o.role == .lamp g l && o.energised

/-- The record of one lamp of a signal. -/
def SignalRec.lamp (r : SignalRec) : Lamp → LampRec
  | .red => r.red
  | .yellow => r.yellow
  | .green => r.green

/-- A signal record with one lamp's record rewritten. -/
def SignalRec.updLamp (r : SignalRec) (l : Lamp) (f : LampRec → LampRec) : SignalRec :=
  match l with
  | .red => { r with red := f r.red }
  | .yellow => { r with yellow := f r.yellow }
  | .green => { r with green := f r.green }

/-- The record of a lamp. -/
def State.lampRec (s : State) (g : Fin 16) (l : Lamp) : LampRec := (s.asu.signals[g]).lamp l

/-- The red lamp of a signal proves lit with its lamp-failed flag clear (R93 item 7, R129, R154). -/
def State.redProved (s : State) (g : Fin 16) : Bool := s.lit g .red && !(s.lampRec g .red).failed

end Sys2Proof.Machine
end

