-- ==== Sys2Proof/Machine/Crc.lean ====
section
/-! DEFINITION. The two check sums: CRC-16 of telegrams (R171) and CRC-32 of the image (R172). -/

namespace Sys2Proof.Machine

open Sys2Proof

/-- One bit of the CRC-16: polynomial 0x1021, most significant bit first. -/
def crc16Bit (r : Word) : Word :=
  if r.msb then (r <<< 1) ^^^ 0x1021#16 else r <<< 1

/-- `n` bits of the CRC-16. -/
def crc16Bits : Nat → Word → Word
  | 0, r => r
  | n + 1, r => crc16Bits n (crc16Bit r)

/-- The CRC-16 of a byte string: initial value 0xFFFF, nothing reflected, no final XOR (R171). -/
def crc16 (bytes : List Byte) : Word :=
  bytes.foldl (fun r b => crc16Bits 8 (r ^^^ ((b.setWidth 16 : Word) <<< (8 : Nat)))) 0xFFFF#16

/-- One bit of the CRC-32: polynomial 0x04C11DB7, input and output reflected, so the register
shifts right and the reflected polynomial 0xEDB88320 is used. -/
def crc32Bit (r : BitVec 32) : BitVec 32 :=
  if r.getLsbD 0 then (r >>> 1) ^^^ 0xEDB88320#32 else r >>> 1

/-- `n` bits of the CRC-32. -/
def crc32Bits : Nat → BitVec 32 → BitVec 32
  | 0, r => r
  | n + 1, r => crc32Bits n (crc32Bit r)

/-- The CRC-32 of a byte string: initial value and final XOR 0xFFFFFFFF (R172). -/
def crc32 (bytes : List Byte) : BitVec 32 :=
  bytes.foldl (fun r b => crc32Bits 8 (r ^^^ b.setWidth 32)) 0xFFFFFFFF#32 ^^^ 0xFFFFFFFF#32

end Sys2Proof.Machine
end

