-- ==== Sys2Proof/Machine/Telegram.lean ====
section
/-! DEFINITION. The byte layouts of telegrams (R171): the bytes of a payload, of a whole telegram
and of a received frame, and the payload read back from its bytes with the size test of check 4. -/

namespace Sys2Proof.Machine

open Sys2Proof

/-- A 16-bit number, most significant byte first. -/
def wordBytes (w : Word) : List Byte := [w.extractLsb' 8 8, w.extractLsb' 0 8]

/-- Two bytes as a 16-bit number, the first the more significant. -/
def wordOf (hi lo : Byte) : Word := hi ++ lo

/-- A flag in bit 7 beside the low bits of a byte. -/
def withBit7 (b : Byte) (flag : Bool) : Byte := if flag then b ||| 0x80#8 else b

/-- Bit 7 of a byte. -/
def bit7 (b : Byte) : Bool := b.getLsbD 7

/-- A byte that codes a truth value. -/
def flagByte (b : Bool) : Byte := if b then 1 else 0

/-- A list as the lines carry it: a count byte, then the entries. -/
def listBytes {α : Type} (entry : α → List Byte) (xs : List α) : List Byte :=
  byteOf xs.length :: xs.flatMap entry

def headEntryBytes (e : HeadEntry) : List Byte :=
  e.number :: (wordBytes e.forward ++ wordBytes e.backward ++ [e.flag])
def sectionEntryBytes (e : SectionEntry) : List Byte := [e.number, e.state]
def signalEntryBytes (e : SignalEntry) : List Byte := [e.number, e.info]
def portionEntryBytes (e : PortionEntry) : List Byte := [e.number, e.requester, e.offerId, e.info]
def grantEntryBytes (e : GrantEntry) : List Byte := [e.requester, e.offerId, e.element, e.info]
def offerEntryBytes (e : OfferEntry) : List Byte := [e.neighbour, e.offerId, e.kind, e.target]

/-- The payload bytes of a STATUS. -/
def statusBytes (c : StatusContent) : List Byte :=
  [c.station, c.faultCode] ++ listBytes headEntryBytes c.heads ++
    listBytes sectionEntryBytes c.sections ++ listBytes signalEntryBytes c.signals ++
    listBytes portionEntryBytes c.portions ++ listBytes grantEntryBytes c.grants ++
    listBytes offerEntryBytes c.offers

/-- The payload bytes of DISPLAY page 0. -/
def pageZeroBytes (c : PageZero) : List Byte :=
  [0, c.station] ++ listBytes (fun e => [e.1, e.2]) c.neighbours ++
    listBytes (fun e => [e.1, e.2]) c.routes ++
    listBytes (fun e => [e.1, e.2.1, e.2.2]) c.signals

/-- The payload bytes of DISPLAY page 1; the fault list's count byte carries the "more" flag in
bit 7. -/
def pageOneBytes (c : PageOne) : List Byte :=
  [1] ++ listBytes (fun e => [e.1, e.2.1] ++ wordBytes e.2.2) c.sections ++
    listBytes (fun e => [e.1, e.2]) c.points ++
    withBit7 (byteOf c.faults.length) c.more :: c.faults.flatMap (fun e => [e.1, e.2])

/-- The bytes of a payload. -/
def payloadBytes : Payload → List Byte
  | .status c => statusBytes c
  | .displayZero c => pageZeroBytes c
  | .displayOne c => pageOneBytes c
  | .portionRequest p i => [p, i]
  | .portionGrant p i => [p, i]
  | .portionRefuse p i r => [p, i, r]
  | .portionRelease p i => [p, i]
  | .flankRequest i c e => [i, c, e]
  | .flankGrant i => [i]
  | .flankRefuse i r => [i, r]
  | .flankRelease i => [i]
  | .sectionReset n => [n]
  | .command c x y z => [c, x, y, z]
  | .commandResult q c r w => [q, c, r, w]

/-- The bytes of a frame before its CRC, from the length field to the last payload byte, under the
kind code of its row. -/
def frameBody (kind : Byte) (f : Frame) : List Byte :=
  [f.length, kind, f.source, f.dest, f.seq] ++ wordBytes f.code ++ f.payload

/-- All the bytes of a frame as they stood on the line. -/
def frameBytes (kind : Byte) (f : Frame) : List Byte := frameBody kind f ++ wordBytes f.crc

/-- The kind code and the frame in a byte string, by the offsets of R171; `none` below 9 bytes. -/
def frameOf (line : Line) (bytes : List Byte) : Option (Byte × Frame) :=
  match bytes with
  | length :: kind :: source :: dest :: seq :: hi :: lo :: rest =>
    match rest.reverse with
    | crcLo :: crcHi :: payload =>
      some (kind, ⟨line, length, source, dest, seq, wordOf hi lo, payload.reverse, wordOf crcHi crcLo⟩)
    | _ => none
  | _ => none

/-- The frame that carries a telegram on a line. -/
def Telegram.frame (line : Line) (t : Telegram) : Frame :=
  let payload := payloadBytes t.payload
  let bare : Frame := ⟨line, byteOf (payload.length + 9), t.source, t.dest, t.seq, t.code, payload, 0⟩
  { bare with crc := crc16 (frameBody (kindOf t.payload) bare) }

/-- The bytes of a telegram. -/
def Telegram.bytes (t : Telegram) : List Byte := frameBytes (kindOf t.payload) (t.frame .a)

/-- The bit times a telegram occupies the line for: ten for each byte (R131). -/
def Telegram.bitTimes (t : Telegram) : Nat := 10 * t.bytes.length

/-! Reading a payload back. -/

/-- `n` entries from the front of a byte string. -/
def takeEntries {α : Type} (entry : List Byte → Option (α × List Byte)) :
    Nat → List Byte → Option (List α × List Byte)
  | 0, bs => some ([], bs)
  | n + 1, bs =>
    match entry bs with
    | none => none
    | some (x, bs') =>
      match takeEntries entry n bs' with
      | none => none
      | some (xs, rest) => some (x :: xs, rest)

/-- A list of at most `max` entries: its count byte and then its entries. -/
def takeList {α : Type} (max : Nat) (entry : List Byte → Option (α × List Byte)) :
    List Byte → Option (List α × List Byte)
  | [] => none
  | n :: bs => if n.toNat ≤ max then takeEntries entry n.toNat bs else none

def takeHead : List Byte → Option (HeadEntry × List Byte)
  | n :: fh :: fl :: bh :: bl :: g :: rest => some (⟨n, wordOf fh fl, wordOf bh bl, g⟩, rest)
  | _ => none
def takeSection : List Byte → Option (SectionEntry × List Byte)
  | n :: v :: rest => some (⟨n, v⟩, rest)
  | _ => none
def takeSignal : List Byte → Option (SignalEntry × List Byte)
  | n :: v :: rest => some (⟨n, v⟩, rest)
  | _ => none
def takePortion : List Byte → Option (PortionEntry × List Byte)
  | n :: r :: i :: v :: rest => some (⟨n, r, i, v⟩, rest)
  | _ => none
def takeGrant : List Byte → Option (GrantEntry × List Byte)
  | r :: i :: e :: v :: rest => some (⟨r, i, e, v⟩, rest)
  | _ => none
def takeOffer : List Byte → Option (OfferEntry × List Byte)
  | n :: i :: k :: t :: rest => some (⟨n, i, k, t⟩, rest)
  | _ => none

/-- The six lists of a STATUS, which must take up the payload to its end (R171). -/
def readLists (station fault : Byte) (bs : List Byte) : Option StatusContent :=
  (takeList 8 takeHead bs).bind fun (heads, bs) =>
  (takeList 8 takeSection bs).bind fun (sections, bs) =>
  (takeList 8 takeSignal bs).bind fun (signals, bs) =>
  (takeList 16 takePortion bs).bind fun (portions, bs) =>
  (takeList 8 takeGrant bs).bind fun (grants, bs) =>
  (takeList 8 takeOffer bs).bind fun (offers, bs) =>
  if bs = [] then some ⟨station, fault, heads, sections, signals, portions, grants, offers⟩
  else none

/-- The content of a STATUS from its payload bytes. -/
def readStatus : List Byte → Option StatusContent
  | station :: fault :: bs => readLists station fault bs
  | _ => none

/-- The payload a received telegram carries, where its size is the one R171 gives for the kind.
DISPLAY and COMMAND_RESULT are allowed for no source's role, so check 4 discards them whatever
their size. -/
def readPayload (kind : Byte) (bs : List Byte) : Option Payload :=
  match kind.toNat, bs with
  | 1, bs => (readStatus bs).map .status
  | 3, [p, i] => some (.portionRequest p i)
  | 4, [p, i] => some (.portionGrant p i)
  | 5, [p, i, r] => some (.portionRefuse p i r)
  | 6, [p, i] => some (.portionRelease p i)
  | 7, [i, c, e] => some (.flankRequest i c e)
  | 8, [i] => some (.flankGrant i)
  | 9, [i, r] => some (.flankRefuse i r)
  | 10, [i] => some (.flankRelease i)
  | 11, [n] => some (.sectionReset n)
  | 12, [c, x, y, z] => some (.command c x y z)
  | _, _ => none

end Sys2Proof.Machine
end

