-- ==== Sys2Proof/Machine/Operands.lean ====
section
/-! DEFINITION. Reading operands. A received frame goes through the checks of R138 and the duplicate
window of R139 before its payload is an operand; an observation is entered in the filters of its
inputs; a queued command is read at the head of the CMU's queue (R160). -/

namespace Sys2Proof.Machine

open Sys2Proof

/-! ## Received telegrams -/

/-- A source of telegrams: a configured neighbour or a configured panel (R138). -/
inductive Source where
  | neighbour (n : Fin 4)
  | panel (p : Fin 2)
deriving DecidableEq, Repr

/-- The configured source with an address. -/
def sourceOf (cfg : ZoneConfig) (address : Byte) : Option Source :=
  match (indices 4).find? fun n => (cfg.neighbours[n]).any (·.address == address) with
  | some n => some (.neighbour n)
  | none => ((indices 2).find? fun p => (cfg.panels[p]).any (·.address == address)).map .panel

/-- The pairing code configured for a source. -/
def codeOf (cfg : ZoneConfig) : Source → Option Word
  | .neighbour n => (cfg.neighbours[n]).map (·.code)
  | .panel p => (cfg.panels[p]).map (·.code)

/-- The kinds each role may send (R138, check 4). -/
def kindAllowed : Source → Byte → Bool
  | .neighbour _, kind => kind == kindStatus || (3 ≤ kind.toNat && kind.toNat ≤ 11)
  | .panel _, kind => kind == kindCommand

/-- STATUS is addressed to 31, every other kind the part takes to the own address (R133). -/
def addressedRight (own : Option Byte) (kind dest : Byte) : Bool :=
  if kind = kindStatus then dest == 31 else some dest == own

/-- The duplicate window of a source (R139). -/
def State.window (s : State) : Source → List Byte
  | .neighbour n => s.slu.neighbourWindows[n]
  | .panel p => s.slu.panelWindows[p]

/-- The duplicate window of a source rewritten. -/
def State.updWindow (s : State) (src : Source) (f : List Byte → List Byte) : State :=
  match src with
  | .neighbour n =>
    { s with slu := { s.slu with neighbourWindows := upd s.slu.neighbourWindows n f } }
  | .panel p => { s with slu := { s.slu with panelWindows := upd s.slu.panelWindows p f } }

/-- A window with a number joined as the newest, the oldest of nine removed (R139). -/
def pushWindow (seq : Byte) (w : List Byte) : List Byte :=
  let w' := w ++ [seq]
  w'.drop (w'.length - 8)

/-- The record of a line. -/
def State.line (s : State) : Line → LineRec
  | .a => s.slu.lineA
  | .b => s.slu.lineB

/-- The record of a line rewritten. -/
def State.updLine (s : State) (l : Line) (f : LineRec → LineRec) : State :=
  match l with
  | .a => { s with slu := { s.slu with lineA := f s.slu.lineA } }
  | .b => { s with slu := { s.slu with lineB := f s.slu.lineB } }

/-- The other of the two lines. -/
def otherLine : Line → Line
  | .a => .b
  | .b => .a

/-- A line health timer started with 2.0 s (R142). -/
def LineHealth.start : LineHealth := .running (Config.lineHealth + 1)

def LineHealth.isRunning : LineHealth → Bool
  | .running _ => true
  | _ => false

/-- A health timer whose 2.0 s have run out and whose expiry is still to be taken. -/
def LineHealth.due : LineHealth → Bool
  | .running n => n == 0
  | _ => false

/-- A health timer that has time left. One whose 2.0 s have run out does not hold the other line
faulty, although its own expiry is still to be taken at that moment (log 29). -/
def LineHealth.hasTime : LineHealth → Bool
  | .running n => n != 0
  | _ => false

/-- LINE_FAULT is set for each line whose timer has expired while the other's runs (R142). -/
def State.judgeLines (s : State) : State :=
  let s := if s.slu.lineA.health = .expired ∧ s.slu.lineB.health.hasTime then
    s.setFault .lineFault 0 else s
  if s.slu.lineB.health = .expired ∧ s.slu.lineA.health.hasTime then
    s.setFault .lineFault 1 else s

/-- A good telegram of a line: its timer starts afresh, its LINE_FAULT is removed, and the other
line is judged (R142). -/
def State.goodTelegram (s : State) (l : Line) : State :=
  ((s.updLine l fun r => { r with health := .start }).clearFault .lineFault (lineElement l)).judgeLines

/-- What becomes of a collected frame: discarded, with what the discard records, or accepted, with
its source and payload. -/
inductive Reception where
  | discarded (s : State)
  | accepted (s : State) (src : Source) (payload : Payload)

/-- Checks 1 to 4 of R138: length and CRC, destination, source, then kind, address and size. The
source, its code and the payload of a frame that passes them. -/
def screened (s : State) (kind : Byte) (f : Frame) : Option (Source × Word × Payload) :=
  if f.length.toNat ≠ f.payload.length + 9 ∨ f.crc ≠ crc16 (frameBody kind f) then none
  else if f.dest ≠ 31 ∧ some f.dest ≠ s.sld.ownAddress then none
  else
    match sourceOf s.config f.source with
    | none => none
    | some src =>
      if !kindAllowed src kind || !addressedRight s.sld.ownAddress kind f.dest then none
      else
        match readPayload kind f.payload, codeOf s.config src with
        | some p, some code => some (src, code, p)
        | _, _ => none

/-- A telegram of a panel that has come to the duplicate window starts the panel's silence timer
afresh. R141 says "at each telegram accepted from the panel" and, of a telegram taken before an
expiry that falls at the same moment, "accepted or discarded, and the timer is started afresh". The
model takes the second: a duplicate starts the timer too (DESIGN CHOICE, log 40). -/
def State.hearFrom (s : State) (src : Source) : State :=
  match src with
  | .neighbour _ => s
  | .panel p =>
    { s with slu := { s.slu with
        panelSilence := upd s.slu.panelSilence p fun _ => Timer.start Config.panelSilence } }

/-- The acceptance of a telegram from a source: its number joins the window, and PAIRING_MISMATCH of
the source is removed (R138, R139). The silence timer of a panel has started with the window's test
(R141, `State.hearFrom`, log 40). -/
def State.acceptFrom (s : State) (src : Source) (f : Frame) : State :=
  (s.updWindow src (pushWindow f.seq)).clearFault .pairingMismatch f.source

/-- The receiver's whole work on a collected frame (R138, R139, R142). -/
def receive (kind : Byte) (f : Frame) (s : State) : Reception :=
  match screened s kind f with
  | none => .discarded s
  | some (src, code, p) =>
    if f.code ≠ code then .discarded (s.setFault .pairingMismatch f.source)
    else
      let s := (s.goodTelegram f.line).hearFrom src
      if (s.window src).contains f.seq then .discarded s
      else .accepted (s.acceptFrom src f) src p

/-! ## Observations -/

/-- An input record with its filter brought to an observed value, where it has the role. -/
def InputRec.observe (role : InputRole) (v : Bool) (r : InputRec) : InputRec :=
  if r.role = role then { r with filter := r.filter.accept v } else r

/-- The sensor filters at an observation of a head (R7). -/
def State.observeHead (s : State) (h : Fin 24) (a b : Bool) : State :=
  { s with fsu := { s.fsu with
      sensors := mapTab (fun _ r => (r.observe (.sensorA h) a).observe (.sensorB h) b) s.fsu.sensors } }

/-- The contact filters at an observation of a point (R8). -/
def State.observePoint (s : State) (p : Fin 16) (n r : Bool) : State :=
  { s with fsu := { s.fsu with
      contacts := mapTab (fun _ i => (i.observe (.detectN p) n).observe (.detectR p) r)
        s.fsu.contacts } }

/-- The contact filter at a proving edge (R9). -/
def State.observeProving (s : State) (g : Fin 16) (l : Lamp) (lit : Bool) : State :=
  { s with fsu := { s.fsu with
      contacts := mapTab (fun _ i => i.observe (.prove g l) lit) s.fsu.contacts } }

/-! ## Queued commands -/

/-- The command the CMU takes now, where the station is in RUN and the head of the queue is one the
row stands for; the state is the one after the taking (R160). -/
def State.takeCommand (s : State) (isRow : Byte → Bool) : Option (QueuedCommand × State) :=
  match s.sld.station, s.cmu.queue with
  | .run, c :: rest =>
    if isRow c.code then some (c, { s with cmu := { s.cmu with queue := rest } }) else none
  | _, _ => none

/-- A position argument (R171); other values are outside its set (R161). -/
def positionArg (b : Byte) : Option Position :=
  match b.toNat with
  | 0 => some .normal
  | 1 => some .reverse
  | _ => none

/-- An on/off argument. -/
def onOffArg (b : Byte) : Option Bool :=
  match b.toNat with
  | 0 => some false
  | 1 => some true
  | _ => none

/-- An element kind argument. -/
def elementKindArg (b : Byte) : Option ElementKind :=
  match b.toNat with
  | 0 => some .sect
  | 1 => some .point
  | 2 => some .signal
  | _ => none

/-- A number that names a configured entry of a table. -/
def configured {α : Type} {n : Nat} (t : Vector (Option α) n) (b : Byte) : Option (Fin n × α) :=
  (indexOf? n b).bind fun k => (t[k]).map fun c => (k, c)

end Sys2Proof.Machine
end

