-- ==== Sys2Proof/Machine/Line.lean ====
section
/-! DEFINITION. The sending side of the station line unit (9.3, 9.4): placing telegrams, choosing
the current one, attempts and their ends. The meanings of the transmit rows stand at the end. -/

namespace Sys2Proof.Machine

open Sys2Proof

/-- The code the own station's neighbours share (R132); with no neighbour configured the manual
gives none, and the value is free (log 15). -/
def neighboursCode (cfg : ZoneConfig) : Word :=
  ((indices 4).findSome? fun n => (cfg.neighbours[n]).map (·.code)).getD Config.codeWithoutNeighbours

/-- The code the panels share (R132); an accepted image has a panel. -/
def panelsCode (cfg : ZoneConfig) : Word :=
  ((indices 2).findSome? fun p => (cfg.panels[p]).map (·.code)).getD 0

/-- A telegram of the own station with the next sequence number (R133). -/
def State.nextTelegram (s : State) (dest : Byte) (code : Word) (payload : Payload) : Telegram :=
  ⟨s.sld.ownAddress.getD 0, dest, s.slu.counter, code, payload⟩

/-- A telegram as it stands in its place right after the placing (R134). -/
def State.nextItem (s : State) (dest : Byte) (code : Word) (payload : Payload) : TxItem :=
  ⟨s.slu.placings, s.nextTelegram dest code payload, .fresh, .fresh, .startMs Config.telegramLife⟩

/-- The sequence counter and the serial after a placing (R133). -/
def StationLine.counted (u : StationLine) : StationLine :=
  { u with counter := u.counter + 1, placings := u.placings + 1 }

/-- A telegram placed at the tail of the class-1 queue; it is dropped, and takes no number, where 16
are waiting (R133, R134). -/
def State.placeClassOne (s : State) (dest : Byte) (code : Word) (payload : Payload) : State :=
  if 16 ≤ s.slu.classOne.length then s
  else
    { s with slu := { s.slu.counted with
        classOne := s.slu.classOne ++ [s.nextItem dest code payload] } }

/-- A class-1 telegram to a configured neighbour. -/
def State.toNeighbour (s : State) (n : Fin 4) (payload : Payload) : State :=
  match s.config.neighbours[n] with
  | none => s
  | some c => s.placeClassOne c.address c.code payload

/-- A class-1 telegram to a configured panel. -/
def State.toPanel (s : State) (p : Fin 2) (payload : Payload) : State :=
  match s.config.panels[p] with
  | none => s
  | some c => s.placeClassOne c.address c.code payload

/-- A telegram placed in the STATUS slot, replacing the waiting one (R134). -/
def State.placeStatusSlot (s : State) (code : Word) (payload : Payload) : State :=
  { s with slu := { s.slu.counted with statusSlot := some (s.nextItem 31 code payload) } }

/-- A telegram placed in the slot of its DISPLAY page (R134). -/
def State.placeDisplaySlot (s : State) (page : Page) (payload : Payload) : State :=
  let item := s.nextItem 31 (panelsCode s.config) payload
  match page with
  | .zero => { s with slu := { s.slu.counted with displayZero := some item } }
  | .one => { s with slu := { s.slu.counted with displayOne := some item } }

/-- The removal of every waiting telegram at the entry to HALT; attempts in progress go on to their
ends (R137). -/
def StationLine.emptied (u : StationLine) : StationLine :=
  { u with classOne := [], statusSlot := none, displayZero := none, displayOne := none }

/-! ## Current telegram and attempts -/

/-- The three classes of R135. -/
inductive TxClass where
  | classOne
  | status
  | display
deriving DecidableEq, Repr

/-- The access gap in bit times (R135). -/
def accessGap (c : TxClass) (address : Byte) : Nat :=
  match c with
  | .classOne => 24 + 8 * address.toNat
  | .status => 64 + 8 * address.toNat
  | .display => 104 + 8 * address.toNat

/-- How far a line has come with a telegram. -/
def TxItem.on (i : TxItem) : Line → LineProgress
  | .a => i.onA
  | .b => i.onB

/-- A telegram's progress on a line rewritten. -/
def TxItem.updOn (i : TxItem) (l : Line) (f : LineProgress → LineProgress) : TxItem :=
  match l with
  | .a => { i with onA := f i.onA }
  | .b => { i with onB := f i.onB }

/-- Every telegram in a place. -/
def StationLine.waiting (u : StationLine) : List TxItem :=
  u.classOne ++ (u.statusSlot.toList ++ (u.displayZero.toList ++ u.displayOne.toList))

/-- A telegram not yet finished on a line. -/
def TxItem.dueOn (l : Line) (i : TxItem) : Bool := !(i.on l).finished

/-- The waiting DISPLAY placed earlier. -/
def StationLine.earlierDisplay (u : StationLine) (l : Line) : Option TxItem :=
  match u.displayZero.filter (TxItem.dueOn l), u.displayOne.filter (TxItem.dueOn l) with
  | some x, some y => if x.serial ≤ y.serial then some x else some y
  | some x, none => some x
  | none, y => y

/-- A line's current telegram with its class (R135). -/
def StationLine.current (u : StationLine) (l : Line) : Option (TxClass × TxItem) :=
  match u.classOne.find? (TxItem.dueOn l) with
  | some i => some (.classOne, i)
  | none =>
    match u.statusSlot.filter (TxItem.dueOn l) with
    | some i => some (.status, i)
    | none => (u.earlierDisplay l).map fun i => (.display, i)

/-- The skew limit holds a line that has finished two telegrams the other has not (R135). -/
def StationLine.skewed (u : StationLine) (l : Line) : Bool :=
  2 ≤ (u.waiting.filter fun i => (i.on l).finished && !(i.on (otherLine l)).finished).length

/-- A telegram leaves its place when it is finished on both lines (R134). -/
def TxItem.kept (i : TxItem) : Bool := !(i.onA.finished && i.onB.finished)

/-- The progress of the telegram with a serial rewritten on a line, and a telegram finished on both
lines removed from its place. -/
def StationLine.progress (u : StationLine) (l : Line) (serial : Nat)
    (f : LineProgress → LineProgress) : StationLine :=
  let step := fun (i : TxItem) => if i.serial = serial then i.updOn l f else i
  { u with
    classOne := (u.classOne.map step).filter TxItem.kept
    statusSlot := (u.statusSlot.map step).filter TxItem.kept
    displayZero := (u.displayZero.map step).filter TxItem.kept
    displayOne := (u.displayOne.map step).filter TxItem.kept }

/-- A telegram finished on a line. -/
def LineProgress.finish (p : LineProgress) : LineProgress := { p with finished := true }

/-- The beginning of an attempt: its telegram is noted, and one attempt is used (R136). -/
def State.beginAttempt (s : State) (l : Line) (i : TxItem) : State :=
  let s := s.updLine l fun r => { r with attempt := some ⟨i.serial, i.telegram⟩ }
  { s with slu := s.slu.progress l i.serial fun p => { p with attempts := p.attempts + 1 } }

/-- The end of an attempt on a line. -/
def State.endAttempt (s : State) (l : Line) (serial : Nat)
    (f : LineProgress → LineProgress) : State :=
  let s := s.updLine l fun r => { r with attempt := none }
  { s with slu := s.slu.progress l serial f }

/-- After a failed attempt: given up on the fourth, or where its 100 ms ran out meanwhile (R136). -/
def LineProgress.afterFailure (p : LineProgress) : LineProgress :=
  if 4 ≤ p.attempts ∨ p.late then p.finish else p

/-- Whether the echo of an attempt differs from the bytes sent at its last byte and nowhere before
(R136). -/
def echoDiffers (sent echo : List Byte) : Bool :=
  1 ≤ echo.length && echo.length ≤ sent.length &&
    echo.dropLast == sent.take (echo.length - 1) && echo != sent.take echo.length

/-- A line's transmitter begins attempts in RUN and HALT alone (R137). -/
def State.transmits (s : State) : Bool := s.sld.station == .run || s.sld.station == .halt

/-- TRANSMIT_ATTEMPT (R135): a line without an attempt in progress, not held by the skew limit,
begins its current telegram once it has been idle for the access gap. -/
def transmitAttempt (l : Line) (idle : Nat) (s : State) : State :=
  match (s.line l).attempt, s.slu.current l, s.sld.ownAddress with
  | none, some (c, i), some own =>
    if s.transmits && !s.slu.skewed l && accessGap c own ≤ idle then s.beginAttempt l i else s
  | _, _, _ => s

/-- TELEGRAM_SENT (R136): an attempt whose every echoed byte was equal finishes its telegram. -/
def telegramSent (l : Line) (echo : List Byte) (s : State) : State :=
  match (s.line l).attempt with
  | none => s
  | some a => if echo = a.telegram.bytes then s.endAttempt l a.serial LineProgress.finish else s

/-- ATTEMPT_FAILED (R136): at the first byte whose echo differs the attempt has failed. -/
def attemptFailed (l : Line) (echo : List Byte) (s : State) : State :=
  match (s.line l).attempt with
  | none => s
  | some a =>
    if echoDiffers a.telegram.bytes echo then s.endAttempt l a.serial LineProgress.afterFailure else s

/-- TRANSMIT_GIVE_UP (R136): the first waiting telegram of that sequence number that is not finished
on the line and whose 100 ms have run out is given up, at once or at the end of the attempt in
progress. -/
def transmitGiveUp (l : Line) (seq : Byte) (s : State) : State :=
  match s.slu.waiting.find? fun i => i.telegram.seq == seq && i.dueOn l && i.life.due with
  | none => s
  | some i =>
    if (s.line l).attempt.any (·.serial == i.serial) then
      { s with slu := s.slu.progress l i.serial fun p => { p with late := true } }
    else { s with slu := s.slu.progress l i.serial LineProgress.finish }

/-! ## Meanings -/

/-- TRANSMIT_ATTEMPT. -/
def execTransmitAttempt (line : Line) (idle : Nat) (s : State) : Host.Outcome State Fault Refusal :=
  .next (transmitAttempt line idle s)

/-- TELEGRAM_SENT. -/
def execTelegramSent (line : Line) (echo : List Byte) (s : State)
    : Host.Outcome State Fault Refusal :=
  .next (telegramSent line echo s)

/-- ATTEMPT_FAILED. -/
def execAttemptFailed (line : Line) (echo : List Byte) (s : State) :
    Host.Outcome State Fault Refusal :=
  .next (attemptFailed line echo s)

/-- TRANSMIT_GIVE_UP. -/
def execTransmitGiveUp (line : Line) (seq : Byte) (s : State) : Host.Outcome State Fault Refusal :=
  .next (transmitGiveUp line seq s)

end Sys2Proof.Machine
end

