-- ==== Sys2Proof/Machine/Points.lean ====
section
/-! DEFINITION. The point control unit (chapter 4): detection, moves, move requests, settling,
completion, failure and supervision at rest. The meanings of the four point rows are in
Machine/Field.lean. -/

namespace Sys2Proof.Machine

open Sys2Proof

/-- The detected position a pair of detection values gives (R56). -/
def Detected.of (n r : Bool) : Detected :=
  match n, r with
  | true, false => .normal
  | false, true => .reverse
  | false, false => .none
  | true, true => .both

/-- The detected position that is a position. -/
def detectedAt : Position → Detected
  | .normal => .normal
  | .reverse => .reverse

/-- The MOVING state toward a position (R58). -/
def Controller.moving : Position → Controller
  | .normal => .movingN
  | .reverse => .movingR

/-- The target of a MOVING state (R57). -/
def Controller.target : Controller → Option Position
  | .movingN => some .normal
  | .movingR => some .reverse
  | .rest => none
  | .failed => none

/-- A point is detected at a position (R56). -/
def PointRec.at (r : PointRec) (p : Position) : Bool := r.detected == detectedAt p

/-- A point is at rest at a position: REST and detected there (R81). -/
def PointRec.restAt (r : PointRec) (p : Position) : Bool := r.controller == .rest && r.at p

/-- A point needs a move to be at a position: not detected there, or moving toward the other
(R78). -/
def PointRec.needsMove (r : PointRec) (p : Position) : Bool :=
  !r.at p || r.controller == .moving p.other

/-- The demand of a drive output (R57). -/
def PointRec.drive (r : PointRec) (p : Position) : Bool := r.controller.target == some p

/-- A move toward a target starts; `limit` is the move limit in seconds (R58). -/
def PointRec.startMove (limit : Nat) (t : Position) (r : PointRec) : PointRec :=
  { r with
    controller := .moving t
    chg := true
    move := .start (10 * limit)
    settle := if r.at t then .start Config.settleTime else .stopped }

/-- A move request at a point record (R59). -/
def PointRec.request (limit : Nat) (t : Position) (r : PointRec) : PointRec :=
  match r.controller with
  | .rest => if r.at t then r else r.startMove limit t
  | .failed => if r.at t then { r with controller := .rest, chg := true } else r.startMove limit t
  | _ => if r.controller = .moving t then { r with held := none } else { r with held := some t }

/-- The completion of a move at the expiry of the settle timer (R62). -/
def PointRec.complete (limit : Nat) (r : PointRec) : PointRec :=
  match r.controller.target with
  | none => r
  | some t =>
    let rested : PointRec :=
      { r with controller := .rest, chg := true, move := .stopped, settle := .stopped, held := none }
    match r.held with
    | none => rested
    | some q => if q = t then rested else rested.startMove limit q

/-- The failure of a move at the expiry of the move timer (R63). -/
def PointRec.fail (r : PointRec) : PointRec :=
  { r with controller := .failed, chg := true, move := .stopped, settle := .stopped, held := none }

/-- A change of detected position acts on the settle timer of a moving point in RUN (R61). -/
def PointRec.settleOn (new : Detected) (r : PointRec) : Timer :=
  match r.controller.target with
  | none => r.settle
  | some t =>
    if new = detectedAt t then .start Config.settleTime
    else if r.detected = detectedAt t then .stopped
    else r.settle

/-- The move limit of a point, in seconds. -/
def moveLimit (cfg : ZoneConfig) (p : Fin 16) : Nat := ((cfg.points[p]).map (·.moveLimit)).getD 8

/-- The track section of a point in the own view: free of vehicles as far as the part knows. -/
def State.trackFree (s : State) (p : Fin 16) : Bool :=
  (s.config.points[p]).any fun c => (s.acu.sections[c.track]).isFree

/-- A move request from the LKU or the panel (R59). -/
def State.requestMove (s : State) (p : Fin 16) (t : Position) : State :=
  s.updPoint p (PointRec.request (moveLimit s.config p) t)

/-- Move requests for the points of a list that are not at rest at their positions (R81). -/
def State.requestMoves (s : State) (ps : List (Fin 16 × Position)) : State :=
  s.forEach ps fun s q => if (s.pcu.points[q.1]).restAt q.2 then s else s.requestMove q.1 q.2

/-- Whether a change of detected position is unsupervised: at rest, failed, or in HALT (R64). -/
def State.unsupervised (s : State) (p : Fin 16) : Bool :=
  s.sld.station == .halt || (s.pcu.points[p]).controller.target.isNone

/-- A detected position that is an end position. -/
def Detected.isEnd : Detected → Bool
  | .normal => true
  | .reverse => true
  | .none => false
  | .both => false

/-- The fault conditions a change of detected position sets and removes (R64, R65, R66). -/
def State.detectionFaults (s : State) (p : Fin 16) (old new : Detected) : State :=
  let e := byteOf p.val
  let s := if new.isEnd then
    (s.clearFault .pointLost e).clearFault .pointContradiction e else s
  let s := if new = .both then s.setFault .pointContradiction e else s
  if s.unsupervised p && old.isEnd && new != .both then
    let s := if new = .none then s.setFault .pointLost e else s
    if s.trackFree p then s else s.setFault .trailed e
  else s

/-- A detection observation as one event at the point record (R56). -/
def State.detect (s : State) (p : Fin 16) (new : Detected) : State :=
  let old := (s.pcu.points[p]).detected
  if new = old then s
  else
    let s := s.detectionFaults p old new
    let run := s.sld.station == .run
    s.updPoint p fun r =>
      { r with
        detected := new
        chg := true
        settle := if run then r.settleOn new else r.settle }

/-- The entry to HALT at a point record: timers stopped, held target discarded, controller kept
(R68). -/
def PointRec.halted (r : PointRec) : PointRec :=
  { r with move := .stopped, settle := .stopped, held := none }

end Sys2Proof.Machine
end

