-- ==== Sys2Proof/Machine/Aspects.lean ====
section
/-! DEFINITION. Views and proving of sections (R51 to R53), the neighbour views the derivation reads
(R94), and the commanded and shown aspects, lamp demands and output levels that follow from the
state at every moment (R93 to R98, R13, R15). Nothing here is stored but the shown aspect that an
event leaves (log 36). -/

namespace Sys2Proof.Machine

open Sys2Proof

/-! ## Neighbour views -/

/-- The content of the neighbour's last STATUS, while its record is ALIVE (R51, R94, R144). -/
def State.viewOf (s : State) (n : Fin 4) : Option StatusContent :=
  let r := s.hou.neighbours[n]
  if r.state = .alive then r.view else none

/-- The neighbour view of a boundary section; `none` where it is unavailable (R51). -/
def State.neighbourView (s : State) (n : Fin 4) (k : Fin 32) : Option SectionState :=
  match s.viewOf n, (s.config.sections[k]).bind (·.neighbourNumber) with
  | some v, some number =>
    (v.sections.find? fun e => e.number.toNat == number.val).bind fun e => sectionStateOf e.state
  | _, _ => none

/-- The proving rule, without the OCC latch (R52). -/
def State.proves (s : State) (k : Fin 32) : Bool :=
  (s.acu.sections[k]).state == .clear &&
    match boundaryNeighbour s.config k with
    | none => true
    | some n => s.neighbourView n k == some .clear

/-- A section state that the call-on rule admits. -/
def SectionState.callOnOk : SectionState → Bool
  | .disturbed => false
  | _ => true

/-- The call-on rule (R53). An unavailable view is treated as DISTURBED (R51). -/
def State.callOnProves (s : State) (k : Fin 32) : Bool :=
  (s.acu.sections[k]).state.callOnOk &&
    match boundaryNeighbour s.config k with
    | none => true
    | some n => (s.neighbourView n k).any SectionState.callOnOk

/-- The proving rule with the OCC latch clear: item 5 of R93, R112, R154. -/
def State.provesFree (s : State) (k : Fin 32) : Bool := s.proves k && !(s.acu.sections[k]).occ

/-- The neighbour view of a remote signal: shown aspect and red lamp-failed flag; unavailable reads
as `none` (R94). -/
def State.remoteSignal (s : State) (e : Fin 32) : Option (Aspect × Bool) :=
  (s.config.boundary[e]).bind fun b =>
    (s.viewOf b.neighbour).bind fun v =>
      (v.signals.find? fun i => i.number == b.number).map fun i => (aspectOf i.info, bit7 i.info)

/-- The own address as a requester in a list of a STATUS. -/
def State.isOwn (s : State) (address : Byte) : Bool := some address == s.sld.ownAddress

/-- The neighbour view of an offer is PROVEN (R94). A portion's runtime state PROVEN is code 2. -/
def State.offerProven (s : State) (o : Offer) : Bool :=
  match s.viewOf o.neighbour with
  | none => false
  | some v =>
    match o.kind with
    | .portion =>
      (v.portions.find? fun e => s.isOwn e.requester && e.offerId == o.id).any fun e =>
        e.info.toNat % 8 == 2
    | .flank =>
      (v.grants.find? fun e => s.isOwn e.requester && e.offerId == o.id).any fun e => bit7 e.info

/-! ## The commanded aspect -/

/-- A list of points each detected at its required position. -/
def State.pointsAt (s : State) (ps : List (Fin 16 × Position)) : Bool :=
  ps.all fun q => (s.pcu.points[q.1]).at q.2

/-- A list of points each at rest at its required position. -/
def State.pointsRestAt (s : State) (ps : List (Fin 16 × Position)) : Bool :=
  ps.all fun q => (s.pcu.points[q.1]).restAt q.2

/-- Item 4 of R93 for one lamp. -/
def LampRec.sound (r : LampRec) : Bool := !r.failed && !r.stray

/-- Item 8 of R93 for one offer reference. -/
def State.offerStands (s : State) (k : Fin 8) : Bool :=
  (s.hou.offers[k]).any fun o => o.state == .granted && s.offerProven o

/-- Item 9 of R93. -/
def State.exitSound (s : State) (e : ExitSignal) : Bool :=
  match e with
  | .localSignal g => !(s.lampRec g .red).failed
  | .remoteSignal m => (s.remoteSignal m).any fun v => !v.2

/-- Items 1 to 4 and 6 to 9 of R93, which the two conditions share (R95). -/
def State.conditionBase (s : State) (r : Fin 64) (c : RouteCfg) : Bool :=
  let rec' := s.lku.routes[r]
  let lock := s.lku.signals[c.entry]
  let sig := s.asu.signals[c.entry]
  s.sld.station == .run && rec'.state == .locked &&
    !lock.blocked && lock.holds == 0 &&
    sig.yellow.sound && sig.green.sound &&
    s.pointsAt c.plan.points &&
    (rec'.hold.overlap != .held || s.pointsAt c.plan.overlapPoints) &&
    s.pointsAt (flankPoints s.config rec'.hold.flank) &&
    (flankSignals s.config rec'.hold.flank).all s.redProved &&
    rec'.offers.all s.offerStands &&
    s.exitSound c.plan.exit

/-- The CAUTION-or-better condition of a route (R93). -/
def State.cautionCondition (s : State) (r : Fin 64) (c : RouteCfg) : Bool :=
  s.conditionBase r c && c.plan.path.all s.provesFree &&
    ((s.lku.routes[r]).hold.overlap != .held || c.plan.overlap.all s.provesFree)

/-- The call-on condition of a route (R95). -/
def State.callOnCondition (s : State) (r : Fin 64) (c : RouteCfg) : Bool :=
  s.conditionBase r c && c.plan.path.all s.callOnProves

/-- The LOCKED routes with an entry signal, at most one in a station that obeys R76. -/
def State.lockedFrom (s : State) (g : Fin 16) : List (Fin 64 × RouteCfg) :=
  (indices 64).filterMap fun r =>
    (s.config.routes[r]).bind fun c =>
      if c.entry = g ∧ (s.lku.routes[r]).state = .locked then some (r, c) else none

/-- The exit part of a MAIN route (R96). -/
def State.exitPart (s : State) (e : ExitSignal) : Bool :=
  match e with
  | .localSignal g =>
    (s.lockedFrom g).any fun q => q.2.cls == .main && s.cautionCondition q.1 q.2
  | .remoteSignal m => (s.remoteSignal m).any fun v => 2 ≤ v.1.rank

/-- The commanded aspect of a signal (R96). -/
def State.commanded (s : State) (g : Fin 16) : Aspect :=
  match (s.lockedFrom g).head? with
  | none => .danger
  | some (r, c) =>
    match c.cls with
    | .main =>
      if s.cautionCondition r c then
        if s.exitPart c.plan.exit then .proceed else .caution
      else .danger
    | .callOn => if s.callOnCondition r c then .callOn else .danger

/-- The more restrictive of two aspects. -/
def Aspect.min (x y : Aspect) : Aspect := if x.rank ≤ y.rank then x else y

/-- The shown aspect of a signal (R97): the more restrictive of the commanded and the presented
aspect, and no less restrictive than the shown aspect that the last event left. R97 contradicts
itself on a commanded aspect that falls and rises again between two flash boundaries. "At every
moment the more restrictive" of the two would lift the shown aspect at once; "a change that makes it
less restrictive changes the shown aspect at the next flash boundary" would not, and R162, R102 and
R147 say the same. The model takes the second (DESIGN CHOICE, log 36). -/
def State.shown (s : State) (g : Fin 16) : Aspect :=
  ((s.commanded g).min (s.asu.signals[g]).presented).min (s.asu.signals[g]).kept

/-! ## Lamp demands and output levels -/

/-- A lamp demand (R13). -/
inductive Demand where
  | off
  | steady
  | flashing
deriving DecidableEq, Repr

/-- The demand of a lamp for a shown aspect (R98). -/
def demandOf (a : Aspect) (l : Lamp) : Demand :=
  match a, l with
  | .danger, .red => .steady
  | .callOn, .red => .steady
  | .callOn, .yellow => .flashing
  | .caution, .yellow => .steady
  | .proceed, .green => .steady
  | _, _ => .off

/-- Whether a demand energises an output in a half of the flash phase (R13). -/
def Demand.lights (onHalf : Bool) : Demand → Bool
  | .off => false
  | .steady => true
  | .flashing => onHalf

/-- The level an output must have: none without a role, its demand in RUN, its safe state
otherwise (R10, R13, R15). -/
def OutputRec.level (run onHalf : Bool) (shown : Fin 16 → Aspect) (points : Vector PointRec 16)
    (o : OutputRec) : Bool :=
  match o.role with
  | .unbound => false
  | .lamp g l => if run then (demandOf (shown g) l).lights onHalf else o.safeOn
  | .drive p q => if run then (points[p]).drive q else o.safeOn

/-- The shown aspect of every signal. -/
def State.allShown (s : State) : Vector Aspect 16 := Vector.ofFn s.shown

/-- Every output brought to the level it must have (R13, R15). -/
def State.refreshOutputs (s : State) : State :=
  let run := s.sld.station == .run
  let shown := s.allShown
  let set := fun (o : OutputRec) =>
    { o with energised := o.level run s.fsu.onHalf (fun g => shown[g]) s.pcu.points }
  { s with fsu := { s.fsu with
      lamps := mapTab (fun _ o => set o) s.fsu.lamps
      drives := mapTab (fun _ o => set o) s.fsu.drives } }

/-- The level of a carrier generator at a time: code 0 has a period of 20 ms, code 1 three periods
in 40 ms; each period begins with its high half (R11, log 22). -/
def carrierHigh (code : Bool) (ticks : Nat) : Bool :=
  if code then (3 * ticks) % 160 < 80 else ticks % 80 < 40

/-- The level an output carries: its code's square wave while energised, inactive otherwise
(R11). -/
def OutputRec.wave (ticks : Nat) (o : OutputRec) : Bool := o.energised && carrierHigh o.code ticks

end Sys2Proof.Machine
end

