-- ==== Sys2Proof/Machine/Proving.lean ====
section
/-! DEFINITION. The tests that other blocks' events repeat: the completion test of a route (R84),
the proving test of a hosted portion (R154) and the proven state of a hosted flank grant (R129). -/

namespace Sys2Proof.Machine

open Sys2Proof

/-- The points an owner must find at rest: path points, overlap points while the overlap is HELD,
locally claimed flank points (R84, R154). -/
def State.ownPoints (s : State) (o : Owner) : List (Fin 16 × Position) :=
  pointsOf s.config o ++
    ((if (s.holdOf o).overlap = .held then overlapPointsOf s.config o else []) ++
      flankPoints s.config (s.holdOf o).flank)

/-- The completion test's conditions (R84). -/
def State.complete (s : State) (r : Fin 64) : Bool :=
  s.pointsRestAt (s.ownPoints (.route r)) &&
    (s.lku.routes[r]).offers.all fun k => (s.hou.offers[k]).any fun o => o.state == .granted

/-- The completion test of a route in SETTING; it becomes LOCKED where the test passes (R84). -/
def State.completionTest (s : State) (r : Fin 64) : State :=
  if (s.lku.routes[r]).state = .setting ∧ s.complete r then
    (s.updRoute r fun c => { c with state := .locked, setting := .stopped }).clearFault
      .settingFailed (byteOf r.val)
  else s

/-- The completion test of every route of a list. -/
def State.completionTests (s : State) (rs : List (Fin 64)) : State :=
  s.forEach rs State.completionTest

/-- The proving test's conditions for a hosted portion (R154). -/
def State.portionProves (s : State) (p : Fin 16) : Bool :=
  let h := s.holdOf (.portion p)
  s.pointsRestAt (s.ownPoints (.portion p)) &&
    (pathOf s.config (.portion p)).all s.provesFree &&
    (h.overlap != .held || (overlapOf s.config (.portion p)).all s.provesFree) &&
    (flankSignals s.config h.flank).all s.redProved

/-- The runtime state of a portion after a proving test with an outcome: between SETTING and PROVEN
alone (R154). -/
def PortionState.proved (ok : Bool) : PortionState → PortionState
  | .setting => if ok then .proven else .setting
  | .proven => if ok then .proven else .setting
  | .idle => .idle
  | .inUse => .inUse
  | .overlapHeld => .overlapHeld

/-- The proving test of a portion in SETTING or PROVEN (R154). -/
def State.provingTest (s : State) (p : Fin 16) : State :=
  s.updPortion p fun c => { c with state := c.state.proved (s.portionProves p) }

/-- Whether the element of a flank entry stands proven for a grant (R129). -/
def State.entryProven (s : State) (e : Fin 48) : Bool :=
  match elementOf s.config e with
  | some (.point p q) => (s.pcu.points[p]).at q
  | some (.signal g) => s.redProved g
  | _ => false

/-- The proven state of the grants whose entry used names an element set again (R129). -/
def State.proveGrants (s : State) (names : FlankElement → Bool) : State :=
  s.mapGrants fun _ g => g.map fun g =>
    if (elementOf s.config g.used).any names then { g with proven := s.entryProven g.used } else g

/-- The proving test of every portion of a list. -/
def State.provingTests (s : State) (ps : List (Fin 16)) : State := s.forEach ps State.provingTest

end Sys2Proof.Machine
end

