-- ==== Sys2Proof/Machine/Report.lean ====
section
/-! DEFINITION. What follows within any event from the state it has left: lamp outputs and their
supervision (R14, R99 to R102), the tests a red lamp bears on (R129, R154), and the STATUS and
DISPLAY telegrams that a change of content places (R146, R165). -/

namespace Sys2Proof.Machine

open Sys2Proof

def lampList : List Lamp := [.red, .yellow, .green]

/-- A lamp-failed flag with its fault condition (R99, R100). -/
def State.putFailed (s : State) (g : Fin 16) (l : Lamp) (v : Bool) : State :=
  (s.updSignal g fun r => r.updLamp l fun m => { m with failed := v }).updFaults
    (putCondition ⟨.lampFailed, lampElement g l⟩ v)

/-- The lamp-failed flags of some lamps of a signal cleared (R100). -/
def State.clearLamps (s : State) (g : Fin 16) (ls : List Lamp) : State :=
  s.forEach ls fun s l => s.putFailed g l false

/-- The lamp-failed flags of some lamps of some signals cleared (R100). -/
def State.clearFlags (s : State) (gs : List (Fin 16)) (ls : List Lamp) : State :=
  s.forEach gs fun s g => s.clearLamps g ls

/-- A stray-proving flag with its fault condition (R101, R102). -/
def State.putStray (s : State) (g : Fin 16) (l : Lamp) (v : Bool) : State :=
  (s.updSignal g fun r => r.updLamp l fun m => { m with stray := v }).updFaults
    (putCondition ⟨.strayProving, lampElement g l⟩ v)

/-- The three conditions of a failure timer (R99). -/
def State.darkDriven (s : State) (g : Fin 16) (l : Lamp) : Bool :=
  s.energised g l && !s.lit g l && !(s.lampRec g l).failed

/-- The three conditions of a stray timer (R101). -/
def State.litUndriven (s : State) (g : Fin 16) (l : Lamp) : Bool :=
  !s.energised g l && s.lit g l && !(s.lampRec g l).stray

/-- The condition of a stray-clear timer (R102). -/
def State.strayDark (s : State) (g : Fin 16) (l : Lamp) : Bool :=
  (s.lampRec g l).stray && !s.lit g l

/-- A proving timer across an event: started where its condition comes to hold, stopped where it
does not hold, running on where it held before (R99). -/
def Timer.follow (before after : Bool) (t : Timer) : Timer :=
  if after then (if before then t else .start Config.provingTime) else .stopped

/-- The three timers of a lamp across an event. -/
def LampRec.follow (b s : State) (g : Fin 16) (l : Lamp) (r : LampRec) : LampRec :=
  { r with
    failureTimer := r.failureTimer.follow (b.darkDriven g l) (s.darkDriven g l)
    strayTimer := r.strayTimer.follow (b.litUndriven g l) (s.litUndriven g l)
    strayClearTimer := r.strayClearTimer.follow (b.strayDark g l) (s.strayDark g l) }

/-- Whether an event has returned a route from a signal to IDLE and left none beyond it (R100). -/
def State.freshTrial (before s : State) (g : Fin 16) : Bool :=
  let from' := (indices 64).filter fun r => (s.config.routes[r]).any (·.entry == g)
  from'.any (fun r => (before.lku.routes[r]).state != .idle) &&
    from'.all fun r => (s.lku.routes[r]).state == .idle

/-- The yellow and green lamp-failed flags cleared at a return to IDLE (R100). -/
def State.clearAspectLamps (before s : State) : State :=
  s.clearFlags ((indices 16).filter fun g => before.freshTrial s g) [.yellow, .green]

/-- A red lamp comes to be energised and lit in the event (R100). -/
def State.redRestored (before s : State) (g : Fin 16) : Bool :=
  s.energised g .red && s.lit g .red && !(before.energised g .red && before.lit g .red)

/-- The red lamp-failed flags cleared in the event (R100). -/
def State.clearRedLamps (before s : State) : State :=
  s.clearFlags ((indices 16).filter fun g => before.redRestored s g) [.red]

/-- The proving timers of every configured signal across the event. -/
def State.followLamps (before s : State) : State :=
  s.mapSignals fun g r =>
    { r with
      red := r.red.follow before s g .red
      yellow := r.yellow.follow before s g .yellow
      green := r.green.follow before s g .green }

/-- A change of the red proving input or the red lamp-failed flag of a signal in the event. -/
def State.redChanged (before s : State) (g : Fin 16) : Bool :=
  before.lit g .red != s.lit g .red || (before.lampRec g .red).failed != (s.lampRec g .red).failed

/-- Grants and portions that a changed red lamp bears on are tested again (R129, R154). -/
def State.followReds (before s : State) : State :=
  let gs := (indices 16).filter fun g => before.redChanged s g
  let s := s.proveGrants fun e => gs.any fun g => e == .signal g
  s.provingTests ((indices 16).filter fun p =>
    (flankSignals s.config (s.holdOf (.portion p)).flank).any gs.contains)

/-- The shown aspect that the event leaves, kept for the next one (R97, log 36). -/
def State.keepShown (s : State) : State :=
  let shown := s.allShown
  s.mapSignals fun g r => { r with kept := shown[g] }

/-- The outputs and their supervision after an event that began in `before`, in the order of log 14:
the yellow and green flags that clear, the outputs and the shown aspects, the red flags that then
clear, the proving timers. A permission that a cleared red flag gives another signal waits for the
next flash boundary, so the outputs stand. -/
def State.settleLamps (before s : State) : State :=
  before.followLamps (before.clearRedLamps (before.clearAspectLamps s).refreshOutputs.keepShown)

/-- Everything of FSU, ASU and the proven states that follows within the event. -/
def State.settled (before s : State) : State := before.followReds (before.settleLamps s)

/-! ## STATUS (R146) -/

/-- The entries of a STATUS for the reported heads (R39). -/
def State.headEntries (s : State) : List HeadEntry :=
  (indices 24).filterMap fun h =>
    if s.config.heads[h] = some true then
      let r := s.acu.heads[h]
      some ⟨byteOf h.val, r.forward, r.backward, flagByte r.seqFault⟩
    else none

/-- The entries for the boundary sections. -/
def State.sectionEntries (s : State) : List SectionEntry :=
  (indices 32).filterMap fun k =>
    if (boundaryNeighbour s.config k).isSome then
      some ⟨byteOf k.val, (s.acu.sections[k]).state.code⟩
    else none

/-- The entries for the reported signals (R91). -/
def State.signalEntries (s : State) : List SignalEntry :=
  (indices 16).filterMap fun g =>
    if s.config.signals[g] = some true then
      some ⟨byteOf g.val, withBit7 (s.shown g).code (s.lampRec g .red).failed⟩
    else none

/-- The address of a neighbour; 0 where it is not configured. -/
def addressOf (cfg : ZoneConfig) (n : Fin 4) : Byte := ((cfg.neighbours[n]).map (·.address)).getD 0

/-- The entries for the hosted portions not in IDLE. -/
def State.portionEntries (s : State) : List PortionEntry :=
  (indices 16).filterMap fun p =>
    let r := s.hou.portions[p]
    match r.state, r.requester with
    | .idle, _ => none
    | _, none => none
    | st, some (n, i) => some ⟨byteOf p.val, addressOf s.config n, i, withBit7 st.code r.released⟩

/-- The host's element number of a flank entry. -/
def elementNumber (cfg : ZoneConfig) (e : Fin 48) : Byte :=
  match elementOf cfg e with
  | some (.point p _) => byteOf p.val
  | some (.signal g) => byteOf g.val
  | some (.remotePoint m _) => ((cfg.boundary[m]).map (·.number)).getD 0
  | some (.remoteSignal m) => ((cfg.boundary[m]).map (·.number)).getD 0
  | none => 0

/-- The entries for the hosted flank grants in use. -/
def State.grantEntries (s : State) : List GrantEntry :=
  (indices 8).filterMap fun k =>
    (s.hou.grants[k]).map fun g =>
      ⟨addressOf s.config g.requester, g.offerId, elementNumber s.config g.requested,
        withBit7 (((elementOf s.config g.requested).map flankCode).getD 0) g.proven⟩

/-- The kind code of a held offer. -/
def OfferKind.code : OfferKind → Byte
  | .portion => 0
  | .flank => 1

/-- The held-offer list. -/
def State.offerEntries (s : State) : List OfferEntry :=
  (indices 8).filterMap fun k =>
    (s.hou.offers[k]).map fun o => ⟨addressOf s.config o.neighbour, o.id, o.kind.code, o.target⟩

/-- The content of a STATUS built from the state as it stands (R146). -/
def State.statusContent (s : State) : StatusContent where
  station := s.sld.station.code
  faultCode := s.sld.faultCode
  heads := s.headEntries
  sections := s.sectionEntries
  signals := s.signalEntries
  portions := s.portionEntries
  grants := s.grantEntries
  offers := s.offerEntries

/-- A STATUS built and placed: the period restarts, the 50 ms begin, no change is left waiting. A
station that knows no own address sends nothing; a HALT entered from CONFIG sends with code 0 (R133,
R146, R166). -/
def State.placeStatus (s : State) : State :=
  if s.sld.ownAddress.isNone then s
  else
    let code := if s.sld.check = .accepted then neighboursCode s.config else 0
    let s := s.placeStatusSlot code (.status s.statusContent)
    { s with hou := { s.hou with
        statusPeriod := .startMs s.config.statusPeriod
        statusPacing := .startMs Config.statusPacing
        statusChange := false } }

/-- A change of STATUS content: placed at once, or left for the end of the 50 ms (R146). -/
def State.statusChanged (s : State) : State :=
  if s.hou.statusPacing.isRunning then { s with hou := { s.hou with statusChange := true } }
  else s.placeStatus

/-! ## DISPLAY (R165) -/

/-- The lamp flags of a signal as page 0 carries them (R171). -/
def SignalRec.flags (r : SignalRec) : Byte :=
  let bit := fun (b : Bool) (k : Nat) => if b then 2 ^ k else 0
  byteOf (bit r.red.failed 0 + bit r.yellow.failed 1 + bit r.green.failed 2 +
    bit r.red.stray 3 + bit r.yellow.stray 4 + bit r.green.stray 5)

/-- The content of page 0 built from the state as it stands. -/
def State.pageZeroContent (s : State) : PageZero where
  station := s.sld.station.code
  neighbours := (indices 4).filterMap fun n => (s.config.neighbours[n]).map fun _ =>
    let r := s.hou.neighbours[n]
    (byteOf n.val, withBit7 r.state.code r.blocked)
  routes := (indices 64).filterMap fun r => (s.config.routes[r]).map fun _ =>
    let c := s.lku.routes[r]
    (byteOf r.val, withBit7 c.state.code c.note)
  signals := (indices 16).filterMap fun g => (s.config.signals[g]).map fun _ =>
    (byteOf g.val, withBit7 (s.shown g).code (s.lku.signals[g]).blocked, (s.asu.signals[g]).flags)

/-- The content of page 1 built from the state as it stands: the first 32 conditions of the fault
list, and "more" beyond them. -/
def State.pageOneContent (s : State) : PageOne where
  sections := (indices 32).filterMap fun k => (s.config.sections[k]).map fun _ =>
    let r := s.acu.sections[k]
    (byteOf k.val, withBit7 r.state.code (s.lku.sections[k]).blocked, BitVec.ofNat 16 r.count)
  points := (indices 16).filterMap fun p => (s.config.points[p]).map fun _ =>
    let r := s.pcu.points[p]
    (byteOf p.val, withBit7 (r.detected.code + 4 * r.controller.code) (s.lku.points[p]).blocked)
  faults := (s.cmu.faults.take 32).map fun c => (c.kind.code, c.element)
  more := 32 < s.cmu.faults.length

/-- The times of a page. -/
def State.pageTimes (s : State) : Page → PageTimes
  | .zero => s.cmu.pageZero
  | .one => s.cmu.pageOne

/-- The times of a page rewritten. -/
def State.setPageTimes (s : State) (page : Page) (t : PageTimes) : State :=
  match page with
  | .zero => { s with cmu := { s.cmu with pageZero := t } }
  | .one => { s with cmu := { s.cmu with pageOne := t } }

/-- The payload of a page built from the state as it stands. -/
def State.pagePayload (s : State) : Page → Payload
  | .zero => .displayZero s.pageZeroContent
  | .one => .displayOne s.pageOneContent

/-- A page built and placed: its 100 ms begin (R165). R165 does not say whether a change that waits
for the end of the page's 100 ms still owes a page when the period places that page meanwhile. The
page placed holds the change, so the model drops the waiting change (DESIGN CHOICE, log 42). -/
def State.placePage (s : State) (page : Page) : State :=
  (s.placeDisplaySlot page (s.pagePayload page)).setPageTimes page
    ⟨.startMs Config.displayPacing, false⟩

/-- A change of a page's content: placed at once, or left for the end of the 100 ms (R165). -/
def State.pageChanged (s : State) (page : Page) : State :=
  if (s.pageTimes page).pacing.isRunning then
    s.setPageTimes page { s.pageTimes page with change := true }
  else s.placePage page

/-- The telegrams that changes of content in an event place, in RUN: the STATUS, then page 0, then
page 1 (R146, R165, log 12). Any change of the fault set is a change of the content of page 1, one
beyond its first 32 conditions too (R164). -/
def State.reported (before s : State) : State :=
  if before.sld.station = .run ∧ s.sld.station = .run then
    let a := if before.statusContent = s.statusContent then s else s.statusChanged
    let b := if before.pageZeroContent = s.pageZeroContent then a else a.pageChanged .zero
    if before.pageOneContent = s.pageOneContent ∧ before.cmu.faults = s.cmu.faults then b
    else b.pageChanged .one
  else s

/-- All that follows within an event that began in `before` and has left the records as in `s`. -/
def State.finish (before s : State) : State := before.reported (before.settled s)

end Sys2Proof.Machine
end

