-- ==== Sys2Proof/Machine/Flank.lean ====
section
/-! DEFINITION. Flank protection (chapter 8): chains, claimability, the search, and the counting of
held-flank sets into the element lock table and out of it. -/

namespace Sys2Proof.Machine

open Sys2Proof

/-- The chain of an entry, at most `fuel` entries (R118). -/
def chainFrom (cfg : ZoneConfig) : Nat → Fin 48 → List (Fin 48)
  | 0, _ => []
  | fuel + 1, e =>
    match cfg.flank[e] with
    | none => []
    | some c =>
      match c.substitute with
      | none => [e]
      | some e' => e :: chainFrom cfg fuel e'

/-- The chain of an entry: up to 3 entries deep (R118). -/
def chainOf (cfg : ZoneConfig) (e : Fin 48) : List (Fin 48) := chainFrom cfg 3 e

/-- The claim count of a point in a position. -/
def PointLock.claims (l : PointLock) : Position → Nat
  | .normal => l.claimsN
  | .reverse => l.claimsR

/-- A point's lock entry with the claim count of a position rewritten. -/
def PointLock.updClaims (l : PointLock) (p : Position) (f : Nat → Nat) : PointLock :=
  match p with
  | .normal => { l with claimsN := f l.claimsN }
  | .reverse => { l with claimsR := f l.claimsR }

/-- A point needs a move for a flank claim (R122): it needs one as R78 says, or it is FAILED,
wherever its contacts show it (DEDUCED, log 37). -/
def PointRec.needsClaimMove (r : PointRec) (p : Position) : Bool :=
  r.needsMove p || r.controller == .failed

/-- A local point is claimable in a position, with what the search has chosen so far (R122). -/
def State.pointClaimable (s : State) (chosen : List FlankElement) (p : Fin 16) (q : Position) :
    Bool :=
  let lock := s.lku.points[p]
  let r := s.pcu.points[p]
  lock.holder.all (fun h => requiredPosition s.config h.owner p == some q) &&
    (lock.claims q.other == 0 && !chosen.contains (.point p q.other)) &&
    (lock.claims q < 15 || chosen.contains (.point p q)) &&
    (!lock.blocked || !r.needsClaimMove q) &&
    (!r.needsClaimMove q || s.trackFree p)

/-- A local signal is claimable, to be held at danger (R123). -/
def State.signalClaimable (s : State) (chosen : List FlankElement) (g : Fin 16) : Bool :=
  let lock := s.lku.signals[g]
  lock.holder.isNone && (lock.holds < 15 || chosen.contains (.signal g))

/-- The neighbour a boundary map entry names is ALIVE and not BLOCKED (R124). -/
def State.remoteClaimable (s : State) (m : Fin 32) : Bool :=
  (s.config.boundary[m]).any fun b =>
    (s.hou.neighbours[b.neighbour]).state == .alive && !(s.hou.neighbours[b.neighbour]).blocked

/-- A flank element is claimable (R122 to R124). -/
def State.claimable (s : State) (chosen : List FlankElement) (e : FlankElement) : Bool :=
  match e with
  | .point p q => s.pointClaimable chosen p q
  | .signal g => s.signalClaimable chosen g
  | .remotePoint m q => s.remoteClaimable m && !chosen.contains (.remotePoint m q.other)
  | .remoteSignal m => s.remoteClaimable m

/-- The entry of a chain chosen for a position (R121). -/
def State.chooseFrom (s : State) (chosen : List FlankElement) (e : Fin 48) : Option (Fin 48) :=
  (chainOf s.config e).find? fun c => (elementOf s.config c).any (s.claimable chosen)

/-- The flank search over the positions of a flank list, with the elements chosen so far; the
entries chosen, in order, or nothing where a chain yields none (R121). -/
def State.searchFrom (s : State) : List (Fin 48) → List FlankElement → Option (List (Fin 48))
  | [], _ => some []
  | e :: rest, chosen =>
    match s.chooseFrom chosen e with
    | none => none
    | some c =>
      match s.searchFrom rest ((elementOf s.config c).toList ++ chosen) with
      | none => none
      | some cs => some (c :: cs)

/-- The flank search of a setting event (R121). -/
def State.flankSearch (s : State) (list : List (Fin 48)) : Option (List (Fin 48)) :=
  s.searchFrom list []

/-- The claims of points counted in or out (R71). -/
def State.countPoints (s : State) (f : Nat → Nat) (ps : List (Fin 16 × Position)) : State :=
  s.forEach ps fun s q => s.updPointLock q.1 fun l => l.updClaims q.2 f

/-- The holds of signals counted in or out (R71). -/
def State.countSignals (s : State) (f : Nat → Nat) (gs : List (Fin 16)) : State :=
  s.forEach gs fun s g => s.updSignalLock g fun l => { l with holds := f l.holds }

/-- The claims and holds of a set counted in or out: each distinct point and position, and each
distinct signal, once (R125, R126). -/
def State.countFlank (s : State) (f : Nat → Nat) (items : List FlankItem) : State :=
  (s.countPoints f (flankPoints s.config items)).countSignals f (flankSignals s.config items)

/-- A held-flank set counted into the lock table (R125). -/
def State.claimFlank (s : State) (items : List FlankItem) : State := s.countFlank (· + 1) items

/-- A held-flank set counted out of the lock table (R126). -/
def State.releaseFlank (s : State) (items : List FlankItem) : State := s.countFlank (· - 1) items

end Sys2Proof.Machine
end

