-- ==== Sys2Proof/Machine/Offers.lean ====
section
/-! DEFINITION. The offer table (10.3): making a record and its request, removing one, and the
release that goes with it. -/

namespace Sys2Proof.Machine

open Sys2Proof

/-- Whether an id is held by a record of the table. -/
def State.idHeld (s : State) (i : Byte) : Bool :=
  (indices 8).any fun k => (s.hou.offers[k]).any (·.id == i)

/-- The next offer id: the last plus 1, ids held by records skipped (R148). Eight records hold at
most eight ids, so one of nine numbers in a row is free. -/
def State.nextId (s : State) : Byte :=
  (((List.range 9).map fun d => s.hou.lastId + 1 + byteOf d).find? fun i => !s.idHeld i).getD
    (s.hou.lastId + 1)

/-- The lowest-numbered free record (log 11). -/
def State.freeRecord (s : State) : Option (Fin 8) :=
  (indices 8).find? fun k => (s.hou.offers[k]).isNone

/-- How many records are free (R80). -/
def State.freeRecords (s : State) : Nat :=
  ((indices 8).filter fun k => (s.hou.offers[k]).isNone).length

/-- The reply time of a neighbour in 100 ms steps. -/
def replyTime (cfg : ZoneConfig) (n : Fin 4) : Nat :=
  ((cfg.neighbours[n]).map (·.replyTime)).getD 10

/-- The request telegram of an offer (R125, R148). -/
def Offer.request (o : Offer) : Payload :=
  match o.kind with
  | .portion => .portionRequest o.target o.id
  | .flank => .flankRequest o.id o.code o.target

/-- The release telegram of an offer (R151). -/
def Offer.release (o : Offer) : Payload :=
  match o.kind with
  | .portion => .portionRelease o.target o.id
  | .flank => .flankRelease o.id

/-- A remote request of a setting event. -/
structure RemoteRequest where
  kind : OfferKind
  neighbour : Fin 4
  target : Byte
  code : Byte
deriving DecidableEq, Repr

/-- An offer record in state SENT made for a route, its request queued, and the record entered among
the route's offer references (R81, R148). -/
def State.makeOffer (s : State) (r : Fin 64) (q : RemoteRequest) : State :=
  match s.freeRecord with
  | none => s
  | some k =>
    let o : Offer := ⟨s.nextId, q.kind, q.neighbour, q.target, q.code, r, .sent, 0,
      .start (replyTime s.config q.neighbour)⟩
    let s := s.updOffer k fun _ => some o
    let s := { s with hou := { s.hou with lastId := o.id } }
    (s.updRoute r fun c => { c with offers := c.offers ++ [k] }).toNeighbour q.neighbour o.request

/-- A held-flank item without its offer record, where that is record `k`. -/
def FlankItem.dropOffer (k : Fin 8) (i : FlankItem) : FlankItem :=
  if i.offer = some k then { i with offer := none } else i

/-- A record taken out of its route's references and out of its held-flank items. -/
def RouteRec.dropOffer (k : Fin 8) (c : RouteRec) : RouteRec :=
  { c with
    offers := c.offers.filter (fun j => j ≠ k)
    hold := { c.hold with flank := c.hold.flank.map (FlankItem.dropOffer k) } }

/-- A record removed, without a telegram (R149, R157). -/
def State.removeOffer (s : State) (k : Fin 8) : State :=
  match s.hou.offers[k] with
  | none => s
  | some o => (s.updOffer k fun _ => none).updRoute o.route (RouteRec.dropOffer k)

/-- A record removed with its release placed (R150, R151). -/
def State.handBack (s : State) (k : Fin 8) : State :=
  match s.hou.offers[k] with
  | none => s
  | some o => (s.removeOffer k).toNeighbour o.neighbour o.release

end Sys2Proof.Machine
end

