-- ==== Sys2Proof/Machine/Pool.lean ====
section
/-! DEFINITION. The release timer pool (7.4): request, grant from the queue, and giving up. -/

namespace Sys2Proof.Machine

open Sys2Proof

/-- The duration a route asks for, in 100 ms steps: its approach release time in APPROACH_HELD, its
overlap release time in OVERLAP_HELD (R115). -/
def State.poolDuration (s : State) (r : Fin 64) : Nat :=
  match s.config.routes[r] with
  | none => 0
  | some c => 10 * if (s.lku.routes[r]).state = .approachHeld then c.approachTime else c.overlapTime

/-- A timer granted to a route with its full duration (R115, R116). -/
def State.grantTimer (s : State) (k : Fin 16) (r : Fin 64) : State :=
  (s.updPoolTimer k (some ⟨r, .start (s.poolDuration r)⟩)).updRoute r fun c =>
    { c with pool := .timer k }

/-- A timer that has become free goes to the head of the queue (R116, R117). -/
def State.grantHead (s : State) (k : Fin 16) : State :=
  match s.rtp.queue with
  | [] => s
  | q :: rest => (s.setPoolQueue rest).grantTimer k q

/-- A request for a timer: the lowest-numbered free one, or the tail of the queue (R115). -/
def State.requestTimer (s : State) (r : Fin 64) : State :=
  match (indices 16).find? fun k => (s.rtp.timers[k]).isNone with
  | some k => s.grantTimer k r
  | none =>
    (s.setPoolQueue (s.rtp.queue ++ [r])).updRoute r fun c => { c with pool := .queued }

/-- A route gives up its timer or its queue place (R116). -/
def State.giveUpTimer (s : State) (r : Fin 64) : State :=
  let free := s.updRoute r fun c => { c with pool := .none }
  match (s.lku.routes[r]).pool with
  | .none => s
  | .queued => free.setPoolQueue (free.rtp.queue.filter (fun q => q ≠ r))
  | .timer k => (free.updPoolTimer k none).grantHead k

end Sys2Proof.Machine
end

