-- ==== Sys2Proof/Machine/Release.lean ====
section
/-! DEFINITION. Giving back what a route or a hosted portion holds: full release (R86, R155),
sectional release (R104, R105), the end of the path (R106), overlap holding and release (R108 to
R110), and the cancel of a LOCKED route (R112). -/

namespace Sys2Proof.Machine

open Sys2Proof

/-- Whether a holder is one an owner has in a role that `roles` admits. -/
def heldBy (o : Owner) (roles : Role → Bool) (h : Option Holder) : Bool :=
  h.any fun x => x.owner == o && roles x.role

/-- A holder dropped where the owner has it in one of the roles. -/
def dropHolder (o : Owner) (roles : Role → Bool) (h : Option Holder) : Option Holder :=
  if heldBy o roles h then none else h

/-- Every element an owner holds in one of the roles gets holder none. -/
def State.freeElements (s : State) (o : Owner) (roles : Role → Bool) : State :=
  { s with lku := { s.lku with
      sections := mapTab (fun _ l => { l with holder := dropHolder o roles l.holder }) s.lku.sections
      points := mapTab (fun _ l => { l with holder := dropHolder o roles l.holder }) s.lku.points
      signals := mapTab (fun _ l => { l with holder := dropHolder o roles l.holder })
        s.lku.signals } }

def anyRole : Role → Bool := fun _ => true
def overlapRole : Role → Bool := fun r => r == .overlap
def pathRole : Role → Bool := fun r => r == .path
def entryRole : Role → Bool := fun r => r == .entry

/-- The route record at its IDLE values (R73). -/
def State.idleRoute (s : State) (r : Fin 64) : State :=
  s.updRoute r fun _ => RouteRec.idle (idleOverlap s.config (.route r))

/-- The portion record at its IDLE values (R152). -/
def State.idlePortion (s : State) (p : Fin 16) : State :=
  s.updPortion p fun _ => PortionRec.idle (idleOverlap s.config (.portion p))

/-- The held-flank set of an owner subtracted and emptied (R126). -/
def State.dropFlank (s : State) (o : Owner) : State :=
  (s.releaseFlank (s.holdOf o).flank).updHold o fun h => { h with flank := [] }

/-- The offer records of a route handed to the HOU (R86, R106, R151), in the order of its offer
references (DESIGN CHOICE, log 12). -/
def State.handBackAll (s : State) (r : Fin 64) : State :=
  s.forEach (s.lku.routes[r]).offers State.handBack

/-- The full release of a route (R86). -/
def State.fullRelease (s : State) (r : Fin 64) : State :=
  let s := s.freeElements (.route r) anyRole
  let s := s.dropFlank (.route r)
  let s := s.handBackAll r
  (s.giveUpTimer r).idleRoute r

/-- The full release of a hosted portion (R155). -/
def State.releasePortion (s : State) (p : Fin 16) : State :=
  ((s.freeElements (.portion p) anyRole).dropFlank (.portion p)).idlePortion p

/-- A route in SETTING fails setting; a route in any other state is left as it is (R87). -/
def State.failSetting (s : State) (r : Fin 64) : State :=
  if (s.lku.routes[r]).state = .setting then s.fullRelease r else s

/-! ## Overlap -/

/-- The overlap clear test (R109). -/
def State.overlapClear (s : State) (o : Owner) : Bool :=
  (overlapOf s.config o).all fun k => (s.acu.sections[k]).isFree

/-- The overlap released and the owner IDLE (R109, R154). -/
def State.releaseOverlap (s : State) (o : Owner) : State :=
  let s := s.freeElements o overlapRole
  match o with
  | .route r => s.idleRoute r
  | .portion p => s.idlePortion p

/-- The overlap clear test made, and the overlap released where it passes. -/
def State.tryOverlap (s : State) (o : Owner) : State :=
  if s.overlapClear o then s.releaseOverlap o else s

/-- A route's configured overlap release time in seconds. -/
def overlapTime (cfg : ZoneConfig) (r : Fin 64) : Nat :=
  ((cfg.routes[r]).map (·.overlapTime)).getD 0

/-- The entry of a route into OVERLAP_HELD (R108). -/
def State.enterOverlapHeld (s : State) (r : Fin 64) : State :=
  let s := s.updRoute r fun c => { c with state := .overlapHeld }
  if overlapTime s.config r = 0 then s.tryOverlap (.route r) else s.requestTimer r

/-! ## Path -/

/-- Whether a path section has been seen occupied, at a notice of `k` that read OCC as `occ`
(R104). -/
def State.seesOccupied (s : State) (k : Fin 32) (occ : Bool) (j : Fin 32) : Bool :=
  (j == k && occ) || (s.acu.sections[j]).state != .clear || (s.acu.sections[j]).occ

/-- The status of the path section at a place after the marking (R104). -/
def PathStatus.marked (path : List (Fin 32)) (seen : Fin 32 → Bool) (i : Fin 8) (st : PathStatus) :
    PathStatus :=
  match st, path[i.val]? with
  | .locked, some j => if seen j then .seenOccupied else .locked
  | other, _ => other

/-- A hold with its path sections marked (R104). -/
def Hold.marked (path : List (Fin 32)) (seen : Fin 32 → Bool) (h : Hold) : Hold :=
  { h with status := mapTab (PathStatus.marked path seen) h.status }

/-- The marking of the path sections seen occupied, at a notice of `k` that read OCC as `occ`
(R104). -/
def State.markPath (s : State) (o : Owner) (k : Fin 32) (occ : Bool) : State :=
  s.updHold o (Hold.marked (pathOf s.config o) (s.seesOccupied k occ))

/-- The holders of the points of a list whose track section is `k` (R105). -/
def State.freePoints (s : State) (o : Owner) (k : Fin 32) (ps : List (Fin 16 × Position)) : State :=
  s.forEach ps fun s q =>
    if (s.config.points[q.1]).any (·.track == k) then
      s.updPointLock q.1 fun l => { l with holder := dropHolder o pathRole l.holder }
    else s

/-- The entry signal of a route freed with its path section 0; a portion holds no signal (R105,
R154). -/
def State.freeEntry (s : State) (o : Owner) : State :=
  match o with
  | .portion _ => s
  | .route r =>
    match s.config.routes[r] with
    | none => s
    | some c =>
      s.updSignalLock c.entry fun l => { l with holder := dropHolder o entryRole l.holder }

/-- One path section released: its status and holder, the points whose track section it is, and with
path section 0 of a route the entry signal (R105). -/
def State.releaseSection (s : State) (o : Owner) (i : Fin 8) (k : Fin 32) : State :=
  let s := s.updHold o fun h => { h with status := upd h.status i fun _ => .released }
  let s := s.updSectionLock k fun l => { l with holder := dropHolder o pathRole l.holder }
  let s := s.freePoints o k (pointsOf s.config o)
  if i = 0 then s.freeEntry o else s

/-- The path of an owner with its places, in path order. -/
def pathPlaces (cfg : ZoneConfig) (o : Owner) : List (Fin 8 × Fin 32) :=
  (indices 8).filterMap fun i => ((pathOf cfg o)[i.val]?).map fun k => (i, k)

/-- Whether the path section at a place may be released (R105). -/
def State.mayRelease (s : State) (o : Owner) (i : Fin 8) (k : Fin 32) : Bool :=
  let status := (s.holdOf o).status
  status[i] == .seenOccupied && (s.acu.sections[k]).isFree &&
    (i.val + 1 == (pathOf s.config o).length ||
      (if h : i.val + 1 < 8 then status[i.val + 1] == .seenOccupied else false))

/-- Sectional release from the first place not yet released, section by section until one does not
qualify (R105). -/
def State.releaseFrom (s : State) (o : Owner) : List (Fin 8 × Fin 32) → State
  | [] => s
  | (i, k) :: rest =>
    if (s.holdOf o).status[i] = .released then s.releaseFrom o rest
    else if s.mayRelease o i k then (s.releaseSection o i k).releaseFrom o rest
    else s

/-- Whether the last path section of an owner is released. -/
def State.pathEnded (s : State) (o : Owner) : Bool :=
  (pathPlaces s.config o).all fun q => (s.holdOf o).status[q.1] == .released

/-- The end of the path: flank and offers go, and the owner becomes OVERLAP_HELD or IDLE (R106,
R154). -/
def State.endPath (s : State) (o : Owner) : State :=
  let s := s.dropFlank o
  let held := (s.holdOf o).overlap = .held
  match o with
  | .route r =>
    let s := s.handBackAll r
    if held then s.enterOverlapHeld r else s.idleRoute r
  | .portion p =>
    if held then
      (s.updPortion p fun c => { c with state := .overlapHeld }).tryOverlap o
    else s.idlePortion p

/-- Marking and sectional release at a notice of a section held by an owner in IN_USE (R104,
R105). -/
def State.followTrain (s : State) (o : Owner) (k : Fin 32) (occ : Bool) : State :=
  let s := s.markPath o k occ
  let s := s.releaseFrom o (pathPlaces s.config o)
  if s.pathEnded o then s.endPath o else s

/-! ## Cancel -/

/-- The approach test of a cancel (R112). -/
def State.approachClear (s : State) (r : Fin 64) : Bool :=
  (s.config.routes[r]).all fun c => c.approach.all s.provesFree

/-- The cancel of a LOCKED route (R112). -/
def State.cancelLocked (s : State) (r : Fin 64) : State :=
  if s.approachClear r then s.fullRelease r
  else (s.updRoute r fun c => { c with state := .approachHeld }).requestTimer r

end Sys2Proof.Machine
end

