-- ==== Sys2Proof/Machine/Setting.lean ====
section
/-! DEFINITION. The setting event (5.4): its checks in their fixed order, takeover, and the taking,
for routes (R75 to R82) and for hosted portions (R83). -/

namespace Sys2Proof.Machine

open Sys2Proof

/-! ## Checks -/

/-- A holder that is a predecessor's overlap: the owner's exit signal is the entry signal of the
route being set (R77). -/
def isPredecessor (cfg : ZoneConfig) (entry : Fin 16) (h : Holder) : Bool :=
  h.role == .overlap &&
    ((planOf cfg h.owner).map (·.exit)) == some (.localSignal entry)

/-- An element may be taken: it has no holder, or, for a route with this entry signal, its holder is
a predecessor's overlap (R77, R78). A portion takes nothing over, so it gives no entry (R83). -/
def mayTake (cfg : ZoneConfig) (entry : Option (Fin 16)) (h : Option Holder) : Bool :=
  h.all fun x => entry.any fun g => isPredecessor cfg g x

/-- The tests of one path or overlap section (R77). -/
def State.checkSection (s : State) (entry : Option (Fin 16)) (k : Fin 32) : Option Reason :=
  let l := s.lku.sections[k]
  if !mayTake s.config entry l.holder then some .conflict
  else if l.blocked then some .blocked
  else none

/-- The tests of one path or overlap point (R78). -/
def State.checkPoint (s : State) (entry : Option (Fin 16)) (q : Fin 16 × Position) :
    Option Reason :=
  let l := s.lku.points[q.1]
  let moves := (s.pcu.points[q.1]).needsMove q.2
  if !mayTake s.config entry l.holder then some .conflict
  else if l.blocked && moves then some .blocked
  else if l.claims q.2.other ≠ 0 then some .flankHeld
  else if moves && !s.trackFree q.1 then some .pointOccupied
  else none

/-- Checks 3 to 5: path sections, path points then overlap points, overlap sections (R77, R78). -/
def State.checkElements (s : State) (entry : Option (Fin 16)) (p : Plan) : Option Reason :=
  match p.path.findSome? (s.checkSection entry) with
  | some why => some why
  | none =>
    match (p.points ++ p.overlapPoints).findSome? (s.checkPoint entry) with
    | some why => some why
    | none => p.overlap.findSome? (s.checkSection entry)

/-- Check 2: the entry signal (R76). -/
def State.checkEntry (s : State) (g : Fin 16) : Option Reason :=
  let l := s.lku.signals[g]
  if l.holder.isSome then some .conflict
  else if l.blocked then some .blocked
  else if l.holds ≠ 0 then some .flankHeld
  else none

/-- Check 6: the neighbour of the portion request (R79). -/
def State.checkRequest (s : State) (request : Option (Fin 4 × Fin 16)) : Option Reason :=
  match request with
  | none => none
  | some (n, _) =>
    let r := s.hou.neighbours[n]
    if r.state ≠ .alive then some .neighbourSilent
    else if r.blocked then some .neighbourBlocked
    else none

/-- The request telegram's content for a remote flank element (R125). -/
def remoteRequestOf (cfg : ZoneConfig) (e : FlankElement) : Option RemoteRequest :=
  match e with
  | .remotePoint m _ => (cfg.boundary[m]).map fun b => ⟨.flank, b.neighbour, b.number, flankCode e⟩
  | .remoteSignal m => (cfg.boundary[m]).map fun b => ⟨.flank, b.neighbour, b.number, flankCode e⟩
  | _ => none

/-- The distinct remote elements of chosen flank entries (R124). -/
def remoteElements (cfg : ZoneConfig) (chosen : List (Fin 48)) : List FlankElement :=
  (distinct (chosen.filterMap (elementOf cfg))).filter fun e => (remoteRequestOf cfg e).isSome

/-- How many remote requests a setting sends (R80). -/
def remoteCount (cfg : ZoneConfig) (c : RouteCfg) (chosen : List (Fin 48)) : Nat :=
  c.request.toList.length + (remoteElements cfg chosen).length

/-- Checks 1 to 8 of a route's setting event: the reason of the first that fails, or the flank
entries chosen (R75 to R80). -/
def State.checkRoute (s : State) (r : Fin 64) (c : RouteCfg) : Except Reason (List (Fin 48)) :=
  if (s.lku.routes[r]).state ≠ .idle then .error .notIdle
  else
    match s.checkEntry c.entry with
    | some why => .error why
    | none =>
      match s.checkElements (some c.entry) c.plan with
      | some why => .error why
      | none =>
        match s.checkRequest c.request with
        | some why => .error why
        | none =>
          match s.flankSearch c.plan.flank with
          | none => .error .flankUnavailable
          | some chosen =>
            if s.freeRecords < remoteCount s.config c chosen then .error .noOfferSlot
            else .ok chosen

/-! ## Takeover -/

/-- The predecessors whose overlap elements a plan lists (R77, R82). Where several stand in
OVERLAP_HELD, the order in which they give up their timers decides which waiting route gets which,
and R82 and R116 leave that order open. The model takes them in the order in which the plan names
their elements: path sections, overlap sections, path points, overlap points (DESIGN CHOICE, log
38). -/
def State.predecessors (s : State) (g : Fin 16) (p : Plan) : List Owner :=
  let sections := (p.path ++ p.overlap).filterMap fun k => (s.lku.sections[k]).holder
  let points := (p.points ++ p.overlapPoints).filterMap fun q => (s.lku.points[q.1]).holder
  distinct (((sections ++ points).filter (isPredecessor s.config g)).map (·.owner))

/-- A predecessor loses its overlap; one in OVERLAP_HELD becomes IDLE (R82). -/
def State.dispossess (s : State) (o : Owner) : State :=
  let s := (s.freeElements o overlapRole).updHold o fun h => { h with overlap := .released }
  match o with
  | .route r =>
    if (s.lku.routes[r]).state = .overlapHeld then (s.giveUpTimer r).idleRoute r else s
  | .portion p => if (s.hou.portions[p]).state = .overlapHeld then s.idlePortion p else s

/-! ## Taking -/

/-- The sections of a list become held by an owner with a role (R81). -/
def State.holdSections (s : State) (o : Owner) (role : Role) (ks : List (Fin 32)) : State :=
  s.forEach ks fun s k => s.updSectionLock k fun l => { l with holder := some ⟨o, role⟩ }

/-- The points of a list become held by an owner with a role (R81). -/
def State.holdPoints (s : State) (o : Owner) (role : Role) (ps : List (Fin 16 × Position))
    : State :=
  s.forEach ps fun s q => s.updPointLock q.1 fun l => { l with holder := some ⟨o, role⟩ }

/-- Every element of a plan becomes held by its owner with its role (R81). -/
def State.holdPlan (s : State) (o : Owner) (p : Plan) : State :=
  (((s.holdSections o .path p.path).holdSections o .overlap p.overlap).holdPoints o .path
    p.points).holdPoints o .overlap p.overlapPoints

/-- The hold of an owner just set (R81). -/
def Hold.taken (p : Plan) (items : List FlankItem) : Hold :=
  ⟨Vector.replicate 8 .locked,
    if p.overlap.isEmpty && p.overlapPoints.isEmpty then .none else .held, items⟩

/-- What a route and a portion take alike: the elements, the flank claims and holds with the
held-flank set, and the move requests (R81, R83, R125). -/
def State.takePlan (s : State) (o : Owner) (p : Plan) (chosen : List (Fin 48)) : State :=
  let items : List FlankItem := chosen.map fun e => ⟨e, none⟩
  let s := (s.holdPlan o p).claimFlank items
  let s := s.updHold o fun _ => Hold.taken p items
  s.requestMoves (p.points ++ (p.overlapPoints ++ flankPoints s.config items))

/-- A held-flank item given the offer record of its remote element (R125). -/
def FlankItem.withOffer (cfg : ZoneConfig) (e : FlankElement) (k : Fin 8) (i : FlankItem) :
    FlankItem :=
  if elementOf cfg i.entry = some e then { i with offer := some k } else i

/-- The offer record and FLANK_REQUEST of one remote flank element (R125). -/
def State.offerFlank (s : State) (r : Fin 64) (e : FlankElement) : State :=
  match remoteRequestOf s.config e, s.freeRecord with
  | some q, some k =>
    (s.makeOffer r q).updRoute r fun c =>
      { c with hold := { c.hold with flank := c.hold.flank.map (FlankItem.withOffer s.config e k) } }
  | _, _ => s

/-- The offer record and PORTION_REQUEST of a route with a portion request (R81). -/
def State.offerPortion (s : State) (r : Fin 64) (request : Option (Fin 4 × Fin 16)) : State :=
  match request with
  | none => s
  | some (n, p) => s.makeOffer r ⟨.portion, n, byteOf p.val, 0⟩

/-- The predecessors of a list dispossessed (R82). -/
def State.dispossessAll (s : State) (os : List Owner) : State := s.forEach os State.dispossess

/-- The offer records and requests of remote flank elements (R125). R125 leaves open in what order
the remote requests of one setting event get their offer ids, their records and their places in the
class-1 queue. The model takes the portion request first and then the remote elements in the order
of the flank list (DESIGN CHOICE, log 38). -/
def State.offerFlanks (s : State) (r : Fin 64) (es : List FlankElement) : State :=
  s.forEach es fun s e => s.offerFlank r e

/-- The route record as a setting event starts it; its hold follows with the plan (R81). -/
def RouteRec.started (c : RouteCfg) (x : RouteRec) : RouteRec :=
  { x with state := .setting, setting := .start (10 * c.settingLimit), note := false, offers := [] }

/-- The taking of a route's setting event whose checks have passed, the completion test at its end
included (R81, R82, R84). -/
def State.takeRoute (s : State) (r : Fin 64) (c : RouteCfg) (chosen : List (Fin 48)) : State :=
  let s := s.dispossessAll (s.predecessors c.entry c.plan)
  let s := s.updSignalLock c.entry fun l => { l with holder := some ⟨.route r, .entry⟩ }
  let s := (s.updRoute r (RouteRec.started c)).takePlan (.route r) c.plan chosen
  let s := s.offerPortion r c.request
  (s.offerFlanks r (remoteElements s.config chosen)).completionTest r

/-- A route's setting event (R75): the state after it, or the reason of the first failing check. -/
def State.setRoute (s : State) (r : Fin 64) (c : RouteCfg) : Except Reason State :=
  match s.checkRoute r c with
  | .error why => .error why
  | .ok chosen => .ok (s.takeRoute r c chosen)

/-- The checks of a portion's setting event (R83). -/
def State.checkPortion (s : State) (c : PortionCfg) : Except Reason (List (Fin 48)) :=
  match s.checkElements none c.plan with
  | some why => .error why
  | none =>
    match s.flankSearch c.plan.flank with
    | none => .error .flankUnavailable
    | some chosen => .ok chosen

/-- A portion's setting event (R83). -/
def State.setPortion (s : State) (p : Fin 16) (c : PortionCfg) : Except Reason State :=
  match s.checkPortion c with
  | .error why => .error why
  | .ok chosen =>
    .ok ((s.takePlan (.portion p) c.plan chosen).updPortion p fun x => { x with state := .setting })

end Sys2Proof.Machine
end

