-- ==== Sys2Proof/Machine/Notices.lean ====
section
/-! DEFINITION. The notices the LKU takes (5.6, 7.1, 7.2, R154) and the expiries of its timers (R85,
R117). -/

namespace Sys2Proof.Machine

open Sys2Proof

/-! ## Section notices -/

/-- A section is path section 0 of an owner. -/
def isFirst (cfg : ZoneConfig) (o : Owner) (k : Fin 32) : Bool := (pathOf cfg o).head? == some k

/-- PASSED_AT_DANGER of a route's entry signal with the route's note (R89). -/
def State.notePassed (s : State) (r : Fin 64) (entry : Fin 16) : State :=
  (s.setFault .passedAtDanger (byteOf entry.val)).updRoute r fun c => { c with note := true }

/-- The entry of a train into a LOCKED or APPROACH_HELD route (R89). -/
def State.trainEntry (s : State) (r : Fin 64) (entry : Fin 16) : State :=
  let s := if (s.lku.routes[r]).state = .approachHeld then s.giveUpTimer r else s
  let s := s.updRoute r fun c =>
    { c with
      state := .inUse
      hold := { c.hold with status := upd c.hold.status 0 fun _ => .seenOccupied } }
  if (s.asu.signals[entry]).presented = .danger then s.notePassed r entry else s

/-- A notice for a section held by a route in SETTING, LOCKED or APPROACH_HELD (R89). -/
def State.entryNotice (s : State) (r : Fin 64) (k : Fin 32) (occ : Bool) : State :=
  match s.config.routes[r] with
  | none => s
  | some c =>
    if occ && isFirst s.config (.route r) k then
      if (s.lku.routes[r]).state = .setting then s.notePassed r c.entry else s.trainEntry r c.entry
    else s

/-- A notice for an overlap section of a route in OVERLAP_HELD: the overlap clear test, but not
while a timer runs or a queue place is held (R109). -/
def State.overlapNotice (s : State) (r : Fin 64) : State :=
  if overlapTime s.config r = 0 ∨ (s.lku.routes[r]).pool = .none then s.tryOverlap (.route r) else s

/-- A notice for a section a route holds (R88). -/
def State.routeNotice (s : State) (r : Fin 64) (role : Role) (k : Fin 32) (occ : Bool) : State :=
  match (s.lku.routes[r]).state with
  | .idle => s
  | .setting => s.entryNotice r k occ
  | .locked => s.entryNotice r k occ
  | .approachHeld => s.entryNotice r k occ
  | .inUse => s.followTrain (.route r) k occ
  | .overlapHeld => if role = .overlap then s.overlapNotice r else s

/-- The entry of a train into a hosted portion (R154). -/
def State.portionEntry (s : State) (p : Fin 16) : State :=
  s.updPortion p fun c =>
    { c with
      state := .inUse
      hold := { c.hold with status := upd c.hold.status 0 fun _ => .seenOccupied } }

/-- A notice for a section a hosted portion holds (R154). -/
def State.portionNotice (s : State) (p : Fin 16) (role : Role) (k : Fin 32) (occ : Bool) : State :=
  match (s.hou.portions[p]).state with
  | .idle => s
  | .setting =>
    if occ && isFirst s.config (.portion p) k then s.portionEntry p else s.provingTest p
  | .proven =>
    if occ && isFirst s.config (.portion p) k then s.portionEntry p else s.provingTest p
  | .inUse => s.followTrain (.portion p) k occ
  | .overlapHeld => if role = .overlap then s.tryOverlap (.portion p) else s

/-- The LKU acts on a notice of a section whose latches it has cleared (R88). -/
def State.actOnNotice (s : State) (k : Fin 32) (occ : Bool) : State :=
  match (s.lku.sections[k]).holder with
  | none => s
  | some h =>
    match h.owner with
    | .route r => s.routeNotice r h.role k occ
    | .portion p => s.portionNotice p h.role k occ

/-- SECTION_NOTICE: a notice stands in RUN for a configured section whose CHG latch is set; its
taking clears both latches (R29, R88). -/
def State.sectionNotice (s : State) (k : Fin 32) : State :=
  let r := s.acu.sections[k]
  if s.sld.station = .run ∧ (s.config.sections[k]).isSome ∧ r.chg then
    (s.updSection k SectionRec.noticed).actOnNotice k r.occ
  else s

/-! ## Point notices -/

/-- The routes whose completion test a point bears on (R90). -/
def State.routesOn (s : State) (p : Fin 16) : List (Fin 64) :=
  (indices 64).filter fun r =>
    (s.lku.routes[r]).state == .setting && (s.ownPoints (.route r)).any (·.1 == p)

/-- The portions whose proving test a point bears on (R90, R154). -/
def State.portionsOn (s : State) (p : Fin 16) : List (Fin 16) :=
  (indices 16).filter fun x => (s.ownPoints (.portion x)).any (·.1 == p)

/-- A flank element that names a point. -/
def FlankElement.isPoint (p : Fin 16) : FlankElement → Bool
  | .point x _ => x == p
  | _ => false

/-- What the LKU does with a point notice (R90, R129, R154). -/
def State.actOnPoint (s : State) (p : Fin 16) : State :=
  let s := s.completionTests (s.routesOn p)
  (s.provingTests (s.portionsOn p)).proveGrants (FlankElement.isPoint p)

/-- POINT_NOTICE: a notice stands in RUN for a configured point whose CHG latch is set; its taking
clears the latch (R67, R90). -/
def State.pointNotice (s : State) (p : Fin 16) : State :=
  if s.sld.station = .run ∧ (s.config.points[p]).isSome ∧ (s.pcu.points[p]).chg then
    (s.updPoint p fun r => { r with chg := false }).actOnPoint p
  else s

/-! ## Timers of the LKU and the RTP -/

/-- SETTING_TIMER_EXPIRY (R85). -/
def State.settingExpiry (s : State) (r : Fin 64) : State :=
  let c := s.lku.routes[r]
  if c.state = .setting ∧ c.setting.due then
    (s.fullRelease r).setFault .settingFailed (byteOf r.val)
  else s

/-- The expiry worked for the route whose timer the RTP has taken back (R110, R113, R117). -/
def State.workExpiry (s : State) (r : Fin 64) : State :=
  match (s.lku.routes[r]).state with
  | .approachHeld => s.fullRelease r
  | .overlapHeld => s.tryOverlap (.route r)
  | _ => s

/-- POOL_TIMER_EXPIRY (R117). -/
def State.poolExpiry (s : State) (k : Fin 16) : State :=
  match s.rtp.timers[k] with
  | none => s
  | some t =>
    if t.time.due then
      let s := (s.updPoolTimer k none).updRoute t.route fun c => { c with pool := .none }
      (s.workExpiry t.route).grantHead k
    else s

/-! ## Meanings -/

/-- SECTION_NOTICE. -/
def execSectionNotice (k : Fin 32) (s : State) : Host.Outcome State Fault Refusal :=
  .next (s.finish (s.sectionNotice k))

/-- POINT_NOTICE. -/
def execPointNotice (p : Fin 16) (s : State) : Host.Outcome State Fault Refusal :=
  .next (s.finish (s.pointNotice p))

/-- SETTING_TIMER_EXPIRY. -/
def execSettingTimerExpiry (r : Fin 64) (s : State) : Host.Outcome State Fault Refusal :=
  .next (s.finish (s.settingExpiry r))

/-- POOL_TIMER_EXPIRY. -/
def execPoolTimerExpiry (k : Fin 16) (s : State) : Host.Outcome State Fault Refusal :=
  .next (s.finish (s.poolExpiry k))

end Sys2Proof.Machine
end

