-- ==== Sys2Proof/Machine/Handover.lean ====
section
/-! DEFINITION. The handover unit (chapter 10, 8.5, R50): hosted portions and flank grants, answers
and reply timers, SECTION_RESET, and the lock test of a section reset (R45). -/

namespace Sys2Proof.Machine

open Sys2Proof

/-- The neighbour record is ALIVE. -/
def State.alive (s : State) (n : Fin 4) : Bool := (s.hou.neighbours[n]).state == .alive

/-! ## Section reset -/

/-- A section is locked for a reset (R45). -/
def State.sectionLocked (s : State) (k : Fin 32) : Bool :=
  (s.lku.sections[k]).holder.isSome ||
    (indices 64).any fun r =>
      (s.lku.routes[r]).state == .approachHeld &&
        (s.config.routes[r]).any fun c => c.approach.contains k

/-- A state that a reset may start from (R44, R50). -/
def SectionState.resettable : SectionState → Bool
  | .clear => false
  | .occupied => false
  | .disturbed => true
  | .prepared => true
  | .sweeping => true

/-- The bounding list of a section names a remote head of a neighbour. -/
def namesRemoteOf (cfg : ZoneConfig) (n : Fin 4) (k : Fin 32) : Bool :=
  (cfg.sections[k]).any fun c => c.bounds.any fun b =>
    match b.head with
    | .localHead _ => false
    | .remoteHead e => (cfg.remoteHeads[e]).any (·.neighbour == n)

/-- SECTION_RESET from a neighbour (R50). -/
def State.takeSectionReset (s : State) (n : Fin 4) (number : Byte) : State :=
  match indexOf? 32 number with
  | none => s
  | some k =>
    if s.sld.station = .run ∧ namesRemoteOf s.config n k ∧
        (s.acu.sections[k]).state.resettable ∧ !s.sectionLocked k then
      s.updSection k SectionRec.prepare
    else s

/-! ## Hosted portions -/

/-- A portion record is held for a request and may be granted again (R153, case 3). -/
def PortionRec.isFor (r : PortionRec) (n : Fin 4) (id : Byte) : Bool :=
  r.requester == some (n, id) && !r.orphan && !r.released

/-- A successful setting event completed for a requester (R153, case 4). -/
def State.hostPortion (s : State) (n : Fin 4) (p : Fin 16) (id : Byte) : State :=
  let s := s.updPortion p fun r => { r with requester := some (n, id), orphan := !s.alive n }
  s.provingTest p

/-- PORTION_REQUEST (R153). -/
def State.takePortionRequest (s : State) (n : Fin 4) (number id : Byte) : State :=
  let refuse := fun (why : Reason) => s.toNeighbour n (.portionRefuse number id why.code)
  if s.sld.station = .run then
    match configured s.config.portions number with
    | none => refuse .unknownElement
    | some (p, c) =>
      if c.requester ≠ n then refuse .wrongRequester
      else if (s.hou.portions[p]).state ≠ .idle then
        if (s.hou.portions[p]).isFor n id then s.toNeighbour n (.portionGrant number id)
        else refuse .notIdle
      else
        match s.setPortion p c with
        | .error why => refuse why
        | .ok t => (t.hostPortion n p id).toNeighbour n (.portionGrant number id)
  else s

/-- The release of a portion by its requester, or for want of one (R155, R158). -/
def State.endHosting (s : State) (p : Fin 16) : State :=
  match (s.hou.portions[p]).state with
  | .idle => s
  | .setting => s.releasePortion p
  | .proven => s.releasePortion p
  | .inUse => s.updPortion p fun r => { r with released := true, orphan := false }
  | .overlapHeld => s.updPortion p fun r => { r with released := true, orphan := false }

/-- PORTION_RELEASE (R155). -/
def State.takePortionRelease (s : State) (n : Fin 4) (number id : Byte) : State :=
  match indexOf? 16 number with
  | none => s
  | some p =>
    let r := s.hou.portions[p]
    if s.sld.station = .run ∧ r.requester = some (n, id) ∧ r.released = false then s.endHosting p
    else s

/-! ## Hosted flank grants -/

/-- The number of a local flank element; a remote one has none of this station (R119). -/
def localNumber : FlankElement → Option Byte
  | .point p _ => some (byteOf p.val)
  | .signal g => some (byteOf g.val)
  | .remotePoint _ _ => none
  | .remoteSignal _ => none

/-- The requestable entry that a request names by element code and number (R119, R128). -/
def requestedEntry (cfg : ZoneConfig) (code element : Byte) : Option (Fin 48) :=
  (indices 48).find? fun e => (cfg.flank[e]).any fun c =>
    c.requestable && flankCode c.element == code && localNumber c.element == some element

/-- The record in use for a requester and an offer id. -/
def State.grantOf (s : State) (n : Fin 4) (id : Byte) : Option (Fin 8 × Grant) :=
  (indices 8).findSome? fun k => (s.hou.grants[k]).bind fun g =>
    if g.requester = n ∧ g.offerId = id then some (k, g) else none

/-- The lowest-numbered free grant record (R128). -/
def State.freeGrant (s : State) : Option (Fin 8) :=
  (indices 8).find? fun k => (s.hou.grants[k]).isNone

/-- A grant made: its claim or hold counted, its move requested, its proven state set (R128,
case 5). -/
def State.makeGrant (s : State) (n : Fin 4) (id : Byte) (k : Fin 8) (e used : Fin 48) : State :=
  let items : List FlankItem := [⟨used, none⟩]
  let s := (s.claimFlank items).requestMoves (flankPoints s.config items)
  s.updGrant k fun _ => some ⟨n, id, e, used, s.entryProven used, !s.alive n⟩

/-- A grant freed, its claim or hold subtracted (R130). -/
def State.freeGrantRecord (s : State) (k : Fin 8) : State :=
  match s.hou.grants[k] with
  | none => s
  | some g => (s.releaseFlank [⟨g.used, none⟩]).updGrant k fun _ => none

/-- FLANK_REQUEST (R128). -/
def State.takeFlankRequest (s : State) (n : Fin 4) (id code element : Byte) : State :=
  let refuse := fun (why : Reason) => s.toNeighbour n (.flankRefuse id why.code)
  let entry := requestedEntry s.config code element
  if s.sld.station = .run then
    match s.grantOf n id with
    | some (_, g) =>
      if entry = some g.requested then s.toNeighbour n (.flankGrant id) else refuse .notIdle
    | none =>
      match entry with
      | none => refuse .unknownElement
      | some e =>
        match s.freeGrant with
        | none => refuse .noGrantSlot
        | some k =>
          match s.flankSearch [e] with
          | some (used :: _) => (s.makeGrant n id k e used).toNeighbour n (.flankGrant id)
          | _ => refuse .flankUnavailable
  else s

/-- FLANK_RELEASE (R130). -/
def State.takeFlankRelease (s : State) (n : Fin 4) (id : Byte) : State :=
  if s.sld.station = .run then
    match s.grantOf n id with
    | none => s
    | some (k, _) => s.freeGrantRecord k
  else s

/-! ## Answers and reply timers -/

/-- The record an answer matches; a portion answer names its target as well (R149). -/
def State.offerOf (s : State) (n : Fin 4) (kind : OfferKind) (id : Byte) (target : Option Byte) :
    Option (Fin 8 × Offer) :=
  (indices 8).findSome? fun k => (s.hou.offers[k]).bind fun o =>
    if o.neighbour = n ∧ o.kind = kind ∧ o.id = id ∧ target.all (· == o.target) then some (k, o)
    else none

/-- An offer record moved to GRANTED, its reply timer stopped (R149, R157). -/
def Offer.grant (o : Offer) : Offer := { o with state := .granted, reply := .stopped }

/-- A GRANT; `release` is the answer to one that matches no record (R149). -/
def State.takeGrant (s : State) (n : Fin 4) (kind : OfferKind) (id : Byte) (target : Option Byte)
    (release : Payload) : State :=
  if s.sld.station = .run then
    match s.offerOf n kind id target with
    | none => s.toNeighbour n release
    | some (k, o) =>
      if o.state = .sent then
        (s.updOffer k fun _ => some o.grant).completionTest o.route
      else s
  else s

/-- A REFUSE (R149). -/
def State.takeRefuse (s : State) (n : Fin 4) (kind : OfferKind) (id : Byte)
    (target : Option Byte) : State :=
  if s.sld.station = .run then
    match s.offerOf n kind id target with
    | none => s
    | some (k, o) => if o.state = .sent then (s.removeOffer k).failSetting o.route else s
  else s

/-- A record removed with a release, its route failing setting (R150, R156). -/
def State.dropSent (s : State) (k : Fin 8) : State :=
  match s.hou.offers[k] with
  | none => s
  | some o => (s.handBack k).failSetting o.route

/-- A record in SENT to a neighbour. -/
def Offer.sentTo (o : Offer) (n : Fin 4) : Bool := o.neighbour == n && o.state == .sent

/-- The records of a list that are SENT to a neighbour removed with a release (R150, R156), one
after the other in the order of the list (DESIGN CHOICE, log 44). -/
def State.dropSentIn (s : State) (n : Fin 4) (ks : List (Fin 8)) : State :=
  s.forEach ks fun s k => if (s.hou.offers[k]).any (·.sentTo n) then s.dropSent k else s

/-- Every SENT record to a neighbour removed with a release (R150, R156). -/
def State.dropAllSent (s : State) (n : Fin 4) : State := s.dropSentIn n (indices 8)

/-- The BLOCK policy's own part: flag, fault, and the other SENT records (R150). -/
def State.blockNeighbour (s : State) (n : Fin 4) : State :=
  ((s.updNeighbour n fun r => { r with blocked := true }).setFault .neighbourBlocked
    (byteOf n.val)).dropAllSent n

/-- The resend of a request (R150). -/
def State.resend (s : State) (k : Fin 8) (o : Offer) : State :=
  (s.updOffer k fun _ => some { o with
      resends := o.resends + 1, reply := .start (replyTime s.config o.neighbour) }).toNeighbour
    o.neighbour o.request

/-- What the reply policy does with an expired record (R150). -/
def State.applyPolicy (s : State) (k : Fin 8) (o : Offer) (policy : ReplyPolicy) : State :=
  match policy with
  | .wait => s.updOffer k fun _ => some { o with reply := .stopped }
  | .resend => if o.resends < 3 then s.resend k o else s.dropSent k
  | .drop => s.dropSent k
  | .block => (s.dropSent k).blockNeighbour o.neighbour

/-- REPLY_TIMER_EXPIRY (R150). -/
def State.replyExpiry (s : State) (k : Fin 8) : State :=
  match s.hou.offers[k] with
  | none => s
  | some o =>
    match s.config.neighbours[o.neighbour] with
    | none => s
    | some c => if o.state = .sent ∧ o.reply.due then s.applyPolicy k o c.policy else s

end Sys2Proof.Machine
end

