-- ==== Sys2Proof/Machine/Neighbours.lean ====
section
/-! DEFINITION. Neighbour records: STATUS (R145, R147) with its head reports (R32 to R37) and its
reconciliation (R157, R158), and the silence event (R38, R156). -/

namespace Sys2Proof.Machine

open Sys2Proof

/-! ## Head reports -/

/-- The report a STATUS of a neighbour carries for an entry of the remote head table (R32). -/
def reportFor (cfg : ZoneConfig) (n : Fin 4) (heads : List HeadEntry) (e : Fin 8) :
    Option HeadEntry :=
  (cfg.remoteHeads[e]).bind fun c =>
    if c.neighbour = n then heads.find? fun h => h.number.toNat == c.head.val else none

/-- The delta of a total against its baseline, modulo 65536 (R34). -/
def delta (now base : Word) : Nat := (now - base).toNat

/-- Deltas that sum to more than 250, measured against a valid baseline (R35). -/
def Baseline.implausible (b : Baseline) (h : HeadEntry) : Bool :=
  b.valid && 250 < delta h.forward b.forward + delta h.backward b.backward

/-- The net a report applies: dF − dB where the baseline was valid and the deltas are plausible,
nothing otherwise (R33, R35, R36). -/
def Baseline.net (b : Baseline) (h : HeadEntry) : Int :=
  if b.valid && !b.implausible h then
    (delta h.forward b.forward : Int) - delta h.backward b.backward
  else 0

/-- The contributions of a report event to a section, summed (R36). -/
def reportChange (cfg : ZoneConfig) (bs : Vector Baseline 8) (report : Fin 8 → Option HeadEntry)
    (k : Fin 32) : Int :=
  ((indices 8).map fun e =>
    match report e, orientationOf cfg k (.remoteHead e) with
    | some h, some plus => if plus then (bs[e]).net h else -(bs[e]).net h
    | _, _ => 0).sum

/-- Whether a report event disturbs a section: an implausible report or a sequence-fault flag
(R35, R37). -/
def reportDisturbs (cfg : ZoneConfig) (bs : Vector Baseline 8)
    (report : Fin 8 → Option HeadEntry) (k : Fin 32) : Bool :=
  (indices 8).any fun e =>
    bounds cfg k (.remoteHead e) &&
      (report e).any fun h => (bs[e]).implausible h || h.flag != 0

/-- A section record after a report event: the sum of the changes, then DISTURBED where a report
disturbs it, the latches comparing the end with the beginning (R36, R37). -/
def SectionRec.reported (d : Int) (disturbs : Bool) (r : SectionRec) : SectionRec :=
  let counted := r.shifted d
  r.latched (if disturbs then { counted with state := .disturbed } else counted)

/-- REMOTE_IMPLAUSIBLE set for the entries of a list (R35). -/
def State.setImplausible (s : State) (es : List (Fin 8)) : State :=
  s.forEach es fun s e => s.setFault .remoteImplausible (byteOf e.val)

/-- The report event of a STATUS (R32 to R37). -/
def State.reportEvent (s : State) (n : Fin 4) (heads : List HeadEntry) : State :=
  let report := reportFor s.config n heads
  let bs := s.acu.baselines
  let s1 := s.mapSections fun k =>
    SectionRec.reported (reportChange s.config bs report k) (reportDisturbs s.config bs report k)
  let s2 := s1.mapBaselines fun e b =>
    match report e with
    | none => b
    | some h => ⟨true, h.forward, h.backward⟩
  s2.setImplausible ((indices 8).filter fun e => (report e).any (bs[e]).implausible)

/-! ## Silence -/

/-- The silence event at the ACU (R38). -/
def State.acuSilence (s : State) (n : Fin 4) : State :=
  let s1 := s.mapSections fun k r => if namesRemoteOf s.config n k then r.disturb else r
  s1.mapBaselines fun e b =>
    if (s.config.remoteHeads[e]).any (·.neighbour == n) then { b with valid := false } else b

/-- A GRANTED record to a silent neighbour becomes UNCONFIRMED (R156). -/
def Offer.unconfirm (n : Fin 4) (o : Offer) : Offer :=
  if o.neighbour = n ∧ o.state = .granted then { o with state := .unconfirmed } else o

/-- Every GRANTED record to a neighbour becomes UNCONFIRMED (R156). -/
def State.unconfirmOffers (s : State) (n : Fin 4) : State :=
  { s with hou := { s.hou with
      offers := mapTab (fun _ o => o.map (Offer.unconfirm n)) s.hou.offers } }

/-- A hosted portion of a silent requester is orphaned, unless it has been released (R156). -/
def PortionRec.orphaned (n : Fin 4) (r : PortionRec) : PortionRec :=
  if r.state ≠ .idle ∧ r.requester.any (·.1 == n) ∧
  r.released = false then { r with orphan := true }
  else r

/-- A hosted flank grant of a silent requester is orphaned (R156). -/
def Grant.orphaned (n : Fin 4) (g : Grant) : Grant :=
  if g.requester = n then { g with orphan := true } else g

/-- The hosted records of a silent requester are orphaned (R156). -/
def State.orphanHosted (s : State) (n : Fin 4) : State :=
  (s.mapPortions fun _ => PortionRec.orphaned n).mapGrants fun _ g => g.map (Grant.orphaned n)

/-- The portions that a STATUS or a silence of a neighbour bears on (R154). -/
def State.portionsBounded (s : State) (n : Fin 4) : List (Fin 16) :=
  (indices 16).filter fun p =>
    let beyond := if (s.holdOf (.portion p)).overlap = .held then overlapOf s.config (.portion p)
      else []
    (pathOf s.config (.portion p) ++ beyond).any (namesRemoteOf s.config n)

/-- The silence event of a neighbour (R156). -/
def State.silenceEvent (s : State) (n : Fin 4) : State :=
  let s := s.updNeighbour n fun r => { r with state := .silent, silence := .stopped, view := none }
  let s := ((s.dropAllSent n).unconfirmOffers n).acuSilence n
  let s := (s.orphanHosted n).updWindow (.neighbour n) fun _ => []
  s.provingTests (s.portionsBounded n)

/-- SILENCE_TIMER_EXPIRY (R145). -/
def State.silenceExpiry (s : State) (n : Fin 4) : State :=
  if (s.hou.neighbours[n]).silence.due then s.silenceEvent n else s

/-! ## Reconciliation -/

/-- Whether the STATUS confirms an UNCONFIRMED record (R157). -/
def State.confirms (s : State) (c : StatusContent) (o : Offer) : Bool :=
  match o.kind with
  | .portion =>
    c.portions.any fun e =>
      e.number == o.target && s.isOwn e.requester && e.offerId == o.id && !bit7 e.info
  | .flank => c.grants.any fun e => s.isOwn e.requester && e.offerId == o.id

/-- What becomes of the route of a record removed at a resumption (R157). -/
def State.loseOffer (s : State) (r : Fin 64) : State :=
  match (s.lku.routes[r]).state with
  | .setting => s.fullRelease r
  | .locked => s.cancelLocked r
  | _ => s

/-- Records moved to GRANTED (R157). -/
def State.confirmOffers (s : State) (qs : List (Fin 8 × Offer)) : State :=
  s.forEach qs fun s q => s.updOffer q.1 fun _ => some q.2.grant

/-- Records removed without a telegram (R157). -/
def State.removeOffers (s : State) (qs : List (Fin 8 × Offer)) : State :=
  s.forEach qs fun s q => s.removeOffer q.1

/-- What becomes of the routes of removed records (R157). Where several LOCKED routes lose a record
to one STATUS and become APPROACH_HELD, R115 leaves open whose request for a pool timer is taken
first. The model takes them in the order of the lowest-numbered record that each loses, not in the
order of their own numbers (DESIGN CHOICE, log 44). -/
def State.loseOffers (s : State) (qs : List (Fin 8 × Offer)) : State :=
  s.forEach qs fun s q => s.loseOffer q.2.route

/-- The settling of the UNCONFIRMED records to a neighbour (R157): the confirmed become GRANTED and
the others are removed, then the routes of the removed ones go on, then those of the confirmed ones
are tested (log 32). -/
def State.reconcileOffers (s : State) (n : Fin 4) (c : StatusContent) : State :=
  let marked := (indices 8).filterMap fun k => (s.hou.offers[k]).bind fun o =>
    if o.neighbour = n ∧ o.state = .unconfirmed then some (k, o) else none
  let kept := marked.filter fun q => s.confirms c q.2
  let lost := marked.filter fun q => !s.confirms c q.2
  let s := ((s.confirmOffers kept).removeOffers lost).loseOffers lost
  s.completionTests (kept.map (·.2.route))

/-- Whether the held-offer list of a STATUS names a hosted portion (R158). -/
def State.holdsPortion (s : State) (c : StatusContent) (p : Fin 16) (id : Byte) : Bool :=
  c.offers.any fun e =>
    s.isOwn e.neighbour && e.offerId == id && e.kind == OfferKind.portion.code &&
      e.target == byteOf p.val

/-- Whether the held-offer list of a STATUS names a hosted flank grant (R158). -/
def State.holdsGrant (s : State) (c : StatusContent) (id : Byte) : Bool :=
  c.offers.any fun e => s.isOwn e.neighbour && e.offerId == id && e.kind == OfferKind.flank.code

/-- An orphaned portion settled against the STATUS (R158). -/
def State.settlePortion (s : State) (n : Fin 4) (c : StatusContent) (p : Fin 16) : State :=
  let r := s.hou.portions[p]
  match r.requester with
  | none => s
  | some (m, id) =>
    if r.orphan ∧ m = n then
      if s.holdsPortion c p id then s.updPortion p fun x => { x with orphan := false }
      else s.endHosting p
    else s

/-- An orphaned grant settled against the STATUS (R158). -/
def State.settleGrant (s : State) (n : Fin 4) (c : StatusContent) (k : Fin 8) : State :=
  match s.hou.grants[k] with
  | none => s
  | some g =>
    if g.orphan ∧ g.requester = n then
      if s.holdsGrant c g.offerId then s.updGrant k fun _ => some { g with orphan := false }
      else s.freeGrantRecord k
    else s

/-- The orphaned portions of a list settled (R158). -/
def State.settlePortions (s : State) (n : Fin 4) (c : StatusContent) (ps : List (Fin 16)) : State :=
  s.forEach ps fun s p => s.settlePortion n c p

/-- The orphaned grants of a list settled (R158). -/
def State.settleGrants (s : State) (n : Fin 4) (c : StatusContent) (ks : List (Fin 8)) : State :=
  s.forEach ks fun s k => s.settleGrant n c k

/-- The settling of the orphaned hosted records of a neighbour (R158). -/
def State.reconcileHosted (s : State) (n : Fin 4) (c : StatusContent) : State :=
  (s.settlePortions n c (indices 16)).settleGrants n c (indices 8)

/-! ## Stray entries -/

/-- No record of the own table for a neighbour has a kind and an id (R147, step 5). -/
def State.offersNo (s : State) (n : Fin 4) (kind : OfferKind) (id : Byte) : Bool :=
  (s.offerOf n kind id none).isNone

/-- Telegrams placed to a neighbour in order. -/
def State.toNeighbourAll (s : State) (n : Fin 4) (ps : List Payload) : State :=
  s.forEach ps fun s p => s.toNeighbour n p

/-- The releases that answer the stray entries of a STATUS (R147, step 5). -/
def State.answerStray (s : State) (n : Fin 4) (c : StatusContent) : State :=
  let portions := c.portions.filter fun e =>
    s.isOwn e.requester && !bit7 e.info && s.offersNo n .portion e.offerId
  let grants := c.grants.filter fun e => s.isOwn e.requester && s.offersNo n .flank e.offerId
  s.toNeighbourAll n
    (portions.map (fun e => Payload.portionRelease e.number e.offerId) ++
      grants.map (fun e => Payload.flankRelease e.offerId))

/-! ## STATUS -/

/-- A STATUS that does not carry HALT (R147). -/
def State.hearStatus (s : State) (n : Fin 4) (cfg : NeighbourCfg) (c : StatusContent) : State :=
  let again := s.alive n
  let s := s.updNeighbour n fun r =>
    { r with state := .alive, silence := .start cfg.silenceLimit, view := some c }
  let s := s.reportEvent n c.heads
  let s := if again then s else (s.reconcileOffers n c).reconcileHosted n c
  let s := if s.sld.station = .run then s.answerStray n c else s
  s.provingTests (s.portionsBounded n)

/-- STATUS (R145): one that carries HALT is a silence. -/
def State.takeStatus (s : State) (n : Fin 4) (c : StatusContent) : State :=
  match s.config.neighbours[n] with
  | none => s
  | some cfg =>
    if c.station = StationState.halt.code then s.silenceEvent n else s.hearStatus n cfg c

/-! ## Meanings -/

/-- SILENCE_TIMER_EXPIRY. -/
def execSilenceTimerExpiry (n : Fin 4) (s : State) : Host.Outcome State Fault Refusal :=
  .next (s.finish (s.silenceExpiry n))

/-- REPLY_TIMER_EXPIRY. -/
def execReplyTimerExpiry (k : Fin 8) (s : State) : Host.Outcome State Fault Refusal :=
  .next (s.finish (s.replyExpiry k))

end Sys2Proof.Machine
end

