-- ==== Sys2Proof/Machine/Commands.lean ====
section
/-! DEFINITION. The panel commands (chapter 11.1 and 11.2): arrival, taking from the head of the
queue, the checks and effect of each, and its COMMAND_RESULT. -/

namespace Sys2Proof.Machine

open Sys2Proof

/-! ## Results -/

/-- The COMMAND_RESULT of a command: DONE, or REFUSED with a reason (R161, R171). -/
def resultOf (seq code : Byte) (refusal : Option Reason) : Payload :=
  match refusal with
  | none => .commandResult seq code 0 0
  | some why => .commandResult seq code 1 why.code

/-- The COMMAND_RESULT placed for the issuing panel (R161). -/
def State.placeResult (s : State) (c : QueuedCommand) (refusal : Option Reason) : State :=
  s.toPanel c.panel (resultOf c.seq c.code refusal)

/-- The arrival of an accepted COMMAND (R160). -/
def State.arrive (s : State) (c : QueuedCommand) : State :=
  match s.sld.station with
  | .config => s
  | .quiet => s
  | .run =>
    if s.cmu.queue.length < 8 then { s with cmu := { s.cmu with queue := s.cmu.queue ++ [c] } }
    else s.placeResult c (some .busy)
  | .halt => s.placeResult c (some .halted)

/-- The head of the queue taken by a row, worked, and answered (R160, R161). `work` gives the state
after the command's own event and the reason where it is refused. -/
def State.runCommand (s : State) (isRow : Byte → Bool)
    (work : State → QueuedCommand → State × Option Reason) : State :=
  match s.takeCommand isRow with
  | none => s
  | some (c, t) => (work t c).1.placeResult c (work t c).2

/-- A verdict on a state that a refusal leaves unchanged. -/
def orElse (s : State) (v : Except Reason State) : State × Option Reason :=
  match v with
  | .ok t => (t, none)
  | .error why => (s, some why)

/-! ## Routes -/

/-- SET_ROUTE (R75). -/
def workSetRoute (s : State) (c : QueuedCommand) : State × Option Reason :=
  match configured s.config.routes c.arg1 with
  | none => (s, some .unknownElement)
  | some (r, cfg) => orElse s (s.setRoute r cfg)

/-- CANCEL_ROUTE (R111). -/
def workCancelRoute (s : State) (c : QueuedCommand) : State × Option Reason :=
  match configured s.config.routes c.arg1 with
  | none => (s, some .unknownElement)
  | some (r, _) =>
    match (s.lku.routes[r]).state with
    | .idle => (s, some .notSet)
    | .setting => (s.fullRelease r, none)
    | .locked => (s.cancelLocked r, none)
    | .inUse => (s, some .inUse)
    | .approachHeld => (s, some .alreadyReleasing)
    | .overlapHeld => (s, some .alreadyReleasing)

/-! ## Points -/

/-- The checks of MOVE_POINT in their order (R60). -/
def State.moveRefusal (s : State) (p : Fin 16) (c : PointCfg) (t : Position) : Option Reason :=
  let l := s.lku.points[p]
  let r := s.pcu.points[p]
  if l.holder.isSome ∨ l.claimsN ≠ 0 ∨ l.claimsR ≠ 0 then some .pointNotFree
  else if l.blocked then some .blocked
  else if !s.trackFree p then some .pointOccupied
  else if !c.individual then some .notPermitted
  else if r.restAt t then some .alreadyThere
  else if r.controller.target.isSome then some .busy
  else none

/-- MOVE_POINT (R60). -/
def workMovePoint (s : State) (c : QueuedCommand) : State × Option Reason :=
  match positionArg c.arg2 with
  | none => (s, some .unknownCommand)
  | some t =>
    match configured s.config.points c.arg1 with
    | none => (s, some .unknownElement)
    | some (p, cfg) =>
      match s.moveRefusal p cfg t with
      | some why => (s, some why)
      | none => (s.requestMove p t, none)

/-! ## Blocking -/

/-- The block flag of an element set or cleared, where its number names a configured element of its
kind (R161, R162). -/
def State.setBlock (s : State) (kind : ElementKind) (number : Byte) (on : Bool) : Option State :=
  match kind with
  | .sect => (configured s.config.sections number).map fun q =>
      s.updSectionLock q.1 fun l => { l with blocked := on }
  | .point => (configured s.config.points number).map fun q =>
      s.updPointLock q.1 fun l => { l with blocked := on }
  | .signal => (configured s.config.signals number).map fun q =>
      s.updSignalLock q.1 fun l => { l with blocked := on }

/-- BLOCK (R162). -/
def workBlock (s : State) (c : QueuedCommand) : State × Option Reason :=
  match elementKindArg c.arg1, onOffArg c.arg3 with
  | some kind, some on =>
    match s.setBlock kind c.arg2 on with
    | none => (s, some .unknownElement)
    | some t => (t, none)
  | _, _ => (s, some .unknownCommand)

/-! ## Section reset -/

/-- The reset conditions, checks 1 to 4, in their order (R44). -/
def State.resetRefusal (s : State) (k : Fin 32) (c : SectionCfg) : Option Reason :=
  if c.owner.isSome then some .notOwner
  else if !(s.acu.sections[k]).state.resettable then some .notResettable
  else if s.sectionLocked k then some .sectionLocked
  else
    match boundaryNeighbour s.config k with
    | none => none
    | some n => if s.alive n then none else some .neighbourSilent

/-- The address of a panel; 0 where it is not configured. -/
def panelAddress (cfg : ZoneConfig) (p : Fin 2) : Byte := ((cfg.panels[p]).map (·.address)).getD 0

/-- The pending reset record rewritten. -/
def State.setPendingReset (s : State) (r : Option PendingReset) : State :=
  { s with cmu := { s.cmu with pendingReset := r } }

/-- RESET_SECTION (R44). -/
def workResetSection (s : State) (c : QueuedCommand) : State × Option Reason :=
  match configured s.config.sections c.arg1 with
  | none => (s, some .unknownElement)
  | some (k, cfg) =>
    match s.resetRefusal k cfg with
    | some why => (s, some why)
    | none =>
      if s.cmu.pendingReset.isSome then (s, some .resetPending)
      else
        (s.setPendingReset (some ⟨k, panelAddress s.config c.panel, .start Config.windowTime⟩), none)

/-- The execution of a reset, with SECTION_RESET for a boundary section (R48, R49). -/
def State.executeReset (s : State) (k : Fin 32) (c : SectionCfg) : State :=
  let s := s.updSection k SectionRec.prepare
  match boundaryNeighbour s.config k, c.neighbourNumber with
  | some n, some number => s.toNeighbour n (.sectionReset (byteOf number.val))
  | _, _ => s

/-- CONFIRM_RESET (R46). -/
def workConfirmReset (s : State) (c : QueuedCommand) : State × Option Reason :=
  match configured s.config.sections c.arg1 with
  | none => (s, some .unknownElement)
  | some (k, cfg) =>
    match s.cmu.pendingReset with
    | none => (s, some .noPendingReset)
    | some r =>
      let t := s.setPendingReset none
      if r.panel ≠ panelAddress s.config c.panel then (s, some .noPendingReset)
      else if r.number ≠ k ∨ c.arg2 ≠ 255 - c.arg1 then (t, some .confirmMismatch)
      else
        match t.resetRefusal k cfg with
        | some why => (t, some why)
        | none => (t.executeReset k cfg, none)

/-- RESET_WINDOW_EXPIRY (R47). -/
def State.windowExpiry (s : State) : State :=
  if s.cmu.pendingReset.any (·.window.due) then s.setPendingReset none else s

/-! ## Clearing -/

/-- CLEAR_NEIGHBOUR_BLOCK (R163). -/
def workClearNeighbourBlock (s : State) (c : QueuedCommand) : State × Option Reason :=
  match configured s.config.neighbours c.arg1 with
  | none => (s, some .unknownElement)
  | some (n, _) =>
    ((s.updNeighbour n fun r => { r with blocked := false }).clearFault .neighbourBlocked
      (byteOf n.val), none)

/-- The removal of HEAD_SEQUENCE at the head record: its sequence-fault flag is cleared where the
decoder has already returned to IDLE (R22). -/
def HeadRec.faultRemoved (r : HeadRec) : HeadRec :=
  if r.phase = .faulted then r else { r with seqFault := false }

/-- What the removal of a latching condition does beside the fault set (R22, R163). -/
def State.faultRemoved (s : State) (kind : FaultKind) (element : Byte) : State :=
  match kind, indexOf? 24 element with
  | .headSequence, some h => s.updHead h HeadRec.faultRemoved
  | _, _ => s

/-- CLEAR_FAULT (R163). -/
def workClearFault (s : State) (c : QueuedCommand) : State × Option Reason :=
  match latchingKindOf c.arg1 with
  | none => (s, some .notLatched)
  | some kind =>
    if s.hasFault kind c.arg2 then ((s.clearFault kind c.arg2).faultRemoved kind c.arg2, none)
    else (s, some .notLatched)

/-- A command of unknown code (R161). -/
def workUnknownCommand (s : State) (_c : QueuedCommand) : State × Option Reason :=
  (s, some .unknownCommand)

/-- A command code the part knows (R161). -/
def knownCode (code : Byte) : Bool := 1 ≤ code.toNat && code.toNat ≤ 8

/-! ## Meanings -/

/-- SET_ROUTE. -/
def execSetRoute (s : State) : Host.Outcome State Fault Refusal :=
  .next (s.finish (s.runCommand (· == cmdSetRoute) workSetRoute))

/-- CANCEL_ROUTE. -/
def execCancelRoute (s : State) : Host.Outcome State Fault Refusal :=
  .next (s.finish (s.runCommand (· == cmdCancelRoute) workCancelRoute))

/-- MOVE_POINT. -/
def execMovePoint (s : State) : Host.Outcome State Fault Refusal :=
  .next (s.finish (s.runCommand (· == cmdMovePoint) workMovePoint))

/-- BLOCK. -/
def execBlock (s : State) : Host.Outcome State Fault Refusal :=
  .next (s.finish (s.runCommand (· == cmdBlock) workBlock))

/-- RESET_SECTION. -/
def execResetSection (s : State) : Host.Outcome State Fault Refusal :=
  .next (s.finish (s.runCommand (· == cmdResetSection) workResetSection))

/-- CONFIRM_RESET. -/
def execConfirmReset (s : State) : Host.Outcome State Fault Refusal :=
  .next (s.finish (s.runCommand (· == cmdConfirmReset) workConfirmReset))

/-- CLEAR_NEIGHBOUR_BLOCK. -/
def execClearNeighbourBlock (s : State) : Host.Outcome State Fault Refusal :=
  .next (s.finish (s.runCommand (· == cmdClearNeighbourBlock) workClearNeighbourBlock))

/-- CLEAR_FAULT. -/
def execClearFault (s : State) : Host.Outcome State Fault Refusal :=
  .next (s.finish (s.runCommand (· == cmdClearFault) workClearFault))

/-- UNKNOWN_COMMAND. -/
def execUnknownCommand (s : State) : Host.Outcome State Fault Refusal :=
  .next (s.finish (s.runCommand (fun code => !knownCode code) workUnknownCommand))

/-- RESET_WINDOW_EXPIRY. -/
def execResetWindowExpiry (s : State) : Host.Outcome State Fault Refusal :=
  .next (s.finish s.windowExpiry)

end Sys2Proof.Machine
end

