-- ==== Sys2Proof/Machine/Receive.lean ====
section
/-! DEFINITION. The telegram rows: what the receiver accepts is delivered to the block that takes
its kind (R140), in the event of its acceptance. -/

namespace Sys2Proof.Machine

open Sys2Proof

/-- The delivery of an accepted telegram with its source and sequence number (R140). -/
def deliver (seq : Byte) (src : Source) (p : Payload) (s : State) : State :=
  match src, p with
  | .neighbour n, .status c => s.takeStatus n c
  | .neighbour n, .portionRequest x i => s.takePortionRequest n x i
  | .neighbour n, .portionGrant x i => s.takeGrant n .portion i (some x) (.portionRelease x i)
  | .neighbour n, .portionRefuse x i _ => s.takeRefuse n .portion i (some x)
  | .neighbour n, .portionRelease x i => s.takePortionRelease n x i
  | .neighbour n, .flankRequest i code element => s.takeFlankRequest n i code element
  | .neighbour n, .flankGrant i => s.takeGrant n .flank i none (.flankRelease i)
  | .neighbour n, .flankRefuse i _ => s.takeRefuse n .flank i none
  | .neighbour n, .flankRelease i => s.takeFlankRelease n i
  | .neighbour n, .sectionReset x => s.takeSectionReset n x
  | .panel q, .command code a b c => s.arrive ⟨q, seq, code, a, b, c⟩
  | _, _ => s

/-- A collected telegram of a kind as one event: the receiver's checks, and the delivery of what
they accept. -/
def State.collect (s : State) (kind : Byte) (f : Frame) : State :=
  match receive kind f s with
  | .discarded t => s.finish t
  | .accepted t src p => s.finish (deliver f.seq src p t)

/-! ## Meanings -/

/-- COMMAND. -/
def execCommand (f : Frame) (s : State) : Host.Outcome State Fault Refusal :=
  .next (s.collect kindCommand f)

/-- STATUS. -/
def execStatus (f : Frame) (s : State) : Host.Outcome State Fault Refusal :=
  .next (s.collect kindStatus f)

/-- PORTION_REQUEST. -/
def execPortionRequest (f : Frame) (s : State) : Host.Outcome State Fault Refusal :=
  .next (s.collect kindPortionRequest f)

/-- PORTION_GRANT. -/
def execPortionGrant (f : Frame) (s : State) : Host.Outcome State Fault Refusal :=
  .next (s.collect kindPortionGrant f)

/-- PORTION_REFUSE. -/
def execPortionRefuse (f : Frame) (s : State) : Host.Outcome State Fault Refusal :=
  .next (s.collect kindPortionRefuse f)

/-- PORTION_RELEASE. -/
def execPortionRelease (f : Frame) (s : State) : Host.Outcome State Fault Refusal :=
  .next (s.collect kindPortionRelease f)

/-- FLANK_REQUEST. -/
def execFlankRequest (f : Frame) (s : State) : Host.Outcome State Fault Refusal :=
  .next (s.collect kindFlankRequest f)

/-- FLANK_GRANT. -/
def execFlankGrant (f : Frame) (s : State) : Host.Outcome State Fault Refusal :=
  .next (s.collect kindFlankGrant f)

/-- FLANK_REFUSE. -/
def execFlankRefuse (f : Frame) (s : State) : Host.Outcome State Fault Refusal :=
  .next (s.collect kindFlankRefuse f)

/-- FLANK_RELEASE. -/
def execFlankRelease (f : Frame) (s : State) : Host.Outcome State Fault Refusal :=
  .next (s.collect kindFlankRelease f)

/-- SECTION_RESET. -/
def execSectionReset (f : Frame) (s : State) : Host.Outcome State Fault Refusal :=
  .next (s.collect kindSectionReset f)

/-- DISCARDED_TELEGRAM: the receiver's checks decide what is recorded; a telegram that they accept
after all is delivered (log 19). -/
def execDiscardedTelegram (kind : Byte) (f : Frame) (s : State) :
    Host.Outcome State Fault Refusal :=
  .next (s.collect kind f)

end Sys2Proof.Machine
end

