-- ==== Sys2Proof/Machine/Field.lean ====
section
/-! DEFINITION. The events of the field: heads (2.1), points (4.2 to 4.4), lamps (6.3), the flash
boundary (R97), and the expiries of the timers of these blocks. -/

namespace Sys2Proof.Machine

open Sys2Proof

/-! ## Heads -/

/-- A counted passage (R18, R19). -/
inductive Passage where
  | forward
  | backward
deriving DecidableEq, Repr

/-- What an observation is to a decoder outside FAULTED. -/
inductive Decoded where
  /-- The pair of the phase: no observation (R7, log 1). -/
  | unchanged
  | moved (phase : Phase) (passage : Option Passage)
  | sequenceError
deriving DecidableEq, Repr

/-- The passage table, with the sequence errors of R20: an observation that differs from the phase's
pair in one member is listed, one that differs in both is an error (R18, R20). -/
def Phase.decode (p : Phase) (a b : Bool) : Decoded :=
  match p, a, b with
  | .idle, false, false => .unchanged
  | .idle, true, false => .moved .aFirst none
  | .idle, false, true => .moved .bFirst none
  | .idle, true, true => .sequenceError
  | .aFirst, true, false => .unchanged
  | .aFirst, true, true => .moved .aBoth none
  | .aFirst, false, false => .moved .idle none
  | .aFirst, false, true => .sequenceError
  | .aBoth, true, true => .unchanged
  | .aBoth, false, true => .moved .aLeaving none
  | .aBoth, true, false => .moved .aFirst none
  | .aBoth, false, false => .sequenceError
  | .aLeaving, false, true => .unchanged
  | .aLeaving, false, false => .moved .idle (some .forward)
  | .aLeaving, true, true => .moved .aBoth none
  | .aLeaving, true, false => .sequenceError
  | .bFirst, false, true => .unchanged
  | .bFirst, true, true => .moved .bBoth none
  | .bFirst, false, false => .moved .idle none
  | .bFirst, true, false => .sequenceError
  | .bBoth, true, true => .unchanged
  | .bBoth, true, false => .moved .bLeaving none
  | .bBoth, false, true => .moved .bFirst none
  | .bBoth, false, false => .sequenceError
  | .bLeaving, true, false => .unchanged
  | .bLeaving, false, false => .moved .idle (some .backward)
  | .bLeaving, true, true => .moved .bBoth none
  | .bLeaving, false, true => .sequenceError
  | .faulted, _, _ => .unchanged

/-- A head record with a passage counted; the totals wrap (R19). -/
def HeadRec.count (p : Passage) (r : HeadRec) : HeadRec :=
  match p with
  | .forward => { r with forward := r.forward + 1 }
  | .backward => { r with backward := r.backward + 1 }

/-- The step a passage gives a section that names the head with an orientation (R26). -/
def stepOf (plus : Bool) (p : Passage) : Int :=
  match p with
  | .forward => if plus then 1 else -1
  | .backward => if plus then -1 else 1

/-- A counted passage at a head (R19, R26, R27). -/
def State.countPassage (s : State) (h : Fin 24) (p : Passage) : State :=
  (s.updHead h (HeadRec.count p)).mapSections fun k r =>
    match orientationOf s.config k (.localHead h) with
    | none => r
    | some plus => r.change (stepOf plus p)

/-- The rest timer of a decoder in FAULTED after an observation (R21). -/
def restAfter (a b : Bool) : Timer := if a || b then .stopped else .start Config.restTime

/-- A head record at a sequence error: at (0, 0) the rest timer starts at once (R20). -/
def HeadRec.fail (a b : Bool) (r : HeadRec) : HeadRec :=
  { r with
    phase := .faulted
    seqFault := true
    rest := if a || b then r.rest else .start Config.restTime }

/-- A sequence error at a head (R20). -/
def State.sequenceError (s : State) (h : Fin 24) (a b : Bool) : State :=
  let s1 := s.updHead h (HeadRec.fail a b)
  (s1.setFault .headSequence (byteOf h.val)).mapSections fun k r =>
    if bounds s.config k (.localHead h) then r.disturb else r

/-- An observation at the decoder of a head (R18 to R21). -/
def State.decodeHead (s : State) (h : Fin 24) (a b : Bool) : State :=
  let phase := (s.acu.heads[h]).phase
  if phase = .faulted then s.updHead h fun r => { r with rest := restAfter a b }
  else
    match phase.decode a b with
    | .unchanged => s
    | .sequenceError => s.sequenceError h a b
    | .moved next passage =>
      let s := s.updHead h fun r => { r with phase := next }
      match passage with
      | none => s
      | some p => s.countPassage h p

/-- HEAD_OBSERVATION: nothing reaches the decoder of a head that is not configured (R23). -/
def State.headObservation (s : State) (h : Fin 24) (a b : Bool) : State :=
  if (s.config.heads[h]).isSome then (s.observeHead h a b).decodeHead h a b else s

/-- REST_TIMER_EXPIRY (R21, R22). -/
def State.restExpiry (s : State) (h : Fin 24) : State :=
  let c := s.acu.heads[h]
  if c.phase = .faulted ∧ c.rest.due then
    s.updHead h fun r =>
      { r with
        phase := .idle
        rest := .stopped
        seqFault := if s.hasFault .headSequence (byteOf h.val) then r.seqFault else false }
  else s

/-! ## Points -/

/-- DETECTION_OBSERVATION (R56). -/
def State.detectionObservation (s : State) (p : Fin 16) (n r : Bool) : State :=
  if (s.config.points[p]).isSome then (s.observePoint p n r).detect p (Detected.of n r) else s

/-- SETTLE_TIMER_EXPIRY (R62). -/
def State.settleExpiry (s : State) (p : Fin 16) : State :=
  let c := s.pcu.points[p]
  if c.settle.due ∧ c.controller.target.isSome then
    s.updPoint p (PointRec.complete (moveLimit s.config p))
  else s

/-- MOVE_TIMER_EXPIRY (R63). -/
def State.moveExpiry (s : State) (p : Fin 16) : State :=
  let c := s.pcu.points[p]
  if c.move.due ∧ c.controller.target.isSome then
    (s.updPoint p PointRec.fail).setFault .pointTimeout (byteOf p.val)
  else s

/-! ## Lamps -/

/-- FAILURE_TIMER_EXPIRY (R99). -/
def State.failureExpiry (s : State) (g : Fin 16) (l : Lamp) : State :=
  if (s.lampRec g l).failureTimer.due then s.putFailed g l true else s

/-- STRAY_TIMER_EXPIRY (R101). -/
def State.strayExpiry (s : State) (g : Fin 16) (l : Lamp) : State :=
  if (s.lampRec g l).strayTimer.due then s.putStray g l true else s

/-- STRAY_CLEAR_TIMER_EXPIRY (R102). -/
def State.strayClearExpiry (s : State) (g : Fin 16) (l : Lamp) : State :=
  if (s.lampRec g l).strayClearTimer.due then s.putStray g l false else s

/-- FLASH_BOUNDARY: the half changes, and every signal presents its commanded aspect, which it then
shows (R12, R97). -/
def State.flashBoundary (s : State) : State :=
  let commanded := Vector.ofFn s.commanded
  { s with fsu := { s.fsu with onHalf := !s.fsu.onHalf } }.mapSignals fun g r =>
    { r with presented := commanded[g], kept := commanded[g] }

/-! ## Meanings -/

/-- HEAD_OBSERVATION. -/
def execHeadObservation (h : Fin 24) (a b : Bool) (s : State) : Host.Outcome State Fault Refusal :=
  .next (s.finish (s.headObservation h a b))

/-- REST_TIMER_EXPIRY. -/
def execRestTimerExpiry (h : Fin 24) (s : State) : Host.Outcome State Fault Refusal :=
  .next (s.finish (s.restExpiry h))

/-- DETECTION_OBSERVATION. -/
def execDetectionObservation (p : Fin 16) (n r : Bool) (s : State) :
    Host.Outcome State Fault Refusal :=
  .next (s.finish (s.detectionObservation p n r))

/-- PROVING_EDGE: the filtered value changes, and the timers and flags follow (R9, R99 to R102). -/
def execProvingEdge (g : Fin 16) (l : Lamp) (lit : Bool) (s : State) :
    Host.Outcome State Fault Refusal :=
  .next (s.finish (s.observeProving g l lit))

/-- FLASH_BOUNDARY. -/
def execFlashBoundary (s : State) : Host.Outcome State Fault Refusal :=
  .next (s.finish s.flashBoundary)

/-- FAILURE_TIMER_EXPIRY. -/
def execFailureTimerExpiry (g : Fin 16) (l : Lamp) (s : State) : Host.Outcome State Fault Refusal :=
  .next (s.finish (s.failureExpiry g l))

/-- STRAY_TIMER_EXPIRY. -/
def execStrayTimerExpiry (g : Fin 16) (l : Lamp) (s : State) : Host.Outcome State Fault Refusal :=
  .next (s.finish (s.strayExpiry g l))

/-- STRAY_CLEAR_TIMER_EXPIRY. -/
def execStrayClearTimerExpiry (g : Fin 16) (l : Lamp) (s : State) :
    Host.Outcome State Fault Refusal :=
  .next (s.finish (s.strayClearExpiry g l))

/-- SETTLE_TIMER_EXPIRY. -/
def execSettleTimerExpiry (p : Fin 16) (s : State) : Host.Outcome State Fault Refusal :=
  .next (s.finish (s.settleExpiry p))

/-- MOVE_TIMER_EXPIRY. -/
def execMoveTimerExpiry (p : Fin 16) (s : State) : Host.Outcome State Fault Refusal :=
  .next (s.finish (s.moveExpiry p))

end Sys2Proof.Machine
end

