-- ==== Sys2Proof/Machine/Receiver.lean ====
section
/-! DEFINITION. The receiver of a line (R131): the idle that begins a telegram, the bytes collected
after it, the idle that ends them, and the row that takes what was collected. -/

namespace Sys2Proof.Machine

open Sys2Proof

/-- The idle, in bit times, that ends what a receiver is collecting and lets the next byte begin a
telegram (R131). -/
def frameGap : Nat := 24

/-- The bytes of a telegram being collected with one more byte. One byte beyond the length field is
kept, so that a telegram that runs on without idle is longer than its length field says and fails
check 1; what follows it is not kept (R131, R138). -/
def collected (bs : List Byte) (b : Byte) : List Byte :=
  if bs.length ≤ (bs.headD 0).toNat then bs ++ [b] else bs

/-- A receiver after a whole byte: it joins the telegram being collected, begins one after an idle
of 24 bit times, and is passed over otherwise (R131). -/
def Receiver.byte (b : Byte) (r : Receiver) : Receiver :=
  match r.bytes with
  | some bs => ⟨0, some (collected bs b)⟩
  | none => if frameGap ≤ r.idle then ⟨0, some [b]⟩ else ⟨0, none⟩

/-- A receiver after some idle bit times, and the bytes of the telegram that they end (R131). A
telegram whose length has been reached is taken when the idle after it shows that no further byte
follows (DEDUCED, log 35). -/
def Receiver.wait (bits : Nat) (r : Receiver) : Receiver × Option (List Byte) :=
  let idle := min frameGap (r.idle + bits)
  if idle = frameGap then (⟨idle, none⟩, r.bytes) else (⟨idle, r.bytes⟩, none)

/-- A receiver after one symbol of its line, and the telegram that it ends. -/
def Receiver.take (r : Receiver) : LineSymbol → Receiver × Option (List Byte)
  | .byte b => (r.byte b, none)
  | .idle bits => r.wait bits

/-- A receiver after the symbols of a line, and the telegrams that they end, in order (R131). -/
def Receiver.run (r : Receiver) : List LineSymbol → Receiver × List (List Byte)
  | [] => (r, [])
  | x :: xs =>
    let q := r.take x
    let rest := q.1.run xs
    (rest.1, q.2.toList ++ rest.2)

/-- The row that takes a collected telegram of a kind (R133). A kind the part takes from no source
is discarded. -/
def rowOfTelegram (kind : Byte) (f : Frame) : Instr :=
  match kind.toNat with
  | 1 => .status f
  | 3 => .portionRequest f
  | 4 => .portionGrant f
  | 5 => .portionRefuse f
  | 6 => .portionRelease f
  | 7 => .flankRequest f
  | 8 => .flankGrant f
  | 9 => .flankRefuse f
  | 10 => .flankRelease f
  | 11 => .sectionReset f
  | 12 => .command f
  | _ => .discardedTelegram kind f

/-- What a line has carried since the last sensor sampling instant. -/
def State.heard (s : State) : Line → List LineSymbol
  | .a => s.pins.lineA
  | .b => s.pins.lineB

/-- The telegrams that end on a line in an interval, as the rows that take them. Fewer bytes than
the 9 of the shortest telegram hold no frame: check 1 discards them, and they bring no row about
(R131, R138). -/
def State.lineEvents (s : State) (l : Line) : List Instr :=
  ((s.line l).receiver.run (s.heard l)).2.filterMap fun bytes =>
    (frameOf l bytes).map fun q => rowOfTelegram q.1 q.2

/-- The receivers of both lines having taken what their lines carried. -/
def State.receiveLines (s : State) : State :=
  let a := (s.line .a).receiver.run (s.heard .a)
  let b := (s.line .b).receiver.run (s.heard .b)
  { s with
    pins := { s.pins with lineA := [], lineB := [] }
    slu := { s.slu with
      lineA := { s.slu.lineA with receiver := a.1 }
      lineB := { s.slu.lineB with receiver := b.1 } } }

end Sys2Proof.Machine
end

