-- ==== Sys2Proof/Machine/Image.lean ====
section
/-! DEFINITION. The configuration image: its layout (R172), the checks in the order of R170, and
the tables an accepted image puts into effect. The records are first read as plain numbers, the
checks judge those numbers, and only an image that passes them all is turned into `ZoneConfig`.
Two-byte numbers of the image are read most significant byte first (log 8). -/

namespace Sys2Proof.Machine

open Sys2Proof

/-! ## The raw image -/

/-- An element reference list of a route or portion as stored: its count and its slots. -/
structure RawList where
  count : Nat
  slots : List Nat
deriving DecidableEq, Repr

/-- The slots that are read: those within the count (R172). -/
def RawList.items (l : RawList) : List Nat := l.slots.take l.count

/-- A list of point and position pairs as stored. -/
structure RawPairs where
  count : Nat
  slots : List (Nat × Nat)
deriving DecidableEq, Repr

/-- The pairs that are read. -/
def RawPairs.items (l : RawPairs) : List (Nat × Nat) := l.slots.take l.count

structure RawInput where
  cls : Nat
  number : Nat
  role : Nat
  element : Nat
  inverted : Bool
  length : Nat
deriving DecidableEq, Repr

structure RawOutput where
  cls : Nat
  number : Nat
  role : Nat
  element : Nat
  code : Nat
  safe : Nat
deriving DecidableEq, Repr

/-- Heads and signals: the number, and reported or not. -/
structure RawMarked where
  number : Nat
  reported : Nat
deriving DecidableEq, Repr

/-- A bounding entry: remote mark, index, orientation byte. -/
structure RawBound where
  remote : Bool
  index : Nat
  orientation : Nat
deriving DecidableEq, Repr

structure RawSection where
  number : Nat
  owner : Nat
  neighbourNumber : Nat
  count : Nat
  slots : List RawBound
deriving DecidableEq, Repr

/-- The bounding entries that are read. -/
def RawSection.bounds (r : RawSection) : List RawBound := r.slots.take r.count

structure RawRemoteHead where
  entry : Nat
  neighbour : Nat
  head : Nat
deriving DecidableEq, Repr

structure RawBoundary where
  entry : Nat
  neighbour : Nat
  kind : Nat
  number : Nat
deriving DecidableEq, Repr

structure RawPoint where
  number : Nat
  track : Nat
  individual : Nat
  moveLimit : Nat
deriving DecidableEq, Repr

structure RawRoute where
  number : Nat
  cls : Nat
  entry : Nat
  exitKind : Nat
  exitNumber : Nat
  path : RawList
  points : RawPairs
  overlap : RawList
  overlapPoints : RawPairs
  approach : RawList
  flank : RawList
  neighbour : Nat
  portion : Nat
  settingLimit : Nat
  approachTime : Nat
  overlapTime : Nat
deriving DecidableEq, Repr

structure RawFlank where
  entry : Nat
  code : Nat
  viaMap : Bool
  number : Nat
  substitute : Nat
  requestable : Nat
deriving DecidableEq, Repr

structure RawPortion where
  number : Nat
  neighbour : Nat
  path : RawList
  points : RawPairs
  overlap : RawList
  overlapPoints : RawPairs
  flank : RawList
  exit : Nat
deriving DecidableEq, Repr

structure RawNeighbour where
  index : Nat
  address : Nat
  code : Nat
  replyTime : Nat
  silenceLimit : Nat
  policy : Nat
deriving DecidableEq, Repr

structure RawPanel where
  address : Nat
  code : Nat
deriving DecidableEq, Repr

/-- The image as numbers: the header, the thirteen record counts and the records. -/
structure RawImage where
  ownAddress : Nat
  statusPeriod : Nat
  displayPeriod : Nat
  counts : List Nat
  inputs : List RawInput
  outputs : List RawOutput
  heads : List RawMarked
  sections : List RawSection
  remoteHeads : List RawRemoteHead
  boundary : List RawBoundary
  points : List RawPoint
  signals : List RawMarked
  routes : List RawRoute
  flank : List RawFlank
  portions : List RawPortion
  neighbours : List RawNeighbour
  panels : List RawPanel
deriving DecidableEq, Repr

/-! ## Reading the layout -/

/-- The byte at an offset of a record or of the image, as a number. -/
def byteAt (bs : List Byte) (i : Nat) : Nat := (bs.getD i 0).toNat

/-- The two-byte number at an offset, most significant byte first (log 8). -/
def wordAt (bs : List Byte) (i : Nat) : Nat := byteAt bs i * 256 + byteAt bs (i + 1)

/-- The slots of a list at an offset: `n` bytes. -/
def slotsAt (bs : List Byte) (i n : Nat) : List Nat := (List.range n).map fun k => byteAt bs (i + k)

/-- A count byte and `n` slots. -/
def listAt (bs : List Byte) (i n : Nat) : RawList := ⟨byteAt bs i, slotsAt bs (i + 1) n⟩

/-- A count byte and `n` pairs. -/
def pairsAt (bs : List Byte) (i n : Nat) : RawPairs :=
  ⟨byteAt bs i, (List.range n).map fun k => (byteAt bs (i + 1 + 2 * k), byteAt bs (i + 2 + 2 * k))⟩

def rawInput (r : List Byte) : RawInput :=
  ⟨byteAt r 0, byteAt r 1, byteAt r 2, byteAt r 3, 128 ≤ byteAt r 4, byteAt r 4 % 32⟩

def rawOutput (r : List Byte) : RawOutput :=
  ⟨byteAt r 0, byteAt r 1, byteAt r 2, byteAt r 3, byteAt r 4, byteAt r 5⟩

def rawMarked (r : List Byte) : RawMarked := ⟨byteAt r 0, byteAt r 1⟩

def rawSection (r : List Byte) : RawSection :=
  ⟨byteAt r 0, byteAt r 1, byteAt r 2, byteAt r 3,
    (List.range 4).map fun k =>
      ⟨128 ≤ byteAt r (4 + 2 * k), byteAt r (4 + 2 * k) % 32, byteAt r (5 + 2 * k)⟩⟩

def rawRemoteHead (r : List Byte) : RawRemoteHead := ⟨byteAt r 0, byteAt r 1, byteAt r 2⟩

def rawBoundary (r : List Byte) : RawBoundary := ⟨byteAt r 0, byteAt r 1, byteAt r 2, byteAt r 3⟩

def rawPoint (r : List Byte) : RawPoint := ⟨byteAt r 0, byteAt r 1, byteAt r 2, byteAt r 3⟩

def rawRoute (r : List Byte) : RawRoute where
  number := byteAt r 0
  cls := byteAt r 1
  entry := byteAt r 2
  exitKind := byteAt r 3
  exitNumber := byteAt r 4
  path := listAt r 5 8
  points := pairsAt r 14 8
  overlap := listAt r 31 2
  overlapPoints := pairsAt r 34 2
  approach := listAt r 39 3
  flank := listAt r 43 6
  neighbour := byteAt r 50
  portion := byteAt r 51
  settingLimit := byteAt r 52
  approachTime := byteAt r 53
  overlapTime := byteAt r 54

def rawFlank (r : List Byte) : RawFlank :=
  ⟨byteAt r 0, byteAt r 1 % 128, 128 ≤ byteAt r 1, byteAt r 2, byteAt r 3, byteAt r 4⟩

def rawPortion (r : List Byte) : RawPortion where
  number := byteAt r 0
  neighbour := byteAt r 1
  path := listAt r 2 6
  points := pairsAt r 9 8
  overlap := listAt r 26 2
  overlapPoints := pairsAt r 29 2
  flank := listAt r 34 6
  exit := byteAt r 41

def rawNeighbour (r : List Byte) : RawNeighbour :=
  ⟨byteAt r 0, byteAt r 1, wordAt r 2, byteAt r 4, byteAt r 5, byteAt r 6⟩

def rawPanel (r : List Byte) : RawPanel := ⟨byteAt r 0, wordAt r 1⟩

/-- Capacity and record size of the thirteen tables, in directory order (R172). -/
def tableShapes : List (Nat × Nat) :=
  [(128, 5), (80, 6), (24, 2), (32, 12), (8, 3), (32, 4), (16, 4), (16, 2), (64, 55), (48, 6),
    (16, 42), (4, 7), (2, 3)]

/-- Offset and record count of table `t` in the directory. -/
def directoryAt (bs : List Byte) (t : Nat) : Nat × Nat :=
  (wordAt bs (11 + 3 * t), byteAt bs (13 + 3 * t))

/-- The records of table `t`. -/
def recordsOf (bs : List Byte) (t : Nat) : List (List Byte) :=
  let (off, count) := directoryAt bs t
  let size := (tableShapes.getD t (0, 0)).2
  (List.range count).map fun k => (bs.drop (off + k * size)).take size

/-- The image as numbers. -/
def rawImage (bs : List Byte) : RawImage where
  ownAddress := byteAt bs 6
  statusPeriod := wordAt bs 7
  displayPeriod := wordAt bs 9
  counts := (List.range 13).map fun t => (directoryAt bs t).2
  inputs := (recordsOf bs 0).map rawInput
  outputs := (recordsOf bs 1).map rawOutput
  heads := (recordsOf bs 2).map rawMarked
  sections := (recordsOf bs 3).map rawSection
  remoteHeads := (recordsOf bs 4).map rawRemoteHead
  boundary := (recordsOf bs 5).map rawBoundary
  points := (recordsOf bs 6).map rawPoint
  signals := (recordsOf bs 7).map rawMarked
  routes := (recordsOf bs 8).map rawRoute
  flank := (recordsOf bs 9).map rawFlank
  portions := (recordsOf bs 10).map rawPortion
  neighbours := (recordsOf bs 11).map rawNeighbour
  panels := (recordsOf bs 12).map rawPanel

/-- The image length its header gives. -/
def imageLength (bs : List Byte) : Nat := wordAt bs 4

/-- The own address the header gives, where the 7 leading bytes were read and the address is 1 to
30 (R172). -/
def headerAddress (delivered : List Byte) : Option Byte :=
  if 7 ≤ delivered.length ∧ 1 ≤ byteAt delivered 6 ∧ byteAt delivered 6 ≤ 30 then
    some (delivered.getD 6 0)
  else none

/-! ## The checks of R170. Each says whether the image passes. -/

/-- Check 1: the header and the whole length it gives were delivered (R166, R172). -/
def checkRead (delivered : List Byte) : Bool :=
  7 ≤ delivered.length && imageLength delivered ≤ delivered.length

/-- Check 2: magic "B416", the length from the header size 50 to 8192, and no table running into the
CRC or beyond (R170, R172). -/
def checkHeader (bs : List Byte) : Bool :=
  bs.take 4 == [0x42, 0x34, 0x31, 0x36] && 50 ≤ imageLength bs && imageLength bs ≤ 8192 &&
    (List.range 13).all fun t =>
      let (off, count) := directoryAt bs t
      count == 0 || off + count * (tableShapes.getD t (0, 0)).2 + 4 ≤ imageLength bs

/-- Check 3: the last 4 bytes are the CRC-32 of those before, least significant byte first. -/
def checkCrc (bs : List Byte) : Bool :=
  let n := bs.length - 4
  let c := crc32 (bs.take n)
  bs.drop n == [c.extractLsb' 0 8, c.extractLsb' 8 8, c.extractLsb' 16 8, c.extractLsb' 24 8]

/-- A section bounded by at least one remote head. -/
def RawSection.isBoundary (r : RawSection) : Bool := r.bounds.any (·.remote)

/-- Check 4: no count above its capacity, at least one panel. -/
def checkCount (i : RawImage) : Bool :=
  (List.range 13).all (fun t => i.counts.getD t 0 ≤ (tableShapes.getD t (0, 0)).1) &&
    1 ≤ i.panels.length &&
    (i.heads.filter (·.reported = 1)).length ≤ 8 &&
    (i.signals.filter (·.reported = 1)).length ≤ 8 &&
    (i.sections.filter (·.isBoundary)).length ≤ 8

def RawImage.hasHead (i : RawImage) (n : Nat) : Bool := i.heads.any (·.number == n)
def RawImage.hasSection (i : RawImage) (n : Nat) : Bool := i.sections.any (·.number == n)
def RawImage.hasRemoteHead (i : RawImage) (n : Nat) : Bool := i.remoteHeads.any (·.entry == n)
def RawImage.hasBoundary (i : RawImage) (n : Nat) : Bool := i.boundary.any (·.entry == n)
def RawImage.hasPoint (i : RawImage) (n : Nat) : Bool := i.points.any (·.number == n)
def RawImage.hasSignal (i : RawImage) (n : Nat) : Bool := i.signals.any (·.number == n)
def RawImage.hasFlank (i : RawImage) (n : Nat) : Bool := i.flank.any (·.entry == n)
def RawImage.hasNeighbour (i : RawImage) (n : Nat) : Bool := i.neighbours.any (·.index == n)

/-- The neighbours whose remote heads bound a section. -/
def RawImage.boundNeighbours (i : RawImage) (r : RawSection) : List Nat :=
  (r.bounds.filter (·.remote)).filterMap fun b =>
    (i.remoteHeads.find? (·.entry == b.index)).map (·.neighbour)

/-- Whether section `n` is a boundary section of neighbour `nb` alone. -/
def RawImage.isBoundaryOf (i : RawImage) (n nb : Nat) : Bool :=
  match i.sections.find? (·.number == n) with
  | none => false
  | some r => r.isBoundary && (i.boundNeighbours r).all (· == nb)

/-- The role of an input names a configured element of its kind. -/
def RawImage.inputRoleOk (i : RawImage) (r : RawInput) : Bool :=
  match r.role with
  | 0 => true
  | 1 | 2 => i.hasHead r.element
  | 3 | 4 => i.hasPoint r.element
  | _ => i.hasSignal r.element

/-- The role of an output names a configured element of its kind. -/
def RawImage.outputRoleOk (i : RawImage) (r : RawOutput) : Bool :=
  match r.role with
  | 0 => true
  | 1 | 2 | 3 => i.hasSignal r.element
  | _ => i.hasPoint r.element

/-- Number fields of the tables: in range, and no two records with one number. -/
def checkNumbers (i : RawImage) : Bool :=
  noRepeats (i.inputs.map fun r => (r.cls, r.number)) &&
  noRepeats (i.outputs.map fun r => (r.cls, r.number)) &&
  noRepeats (i.heads.map (·.number)) && i.heads.all (·.number < 24) &&
  noRepeats (i.sections.map (·.number)) && i.sections.all (·.number < 32) &&
  noRepeats (i.remoteHeads.map (·.entry)) && i.remoteHeads.all (·.entry < 8) &&
  noRepeats (i.boundary.map (·.entry)) && i.boundary.all (·.entry < 32) &&
  noRepeats (i.points.map (·.number)) && i.points.all (·.number < 16) &&
  noRepeats (i.signals.map (·.number)) && i.signals.all (·.number < 16) &&
  noRepeats (i.routes.map (·.number)) && i.routes.all (·.number < 64) &&
  noRepeats (i.flank.map (·.entry)) && i.flank.all (·.entry < 48) &&
  noRepeats (i.portions.map (·.number)) && i.portions.all (·.number < 16) &&
  noRepeats (i.neighbours.map (·.index)) && i.neighbours.all (·.index < 4)

/-- Inputs and outputs: every field within its stated values, every role naming a configured
element (log 10). -/
def checkIoFields (i : RawImage) : Bool :=
  i.inputs.all (fun r =>
    r.cls ≤ 1 && r.number < (if r.cls = 0 then 48 else 80) && r.role ≤ 7 && i.inputRoleOk r) &&
  i.outputs.all (fun r =>
    r.cls ≤ 1 && r.number < (if r.cls = 0 then 48 else 32) && r.role ≤ 5 && r.code ≤ 1 &&
      r.safe ≤ 1 && i.outputRoleOk r)

/-- Addresses and pairing codes (R132). -/
def checkAddresses (i : RawImage) : Bool :=
  let addresses := i.ownAddress :: (i.neighbours.map (·.address) ++ i.panels.map (·.address))
  addresses.all (fun a => 1 ≤ a && a ≤ 30) && noRepeats addresses &&
  i.neighbours.all (fun n => n.code ≠ 0 && n.policy ≤ 3) && i.panels.all (·.code ≠ 0) &&
  (distinct (i.neighbours.map (·.code))).length ≤ 1 &&
  (distinct (i.panels.map (·.code))).length ≤ 1

/-- Heads, signals, remote heads, boundary map, points: fields and references. A remote head entry
whose neighbour is not configured, or whose head number lies outside 0 to 23, names what is not
there and fails here, before check 10 is made (R170, R172). -/
def checkElements (i : RawImage) : Bool :=
  i.heads.all (·.reported ≤ 1) && i.signals.all (·.reported ≤ 1) &&
  i.remoteHeads.all (fun r => i.hasNeighbour r.neighbour && r.head < 24) &&
  i.boundary.all (fun b =>
    i.hasNeighbour b.neighbour && b.kind ≤ 2 && b.number < (if b.kind = 0 then 32 else 16)) &&
  i.points.all (fun p => i.hasSection p.track && p.individual ≤ 1)

/-- Sections: R24 and R42. -/
def checkSections (i : RawImage) : Bool :=
  i.sections.all (fun r =>
    1 ≤ r.count && r.count ≤ 4 &&
    r.bounds.all (fun b =>
      (if b.remote then i.hasRemoteHead b.index else i.hasHead b.index) &&
        (b.orientation == 1 || b.orientation == 255)) &&
    noRepeats (r.bounds.map fun b => (b.remote, b.index)) &&
    (r.neighbourNumber < 32 || r.neighbourNumber == 255) &&
    (!r.isBoundary || r.neighbourNumber ≠ 255) &&
    (distinct (i.boundNeighbours r)).length ≤ 1 && r.owner ≤ 4 &&
    (r.owner == 0 || (r.isBoundary && (i.boundNeighbours r).all (fun n => n + 1 == r.owner)))) &&
  (let all := i.sections.flatMap fun r => r.bounds.map fun b => (b.remote, b.index)
   all.all fun b => all.count b ≤ 2)

/-- A list of element references: within its slots, each configured. -/
def listOk (l : RawList) (lo : Nat) (has : Nat → Bool) : Bool :=
  lo ≤ l.count && l.count ≤ l.slots.length && l.items.all has

/-- A list of points with positions: within its slots, each configured, positions 0 or 1. -/
def pairsOk (i : RawImage) (l : RawPairs) : Bool :=
  l.count ≤ l.slots.length && l.items.all fun p => i.hasPoint p.1 && p.2 ≤ 1

/-- The track section of a point is one of a path's sections. -/
def RawImage.trackIn (i : RawImage) (path : RawList) (p : Nat × Nat) : Bool :=
  match i.points.find? (·.number == p.1) with
  | none => false
  | some q => path.items.contains q.track

/-- Routes: R69, but for the times, which are check 11. The portion number of a route without a
portion request is not tested: R172 gives the byte no other value for that case, and R69 no number
beside "none" (DESIGN CHOICE, log 43). -/
def checkRoutes (i : RawImage) : Bool :=
  i.routes.all fun r =>
    r.cls ≤ 1 && i.hasSignal r.entry && r.exitKind ≤ 1 &&
    (if r.exitKind = 0 then i.hasSignal r.exitNumber && r.exitNumber ≠ r.entry
     else
      match i.boundary.find? (·.entry == r.exitNumber) with
      | none => false
      | some b => b.kind == 2 && r.neighbour ≠ 255 && b.neighbour == r.neighbour) &&
    listOk r.path 1 i.hasSection && pairsOk i r.points && listOk r.overlap 0 i.hasSection &&
    pairsOk i r.overlapPoints && listOk r.approach 0 i.hasSection && listOk r.flank 0 i.hasFlank &&
    noRepeats (r.path.items ++ r.overlap.items ++ r.approach.items) &&
    noRepeats (r.points.items.map Prod.fst ++ r.overlapPoints.items.map Prod.fst) &&
    (r.cls == 0 || (r.overlap.count == 0 && r.overlapPoints.count == 0)) &&
    r.points.items.all (i.trackIn r.path) &&
    (r.neighbour == 255 ||
      (i.hasNeighbour r.neighbour && r.portion < 16 &&
        i.isBoundaryOf (r.path.items.getLastD 255) r.neighbour))

/-- Hosted portions: R152, but for its flank entries, which are check 8. R152 asks that a point's
track section be one of the path sections and does not say whether an overlap point is meant. The
model takes the path points alone, as R69 says of a route (DESIGN CHOICE, log 39). -/
def checkPortions (i : RawImage) : Bool :=
  i.portions.all fun r =>
    i.hasNeighbour r.neighbour && i.hasSignal r.exit &&
    listOk r.path 1 i.hasSection && pairsOk i r.points && listOk r.overlap 0 i.hasSection &&
    pairsOk i r.overlapPoints && listOk r.flank 0 i.hasFlank &&
    noRepeats (r.path.items ++ r.overlap.items) &&
    noRepeats (r.points.items.map Prod.fst ++ r.overlapPoints.items.map Prod.fst) &&
    r.points.items.all (i.trackIn r.path) &&
    i.isBoundaryOf (r.path.items.headD 255) r.neighbour

/-- Flank entries: fields and references. What R118 and R119 ask of chains and lists is check 8. -/
def checkFlankFields (i : RawImage) : Bool :=
  i.flank.all fun r =>
    r.code ≤ 2 && r.requestable ≤ 1 &&
    (if r.viaMap then i.hasBoundary r.number
     else if r.code = 2 then i.hasSignal r.number else i.hasPoint r.number) &&
    (r.substitute == 255 || i.hasFlank r.substitute)

/-- Check 5: REFERENCE. -/
def checkReference (i : RawImage) : Bool :=
  checkNumbers i && checkIoFields i && checkAddresses i && checkElements i && checkSections i &&
    checkRoutes i && checkPortions i && checkFlankFields i

/-- Check 6: BINDING (R2, R10): each role on its class, once, and every element with its roles. -/
def checkBinding (i : RawImage) : Bool :=
  let ins := i.inputs.filter (·.role ≠ 0)
  let outs := i.outputs.filter (·.role ≠ 0)
  let hasIn := fun role element => ins.any fun r => r.role == role && r.element == element
  let hasOut := fun role element => outs.any fun r => r.role == role && r.element == element
  ins.all (fun r => (r.role ≤ 2) == (r.cls == 0)) &&
  outs.all (fun r => (r.role ≤ 3) == (r.cls == 0)) &&
  noRepeats (ins.map fun r => (r.role, r.element)) &&
  noRepeats (outs.map fun r => (r.role, r.element)) &&
  i.heads.all (fun h => hasIn 1 h.number && hasIn 2 h.number) &&
  i.points.all (fun p =>
    hasIn 3 p.number && hasIn 4 p.number && hasOut 4 p.number && hasOut 5 p.number) &&
  i.signals.all (fun g =>
    hasIn 5 g.number && hasIn 6 g.number && hasIn 7 g.number &&
      hasOut 1 g.number && hasOut 2 g.number && hasOut 3 g.number)

/-- Check 7: SAFE_STATE: safe state ON on LAMP_RED alone (R10). -/
def checkSafeState (i : RawImage) : Bool := i.outputs.all fun r => r.safe == 0 || r.role == 1

/-- A chain from an entry, at most `fuel` entries long (R118). -/
def RawImage.chain (i : RawImage) : Nat → Nat → List RawFlank
  | 0, _ => []
  | fuel + 1, e =>
    match i.flank.find? (·.entry == e) with
    | none => []
    | some r => r :: i.chain fuel r.substitute

/-- Whether a raw flank entry names local point `p`. -/
def RawFlank.isPoint (r : RawFlank) (p : Nat) : Bool := !r.viaMap && r.code ≠ 2 && r.number == p

/-- Whether a raw flank entry names local signal `g`. -/
def RawFlank.isSignal (r : RawFlank) (g : Nat) : Bool := !r.viaMap && r.code == 2 && r.number == g

/-- What a boundary map entry names: a neighbour, an element kind and the element's number there. -/
def RawImage.remoteNamed (i : RawImage) (entry : Nat) : Option (Nat × Nat × Nat) :=
  (i.boundary.find? (·.entry == entry)).map fun b => (b.neighbour, b.kind, b.number)

/-- Check 8: FLANK_CHAIN (R83, R118, R119). A chain of a fourth entry is too long, and so is one
that returns on itself. A flank entry names a route's remote exit signal where its boundary map
entry names that signal, through the entry of the exit or through another. -/
def checkFlankChain (i : RawImage) : Bool :=
  i.flank.all (fun r => (i.chain 4 r.entry).length ≤ 3) &&
  i.flank.all (fun r => !r.viaMap ||
    (i.boundary.find? (·.entry == r.number)).all (·.kind ≠ 0)) &&
  i.routes.all (fun r =>
    (r.flank.items.flatMap (i.chain 3)).all fun e =>
      !e.isSignal r.entry && !(r.exitKind = 0 && e.isSignal r.exitNumber) &&
      !(r.exitKind = 1 && e.viaMap && i.remoteNamed e.number == i.remoteNamed r.exitNumber) &&
      (r.points.items ++ r.overlapPoints.items).all fun p => !e.isPoint p.1) &&
  i.portions.all (fun r =>
    (r.flank.items.flatMap (i.chain 3)).all fun e =>
      !e.viaMap && !e.isSignal r.exit &&
      (r.points.items ++ r.overlapPoints.items).all fun p => !e.isPoint p.1) &&
  (let asked := i.flank.filter (·.requestable = 1)
   asked.all (fun r => (i.chain 3 r.entry).all fun e => !e.viaMap) &&
   noRepeats (asked.map fun r => (r.code, r.number)))

/-- Check 9: BOUNDARY_MAP: no two entries for one element of one neighbour. -/
def checkBoundaryMap (i : RawImage) : Bool :=
  noRepeats (i.boundary.map fun b => (b.neighbour, b.kind, b.number))

/-- Check 10: REMOTE_HEAD (R31). Of R31's three cases the first two have failed check 5 already. -/
def checkRemoteHeads (i : RawImage) : Bool :=
  i.remoteHeads.all (fun r => i.hasNeighbour r.neighbour && r.head < 24) &&
  noRepeats (i.remoteHeads.map fun r => (r.neighbour, r.head))

/-- Check 11: SAFETY_TIME (R54, R69). -/
def checkSafetyTimes (i : RawImage) : Bool :=
  i.points.all (fun p => p.moveLimit == 0 || (3 ≤ p.moveLimit && p.moveLimit ≤ 15)) &&
  i.routes.all fun r =>
    (r.settingLimit == 0 || (5 ≤ r.settingLimit && r.settingLimit ≤ 60)) &&
    (10 ≤ r.approachTime && r.approachTime ≤ 240) &&
    (r.overlapTime == 0 || (5 ≤ r.overlapTime && r.overlapTime ≤ 120))

/-- The first failing check of an image whose reading ended, with the bytes the memory delivered
(R170); `none` where every check passes. -/
def imageFault (delivered : List Byte) : Option ImageFault :=
  let bs := delivered.take (imageLength delivered)
  let i := rawImage bs
  if !checkRead delivered then some .read
  else if !checkHeader bs then some .header
  else if !checkCrc bs then some .crc
  else if !checkCount i then some .count
  else if !checkReference i then some .reference
  else if !checkBinding i then some .binding
  else if !checkSafeState i then some .safeState
  else if !checkFlankChain i then some .flankChain
  else if !checkBoundaryMap i then some .boundaryMap
  else if !checkRemoteHeads i then some .remoteHead
  else if !checkSafetyTimes i then some .safetyTime
  else none

/-! ## The tables of an accepted image -/

/-- A number as an index below `n + 1`. Reduced modulo the bound; an image that passed the checks
has no number out of range. -/
def index (n : Nat) (k : Nat) : Fin (n + 1) := Fin.ofNat (n + 1) k

/-- A value clamped to its range, 0 selecting the default (R170). -/
def clamped (default lo hi v : Nat) : Nat := if v = 0 then default else max lo (min hi v)

/-- The filter length of an input (R4). -/
def filterLength (cls v : Nat) : Nat := if cls = 0 then clamped 3 2 6 v else clamped 8 4 16 v

/-- A value of which 0 selects the default: the two safety times with one (R54, R69). -/
def orDefault (default v : Nat) : Nat := if v = 0 then default else v

def positionOf (v : Nat) : Position := if v = 0 then .normal else .reverse

def lampOf (v : Nat) : Lamp := if v = 0 then .red else if v = 1 then .yellow else .green

def inputRoleOf (r : RawInput) : InputRole :=
  match r.role with
  | 0 => .unbound
  | 1 => .sensorA (index 23 r.element)
  | 2 => .sensorB (index 23 r.element)
  | 3 => .detectN (index 15 r.element)
  | 4 => .detectR (index 15 r.element)
  | k => .prove (index 15 r.element) (lampOf (k - 5))

def outputRoleOf (r : RawOutput) : OutputRole :=
  match r.role with
  | 0 => .unbound
  | 4 => .drive (index 15 r.element) .normal
  | 5 => .drive (index 15 r.element) .reverse
  | k => .lamp (index 15 r.element) (lampOf (k - 1))

def pointList (l : RawPairs) : List (Fin 16 × Position) :=
  l.items.map fun p => (index 15 p.1, positionOf p.2)

def planOfRoute (r : RawRoute) : Plan where
  path := r.path.items.map (index 31)
  points := pointList r.points
  overlap := r.overlap.items.map (index 31)
  overlapPoints := pointList r.overlapPoints
  flank := r.flank.items.map (index 47)
  exit := if r.exitKind = 0 then .localSignal (index 15 r.exitNumber)
    else .remoteSignal (index 31 r.exitNumber)

def planOfPortion (r : RawPortion) : Plan where
  path := r.path.items.map (index 31)
  points := pointList r.points
  overlap := r.overlap.items.map (index 31)
  overlapPoints := pointList r.overlapPoints
  flank := r.flank.items.map (index 47)
  exit := .localSignal (index 15 r.exit)

def flankElementOf (r : RawFlank) : FlankElement :=
  if r.viaMap then
    if r.code = 2 then .remoteSignal (index 31 r.number)
    else .remotePoint (index 31 r.number) (positionOf r.code)
  else
    if r.code = 2 then .signal (index 15 r.number)
    else .point (index 15 r.number) (positionOf r.code)

def policyOf (v : Nat) : ReplyPolicy :=
  match v with
  | 0 => .wait
  | 1 => .resend
  | 2 => .drop
  | _ => .block

def kindOfElement (v : Nat) : ElementKind :=
  match v with
  | 0 => .sect
  | 1 => .point
  | _ => .signal

/-- A table from records: at each number the record that carries it, if there is one. -/
def tableOf {α β : Type} (n : Nat) (records : List α) (number : α → Nat) (f : α → β) :
    Vector (Option β) n :=
  Vector.ofFn fun k => (records.find? fun r => number r == k.val).map f

def sectionCfgOf (r : RawSection) : SectionCfg where
  bounds := r.bounds.map fun b =>
    ⟨if b.remote then .remoteHead (index 7 b.index) else .localHead (index 23 b.index),
      b.orientation == 1⟩
  owner := if r.owner = 0 then none else some (index 3 (r.owner - 1))
  neighbourNumber := if r.neighbourNumber = 255 then none else some (index 31 r.neighbourNumber)

def routeCfgOf (r : RawRoute) : RouteCfg where
  cls := if r.cls = 0 then .main else .callOn
  entry := index 15 r.entry
  plan := planOfRoute r
  approach := r.approach.items.map (index 31)
  request := if r.neighbour = 255 then none else some (index 3 r.neighbour, index 15 r.portion)
  settingLimit := orDefault 20 r.settingLimit
  approachTime := r.approachTime
  overlapTime := r.overlapTime

/-- The tables an accepted image puts into effect (R166), values that are no safety time clamped
(R170). -/
def zoneConfig (i : RawImage) : ZoneConfig where
  statusPeriod := clamped 200 100 1000 i.statusPeriod
  displayPeriod := clamped 500 200 2000 i.displayPeriod
  heads := tableOf 24 i.heads (·.number) (·.reported == 1)
  sections := tableOf 32 i.sections (·.number) sectionCfgOf
  remoteHeads := tableOf 8 i.remoteHeads (·.entry) fun r =>
    ⟨index 3 r.neighbour, index 23 r.head⟩
  boundary := tableOf 32 i.boundary (·.entry) fun r =>
    ⟨index 3 r.neighbour, kindOfElement r.kind, byteOf r.number⟩
  points := tableOf 16 i.points (·.number) fun r =>
    ⟨index 31 r.track, r.individual == 1, orDefault 8 r.moveLimit⟩
  signals := tableOf 16 i.signals (·.number) (·.reported == 1)
  routes := tableOf 64 i.routes (·.number) routeCfgOf
  flank := tableOf 48 i.flank (·.entry) fun r =>
    ⟨flankElementOf r, if r.substitute = 255 then none else some (index 47 r.substitute),
      r.requestable == 1⟩
  portions := tableOf 16 i.portions (·.number) fun r => ⟨index 3 r.neighbour, planOfPortion r⟩
  neighbours := tableOf 4 i.neighbours (·.index) fun r =>
    ⟨byteOf r.address, BitVec.ofNat 16 r.code, clamped 10 2 50 r.replyTime,
      clamped 15 5 25 r.silenceLimit, policyOf r.policy⟩
  panels := Vector.ofFn fun k => (i.panels[k.val]?).map fun r =>
    ⟨byteOf r.address, BitVec.ofNat 16 r.code⟩

/-- The input records an accepted image gives: role, polarity, and a filter started again with its
configured length (R2, R3, R4, R6). R2 to R4 do not say what an input gets that the image does not
list: it gets NONE, direct and the default of its class, as before acceptance (DESIGN CHOICE, log
41). -/
def configuredInput (i : RawImage) (cls default number : Nat) : InputRec :=
  match i.inputs.find? fun r => r.cls == cls && r.number == number with
  | none => ⟨.unbound, false, .started default⟩
  | some r => ⟨inputRoleOf r, r.inverted, .started (filterLength cls r.length)⟩

/-- The output record an accepted image gives (R10); the energised state is left as it was. R10 does
not say what an output gets that the image does not list: it gets NONE, code 0 and safe state OFF,
as before acceptance (DESIGN CHOICE, log 41). -/
def configuredOutput (i : RawImage) (cls number : Nat) (old : OutputRec) : OutputRec :=
  match i.outputs.find? fun r => r.cls == cls && r.number == number with
  | none => ⟨.unbound, false, false, old.energised⟩
  | some r => ⟨outputRoleOf r, r.code == 1, r.safe == 1, old.energised⟩

end Sys2Proof.Machine
end

