-- ==== Sys2Proof/Machine/Periods.lean ====
section
/-! DEFINITION. The timers of the station line unit, and the periods and pacings of STATUS and
DISPLAY (R141, R142, R146, R165). -/

namespace Sys2Proof.Machine

open Sys2Proof

/-- A panel's silence timer rewritten. -/
def State.setPanelSilence (s : State) (p : Fin 2) (t : Timer) : State :=
  { s with slu := { s.slu with panelSilence := upd s.slu.panelSilence p fun _ => t } }

/-- PANEL_SILENCE_TIMER_EXPIRY (R141). -/
def State.panelExpiry (s : State) (p : Fin 2) : State :=
  if (s.slu.panelSilence[p]).due then
    (s.setPanelSilence p .stopped).updWindow (.panel p) fun _ => []
  else s

/-- LINE_HEALTH_TIMER_EXPIRY (R142). -/
def State.healthExpiry (s : State) (l : Line) : State :=
  if (s.line l).health.due then
    (s.updLine l fun r => { r with health := .expired }).judgeLines
  else s

/-- A station state in which periods run: RUN and HALT (R146, R165). -/
def State.reports (s : State) : Bool := s.sld.station == .run || s.sld.station == .halt

/-- STATUS_PERIOD_EXPIRY: a STATUS is built and placed, and the period restarts (R146). -/
def State.statusExpiry (s : State) : State :=
  if s.hou.statusPeriod.due ∧ s.reports then s.placeStatus else s

/-- STATUS_PACING_END: the 50 ms are over, and one STATUS is placed for the changes that came
meanwhile (R146). -/
def State.statusPacingEnd (s : State) : State :=
  if s.hou.statusPacing.due then
    let t := { s with hou := { s.hou with statusPacing := .stopped, statusChange := false } }
    if s.hou.statusChange ∧ s.sld.station = .run then t.placeStatus else t
  else s

/-- The DISPLAY period started afresh (R165). -/
def State.startDisplay (s : State) : State :=
  { s with cmu := { s.cmu with displayPeriod := .startMs s.config.displayPeriod } }

/-- DISPLAY_PERIOD_EXPIRY: page 0, then page 1, and the period restarts (R165). -/
def State.displayExpiry (s : State) : State :=
  if s.cmu.displayPeriod.due ∧ s.reports then
    ((s.placePage .zero).placePage .one).startDisplay
  else s

/-- DISPLAY_PACING_END: the 100 ms of a page are over, and it is placed for the changes that came
meanwhile (R165). -/
def State.displayPacingEnd (s : State) (page : Page) : State :=
  if (s.pageTimes page).pacing.due then
    let t := s.setPageTimes page ⟨.stopped, false⟩
    if (s.pageTimes page).change ∧ s.sld.station = .run then t.placePage page else t
  else s

/-! ## Meanings -/

/-- PANEL_SILENCE_TIMER_EXPIRY. -/
def execPanelSilenceTimerExpiry (p : Fin 2) (s : State) : Host.Outcome State Fault Refusal :=
  .next (s.finish (s.panelExpiry p))

/-- LINE_HEALTH_TIMER_EXPIRY. -/
def execLineHealthTimerExpiry (l : Line) (s : State) : Host.Outcome State Fault Refusal :=
  .next (s.finish (s.healthExpiry l))

/-- STATUS_PERIOD_EXPIRY. -/
def execStatusPeriodExpiry (s : State) : Host.Outcome State Fault Refusal := .next s.statusExpiry

/-- STATUS_PACING_END. -/
def execStatusPacingEnd (s : State) : Host.Outcome State Fault Refusal := .next s.statusPacingEnd

/-- DISPLAY_PERIOD_EXPIRY. -/
def execDisplayPeriodExpiry (s : State) : Host.Outcome State Fault Refusal := .next s.displayExpiry

/-- DISPLAY_PACING_END. -/
def execDisplayPacingEnd (page : Page) (s : State) : Host.Outcome State Fault Refusal :=
  .next (s.displayPacingEnd page)

end Sys2Proof.Machine
end

