-- ==== Sys2Proof/Machine/Startup.lean ====
section
/-! DEFINITION. The start-up loader (11.5): reset, the end of the reading of the image, the change
to RUN, STOP, and the entry to HALT. -/

namespace Sys2Proof.Machine

open Sys2Proof

/-! ## Reset -/

/-- RESET: every block at its reset state (R16). The commands that wait and the levels of the pins
are the surroundings' and stay; the memory is read anew (log 5). -/
def State.resetKeeping (s : State) : State :=
  { State.reset with pending := s.pending, pins := { s.pins with delivered := [] } }

/-! ## Reading and checking the image -/

/-- The FSU with the roles, polarities, filter lengths and bindings of an accepted image, every
filter started again (R2, R3, R4, R6, R10). -/
def FieldScan.configure (u : FieldScan) (i : RawImage) : FieldScan :=
  { u with
    sensors := Vector.ofFn fun k => configuredInput i 0 3 k.val
    contacts := Vector.ofFn fun k => configuredInput i 1 8 k.val
    lamps := mapTab (fun k o => configuredOutput i 0 k.val o) u.lamps
    drives := mapTab (fun k o => configuredOutput i 1 k.val o) u.drives }

/-- The overlap states of the idle records, now that the image says which owner has an overlap
(R73, R152). -/
def State.idleOverlaps (s : State) : State :=
  let routes := mapTab (fun r (c : RouteRec) =>
    { c with hold := { c.hold with overlap := idleOverlap s.config (.route r) } }) s.lku.routes
  let portions := mapTab (fun p (c : PortionRec) =>
    { c with hold := { c.hold with overlap := idleOverlap s.config (.portion p) } }) s.hou.portions
  { s with lku := { s.lku with routes := routes }, hou := { s.hou with portions := portions } }

/-- Both line health timers started (R142). -/
def State.startLines (s : State) : State :=
  (s.updLine .a fun r => { r with health := .start }).updLine .b fun r => { r with health := .start }

/-- The loader after the acceptance of an image (R166). -/
def Loader.accept (u : Loader) (own : Byte) : Loader :=
  { u with
    station := .quiet
    check := .accepted
    faultCode := 0
    ownAddress := some own
    reading := .stopped
    quiet := .start Config.quietTime }

/-- The acceptance of an image: the event that ends the checks with all passed (R166). -/
def State.acceptImage (s : State) (delivered : List Byte) : State :=
  let i := rawImage (delivered.take (imageLength delivered))
  let s1 := { s with
    config := zoneConfig i
    fsu := s.fsu.configure i
    sld := s.sld.accept (delivered.getD 6 0) }
  s1.idleOverlaps.startLines

/-- The loader after a refusal or a stop in CONFIG (R166, R168). -/
def Loader.refuse (u : Loader) (code : Byte) (address : Option Byte) : Loader :=
  { u with
    station := .halt
    check := .refused
    faultCode := code
    ownAddress := address
    reading := .stopped }

/-- The STATUS period of a HALT entered from CONFIG: the default runs where the header gave an own
address (R166). -/
def State.startRefusedStatus (s : State) (address : Option Byte) : State :=
  if address.isSome then
    { s with hou := { s.hou with statusPeriod := .startMs s.config.statusPeriod } }
  else s

/-- HALT entered from CONFIG with a code (R166, R168). -/
def State.refuseImage (s : State) (code : Byte) (delivered : List Byte) : State :=
  let address := headerAddress delivered
  (({ s with sld := s.sld.refuse code address }).setFault .configFault code).startRefusedStatus
    address

/-- CONFIG_READ_END: the checks made in order, and their outcome (R166, R170). -/
def State.configReadEnd (s : State) (delivered : List Byte) : State :=
  if s.sld.station = .config then
    match imageFault delivered with
    | none => s.acceptImage delivered
    | some why => s.refuseImage why.code delivered
  else s

/-- CONFIG_READ_TIMEOUT: check READ fails (R166, R170). -/
def State.configReadTimeout (s : State) (delivered : List Byte) : State :=
  if s.sld.station = .config ∧ s.sld.reading.due then s.refuseImage ImageFault.read.code delivered
  else s

/-! ## RUN -/

/-- The loader in RUN (R167). -/
def Loader.toRun (u : Loader) : Loader := { u with station := .run, quiet := .stopped }

/-- What the entry to RUN places: a STATUS, page 0, page 1, and the DISPLAY period begins (R165,
R167). That the STATUS comes first is a DESIGN CHOICE (log 12). -/
def State.announce (s : State) : State :=
  (((s.placeStatus).placePage .zero).placePage .one).startDisplay

/-- QUIET_TIMER_EXPIRY: the outputs follow their demands, and then the telegrams are built (R167).
-/
def State.quietExpiry (s : State) : State :=
  if s.sld.station = .quiet ∧ s.sld.quiet.due then
    (s.settled { s with sld := s.sld.toRun }).announce
  else s

/-! ## HALT -/

/-- Every route, hosted portion, claim and hold dropped; the block flags stay (R74). -/
def State.dropLocks (s : State) : State :=
  { s with lku := {
      sections := mapTab (fun _ l => { l with holder := none }) s.lku.sections
      points := mapTab (fun _ l => { l with holder := none, claimsN := 0, claimsR := 0 })
        s.lku.points
      signals := mapTab (fun _ l => { l with holder := none, holds := 0 }) s.lku.signals
      routes := Vector.ofFn fun r => RouteRec.idle (idleOverlap s.config (.route r)) } }

/-- The HOU at the entry to HALT: offers and hosted records gone without telegrams, the last id
kept; the STATUS period goes on, or starts (R74, R146, R148, R159). A change that waited for the end
of the 50 ms is dropped, since HALT places STATUS at the period alone (log 30). -/
def State.dropHandover (s : State) : State :=
  { s with hou := { s.hou with
      offers := Vector.replicate 8 none
      portions := Vector.ofFn fun p => PortionRec.idle (idleOverlap s.config (.portion p))
      grants := Vector.replicate 8 none
      statusPeriod := if s.hou.statusPeriod.isRunning then s.hou.statusPeriod
        else .startMs s.config.statusPeriod
      statusChange := false } }

/-- The CMU at the entry to HALT, answers aside: the pending reset record and the queue gone, the
DISPLAY period going on or started (R43, R161, R165). -/
def State.dropCommands (s : State) : State :=
  { s with cmu := { s.cmu with
      queue := []
      pendingReset := none
      displayPeriod := if s.cmu.displayPeriod.isRunning then s.cmu.displayPeriod
        else .startMs s.config.displayPeriod
      pageZero := { s.cmu.pageZero with change := false }
      pageOne := { s.cmu.pageOne with change := false } } }

/-- The loader in HALT (R168, R169). -/
def Loader.toHalt (u : Loader) : Loader := { u with station := .halt, quiet := .stopped }

/-- The queues and slots of the SLU emptied (R137). -/
def State.dropTelegrams (s : State) : State := { s with slu := s.slu.emptied }

/-- Queued commands answered HALTED (R161). -/
def State.answerHalted (s : State) (cs : List QueuedCommand) : State :=
  s.forEach cs fun s c => s.placeResult c (some .halted)

/-- The entry to HALT from QUIET or RUN (R169). The queued commands are answered after the class-1
queue has been emptied (R161). -/
def State.enterHalt (s : State) : State :=
  let queued := s.cmu.queue
  let s := { s with sld := s.sld.toHalt, rtp := TimerPool.reset }
  let s := (s.dropLocks.dropHandover.mapPoints fun _ => PointRec.halted).dropTelegrams.dropCommands
  s.answerHalted queued

/-- The filter of STOP at its edge to active (R168, log 6). -/
def State.observeStop (s : State) : State :=
  { s with sld := { s.sld with stopFilter := s.sld.stopFilter.accept true } }

/-- STOP (R168). -/
def State.stop (s : State) (delivered : List Byte) : State :=
  let s := s.observeStop
  match s.sld.station with
  | .config =>
    (s.refuseImage ImageFault.stopped.code delivered).setFault .stopped 0
  | .quiet => s.enterHalt.setFault .stopped 0
  | .run => s.enterHalt.setFault .stopped 0
  | .halt => s

/-! ## Meanings -/

/-- RESET. -/
def execReset (s : State) : Host.Outcome State Fault Refusal := .next s.resetKeeping

/-- CONFIG_READ_END. -/
def execConfigReadEnd (delivered : List Byte) (s : State) : Host.Outcome State Fault Refusal :=
  .next (s.finish (s.configReadEnd delivered))

/-- CONFIG_READ_TIMEOUT. -/
def execConfigReadTimeout (delivered : List Byte) (s : State) : Host.Outcome State Fault Refusal :=
  .next (s.finish (s.configReadTimeout delivered))

/-- QUIET_TIMER_EXPIRY. -/
def execQuietTimerExpiry (s : State) : Host.Outcome State Fault Refusal := .next s.quietExpiry

/-- STOP. -/
def execStop (delivered : List Byte) (s : State) : Host.Outcome State Fault Refusal :=
  .next (s.finish (s.stop delivered))

end Sys2Proof.Machine
end

