-- ==== Sys2Proof/Machine/Tick.lean ====
section
/-! DEFINITION. The clock: what one sensor sampling interval (0.25 ms) does while no command waits
(log 2). The inputs are sampled, the receivers take what the lines carried, the timers are counted,
and the commands that this brings about join the queue in a fixed order (log 3). -/

namespace Sys2Proof.Machine

open Sys2Proof

/-! ## Sampling (R3, R5) -/

/-- The logical sample of a raw level (R3). -/
def InputRec.sampleOf (r : InputRec) (level : Bool) : Bool := level != r.inverted

/-- Whether a sample completes an edge of an input (R5). -/
def InputRec.edge (r : InputRec) (level : Bool) : Bool := (r.filter.sample (r.sampleOf level)).2

/-- The filtered value that an input has after a sample. -/
def InputRec.valueAfter (r : InputRec) (level : Bool) : Bool :=
  (r.filter.sample (r.sampleOf level)).1.value

/-- An input after a sample. An edge of an input without a role takes effect at once and is
delivered to no block; an edge of another takes effect in the event that delivers it (R2, R5). -/
def InputRec.sampled (level : Bool) (r : InputRec) : InputRec :=
  let after := (r.filter.sample (r.sampleOf level)).1
  if r.role = .unbound then { r with filter := after }
  else { r with filter := { after with value := r.filter.value } }

/-- The inputs of one class with their raw levels. -/
def sampledInputs {n : Nat} (inputs : Vector InputRec n) (levels : Vector Bool n) :
    List (InputRec × Bool) :=
  (indices n).map fun i => (inputs[i], levels[i])

/-- Whether the input of a role has an edge at this instant. -/
def edgeOf (xs : List (InputRec × Bool)) (role : InputRole) : Bool :=
  xs.any fun x => x.1.role == role && x.1.edge x.2

/-- The filtered value of the input of a role after this instant. -/
def valueOf (xs : List (InputRec × Bool)) (role : InputRole) : Bool :=
  xs.any fun x => x.1.role == role && x.1.valueAfter x.2

/-- The head observations of a sensor sampling instant (R7). -/
def State.headEvents (s : State) : List Instr :=
  let xs := sampledInputs s.fsu.sensors s.pins.sensors
  (indices 24).filterMap fun h =>
    if edgeOf xs (.sensorA h) || edgeOf xs (.sensorB h) then
      some (.headObservation h (valueOf xs (.sensorA h)) (valueOf xs (.sensorB h)))
    else none

/-- The detection observations of a contact sampling instant (R8). -/
def State.pointEvents (s : State) : List Instr :=
  let xs := sampledInputs s.fsu.contacts s.pins.contacts
  (indices 16).filterMap fun p =>
    if edgeOf xs (.detectN p) || edgeOf xs (.detectR p) then
      some (.detectionObservation p (valueOf xs (.detectN p)) (valueOf xs (.detectR p)))
    else none

/-- Every lamp of the station. -/
def allLamps : List (Fin 16 × Lamp) := (indices 16).flatMap fun g => lampList.map fun l => (g, l)

/-- The proving edges of a contact sampling instant (R9). -/
def State.provingEvents (s : State) : List Instr :=
  let xs := sampledInputs s.fsu.contacts s.pins.contacts
  allLamps.filterMap fun q =>
    if edgeOf xs (.prove q.1 q.2) then
      some (.provingEdge q.1 q.2 (valueOf xs (.prove q.1 q.2)))
    else none

/-- A stop at a contact sampling instant (R168). -/
def State.stopEvents (s : State) : List Instr :=
  let q := s.sld.stopFilter.sample s.pins.stop
  if q.2 && q.1.value then [.stop s.pins.delivered] else []

/-- The sensor inputs sampled. -/
def State.sampleSensors (s : State) : State :=
  { s with fsu := { s.fsu with
      sensors := mapTab (fun i r => r.sampled s.pins.sensors[i]) s.fsu.sensors } }

/-- The contact inputs and STOP sampled. An edge of STOP to inactive has no effect but on the
filter (R168). -/
def State.sampleContacts (s : State) : State :=
  let q := s.sld.stopFilter.sample s.pins.stop
  { s with
    fsu := { s.fsu with
      contacts := mapTab (fun i r => r.sampled s.pins.contacts[i]) s.fsu.contacts }
    sld := { s.sld with
      stopFilter := if q.2 && q.1.value then { q.1 with value := false } else q.1 } }

/-! ## The 100 ms base (R1) -/

def LineHealth.tick : LineHealth → LineHealth
  | .running n => .running (n - 1)
  | h => h

def PointRec.tick (r : PointRec)
    : PointRec := { r with move := r.move.tick, settle := r.settle.tick }

def LampRec.tick (r : LampRec) : LampRec :=
  { r with
    failureTimer := r.failureTimer.tick
    strayTimer := r.strayTimer.tick
    strayClearTimer := r.strayClearTimer.tick }

def SignalRec.tick (r : SignalRec) : SignalRec :=
  { r with red := r.red.tick, yellow := r.yellow.tick, green := r.green.tick }

/-- Every timer of the base counted at the end of a step. -/
def State.tickBase (s : State) : State :=
  { s with
    acu := { s.acu with heads := mapTab (fun _ r => { r with rest := r.rest.tick }) s.acu.heads }
    pcu := { s.pcu with points := mapTab (fun _ r => r.tick) s.pcu.points }
    lku := { s.lku with
      routes := mapTab (fun _ r => { r with setting := r.setting.tick }) s.lku.routes }
    asu := { s.asu with signals := mapTab (fun _ r => r.tick) s.asu.signals }
    rtp := { s.rtp with
      timers := mapTab (fun _ t => t.map fun t => { t with time := t.time.tick }) s.rtp.timers }
    slu := { s.slu with
      lineA := { s.slu.lineA with health := s.slu.lineA.health.tick }
      lineB := { s.slu.lineB with health := s.slu.lineB.health.tick }
      panelSilence := mapTab (fun _ t => t.tick) s.slu.panelSilence }
    hou := { s.hou with
      neighbours := mapTab (fun _ r => { r with silence := r.silence.tick }) s.hou.neighbours
      offers := mapTab (fun _ o => o.map fun o => { o with reply := o.reply.tick }) s.hou.offers }
    cmu := { s.cmu with
      pendingReset := s.cmu.pendingReset.map fun r => { r with window := r.window.tick } }
    sld := { s.sld with quiet := s.sld.quiet.tick } }

/-- A command for each number for which a timer is due. -/
def dueOf {n : Nat} (due : Fin n → Bool) (event : Fin n → Instr) : List Instr :=
  ((indices n).filter due).map event

/-- The expiries at the end of a base step, of the state in which the step is counted. -/
def State.baseEvents (s : State) : List Instr :=
  (if s.sld.quiet.due then [.quietTimerExpiry] else []) ++
    dueOf (fun h => (s.acu.heads[h]).rest.due) .restTimerExpiry ++
    dueOf (fun p => (s.pcu.points[p]).settle.due) .settleTimerExpiry ++
    dueOf (fun p => (s.pcu.points[p]).move.due) .moveTimerExpiry ++
    (allLamps.filter fun q => (s.lampRec q.1 q.2).failureTimer.due).map
      (fun q => .failureTimerExpiry q.1 q.2) ++
    (allLamps.filter fun q => (s.lampRec q.1 q.2).strayTimer.due).map
      (fun q => .strayTimerExpiry q.1 q.2) ++
    (allLamps.filter fun q => (s.lampRec q.1 q.2).strayClearTimer.due).map
      (fun q => .strayClearTimerExpiry q.1 q.2) ++
    dueOf (fun r => (s.lku.routes[r]).setting.due) .settingTimerExpiry ++
    dueOf (fun k => (s.rtp.timers[k]).any (·.time.due)) .poolTimerExpiry ++
    (if s.cmu.pendingReset.any (·.window.due) then [.resetWindowExpiry] else []) ++
    dueOf (fun n => (s.hou.neighbours[n]).silence.due) .silenceTimerExpiry ++
    dueOf (fun k => (s.hou.offers[k]).any (·.reply.due)) .replyTimerExpiry ++
    dueOf (fun p => (s.slu.panelSilence[p]).due) .panelSilenceTimerExpiry ++
    (if s.slu.lineA.health.due then [.lineHealthTimerExpiry .a] else []) ++
    (if s.slu.lineB.health.due then [.lineHealthTimerExpiry .b] else [])

/-! ## The station's own time (R136, R146, R165, R166) -/

def TxItem.tick (i : TxItem) : TxItem := { i with life := i.life.tick }

/-- Every timer of the station's own time counted. -/
def State.tickOwn (s : State) : State :=
  { s with
    slu := { s.slu with
      classOne := s.slu.classOne.map TxItem.tick
      statusSlot := s.slu.statusSlot.map TxItem.tick
      displayZero := s.slu.displayZero.map TxItem.tick
      displayOne := s.slu.displayOne.map TxItem.tick }
    hou := { s.hou with
      statusPeriod := s.hou.statusPeriod.tick
      statusPacing := s.hou.statusPacing.tick }
    cmu := { s.cmu with
      displayPeriod := s.cmu.displayPeriod.tick
      pageZero := { s.cmu.pageZero with pacing := s.cmu.pageZero.pacing.tick }
      pageOne := { s.cmu.pageOne with pacing := s.cmu.pageOne.pacing.tick } }
    sld := { s.sld with reading := s.sld.reading.tick } }

/-- The telegrams whose 100 ms have run out on a line (R136). -/
def State.giveUps (s : State) (l : Line) : List Instr :=
  (s.slu.waiting.filter fun i => i.life.due && i.dueOn l && !(i.on l).late).map fun i =>
    .transmitGiveUp l i.telegram.seq

/-- The end of the reading: the bytes delivered hold the header and the whole length it gives
(R166). -/
def State.readingEnds (s : State) : Bool :=
  s.sld.station == .config && s.sld.check == .reading && checkRead s.pins.delivered

/-- The expiries on the station's own time, of the state in which the interval is counted. -/
def State.ownEvents (s : State) : List Instr :=
  (if s.readingEnds then [.configReadEnd s.pins.delivered]
    else if s.sld.reading.due then [.configReadTimeout s.pins.delivered] else []) ++
    (if s.hou.statusPacing.due then [.statusPacingEnd] else []) ++
    (if s.hou.statusPeriod.due then [.statusPeriodExpiry] else []) ++
    (if s.cmu.pageZero.pacing.due then [.displayPacingEnd .zero] else []) ++
    (if s.cmu.pageOne.pacing.due then [.displayPacingEnd .one] else []) ++
    (if s.cmu.displayPeriod.due then [.displayPeriodExpiry] else []) ++
    s.giveUps .a ++ s.giveUps .b

/-! ## The work that waits inside the part (R88, R90, R160) -/

/-- The row that takes a queued command. -/
def rowOf (code : Byte) : Instr :=
  match code.toNat with
  | 1 => .setRoute
  | 2 => .cancelRoute
  | 3 => .movePoint
  | 4 => .block
  | 5 => .resetSection
  | 6 => .confirmReset
  | 7 => .clearNeighbourBlock
  | 8 => .clearFault
  | _ => .unknownCommand

/-- The standing notices and the head of the command queue, in RUN. -/
def State.waitingEvents (s : State) : List Instr :=
  if s.sld.station = .run then
    dueOf (fun k => (s.acu.sections[k]).chg && (s.config.sections[k]).isSome) .sectionNotice ++
      dueOf (fun p => (s.pcu.points[p]).chg && (s.config.points[p]).isSome) .pointNotice ++
      (s.cmu.queue.head?.map fun c => rowOf c.code).toList
  else []

/-! ## The tick -/

/-- A contact sampling instant: every twentieth (R3). -/
def contactInstant (t : Nat) : Bool := t % 20 == 0
/-- The end of a half of the flash phase: every 0.5 s (R12). -/
def flashInstant (t : Nat) : Bool := t % 2000 == 0
/-- The end of a base step: every 100 ms (R1). -/
def baseInstant (t : Nat) : Bool := t % 400 == 0

/-- The records after an interval that ends at time `t`. -/
def State.passed (s : State) (t : Nat) : State :=
  let s := { s with ticks := t }.sampleSensors.receiveLines
  let s := if contactInstant t then s.sampleContacts else s
  let s := if baseInstant t then s.tickBase else s
  s.tickOwn

/-- The commands an interval that ends at time `t` brings about: those of its sampling instants,
seen from the filters before it, then those of the timers as they stand after it, then the telegrams
that ended on line A and on line B in it, then the work that waits. -/
def State.tickEvents (s : State) (t : Nat) : List Instr :=
  let after := s.passed t
  s.headEvents ++
    (if contactInstant t then s.pointEvents ++ (s.provingEvents ++ s.stopEvents) else []) ++
    (if flashInstant t then [.flashBoundary] else []) ++
    (if baseInstant t then after.baseEvents else []) ++ after.ownEvents ++
    (s.lineEvents .a ++ s.lineEvents .b) ++ s.waitingEvents

/-- One sensor sampling interval passes. -/
def State.tick (s : State) : State :=
  let t := s.ticks + 1
  { s.passed t with pending := s.tickEvents t }

end Sys2Proof.Machine
end

