-- ==== Sys2Proof/Machine/Dispatch.lean ====
section
/-! DEFINITION. The dispatch: one arm for each constructor of `Instr`, in the order of the opcode
table. -/

namespace Sys2Proof.Machine

open Sys2Proof

/-- The effect of a command on everything but the queue of waiting commands. -/
def exec (i : Instr) (s : State) : Host.Outcome State Fault Refusal :=
  match i with
  | .reset => Sys2Proof.Machine.execReset s
  | .configReadEnd delivered => Sys2Proof.Machine.execConfigReadEnd delivered s
  | .configReadTimeout delivered => Sys2Proof.Machine.execConfigReadTimeout delivered s
  | .quietTimerExpiry => Sys2Proof.Machine.execQuietTimerExpiry s
  | .stop delivered => Sys2Proof.Machine.execStop delivered s
  | .headObservation head a b => Sys2Proof.Machine.execHeadObservation head a b s
  | .restTimerExpiry head => Sys2Proof.Machine.execRestTimerExpiry head s
  | .detectionObservation point n r => Sys2Proof.Machine.execDetectionObservation point n r s
  | .provingEdge signal lamp lit => Sys2Proof.Machine.execProvingEdge signal lamp lit s
  | .flashBoundary => Sys2Proof.Machine.execFlashBoundary s
  | .failureTimerExpiry signal lamp => Sys2Proof.Machine.execFailureTimerExpiry signal lamp s
  | .strayTimerExpiry signal lamp => Sys2Proof.Machine.execStrayTimerExpiry signal lamp s
  | .strayClearTimerExpiry signal lamp => Sys2Proof.Machine.execStrayClearTimerExpiry signal lamp s
  | .settleTimerExpiry point => Sys2Proof.Machine.execSettleTimerExpiry point s
  | .moveTimerExpiry point => Sys2Proof.Machine.execMoveTimerExpiry point s
  | .sectionNotice number => Sys2Proof.Machine.execSectionNotice number s
  | .pointNotice point => Sys2Proof.Machine.execPointNotice point s
  | .settingTimerExpiry route => Sys2Proof.Machine.execSettingTimerExpiry route s
  | .poolTimerExpiry timer => Sys2Proof.Machine.execPoolTimerExpiry timer s
  | .command frame => Sys2Proof.Machine.execCommand frame s
  | .setRoute => Sys2Proof.Machine.execSetRoute s
  | .cancelRoute => Sys2Proof.Machine.execCancelRoute s
  | .movePoint => Sys2Proof.Machine.execMovePoint s
  | .block => Sys2Proof.Machine.execBlock s
  | .resetSection => Sys2Proof.Machine.execResetSection s
  | .confirmReset => Sys2Proof.Machine.execConfirmReset s
  | .clearNeighbourBlock => Sys2Proof.Machine.execClearNeighbourBlock s
  | .clearFault => Sys2Proof.Machine.execClearFault s
  | .unknownCommand => Sys2Proof.Machine.execUnknownCommand s
  | .resetWindowExpiry => Sys2Proof.Machine.execResetWindowExpiry s
  | .status frame => Sys2Proof.Machine.execStatus frame s
  | .silenceTimerExpiry neighbour => Sys2Proof.Machine.execSilenceTimerExpiry neighbour s
  | .portionRequest frame => Sys2Proof.Machine.execPortionRequest frame s
  | .portionGrant frame => Sys2Proof.Machine.execPortionGrant frame s
  | .portionRefuse frame => Sys2Proof.Machine.execPortionRefuse frame s
  | .portionRelease frame => Sys2Proof.Machine.execPortionRelease frame s
  | .flankRequest frame => Sys2Proof.Machine.execFlankRequest frame s
  | .flankGrant frame => Sys2Proof.Machine.execFlankGrant frame s
  | .flankRefuse frame => Sys2Proof.Machine.execFlankRefuse frame s
  | .flankRelease frame => Sys2Proof.Machine.execFlankRelease frame s
  | .sectionReset frame => Sys2Proof.Machine.execSectionReset frame s
  | .replyTimerExpiry record => Sys2Proof.Machine.execReplyTimerExpiry record s
  | .panelSilenceTimerExpiry panel => Sys2Proof.Machine.execPanelSilenceTimerExpiry panel s
  | .lineHealthTimerExpiry line => Sys2Proof.Machine.execLineHealthTimerExpiry line s
  | .statusPeriodExpiry => Sys2Proof.Machine.execStatusPeriodExpiry s
  | .statusPacingEnd => Sys2Proof.Machine.execStatusPacingEnd s
  | .displayPeriodExpiry => Sys2Proof.Machine.execDisplayPeriodExpiry s
  | .displayPacingEnd page => Sys2Proof.Machine.execDisplayPacingEnd page s
  | .transmitAttempt line idle => Sys2Proof.Machine.execTransmitAttempt line idle s
  | .telegramSent line echo => Sys2Proof.Machine.execTelegramSent line echo s
  | .attemptFailed line echo => Sys2Proof.Machine.execAttemptFailed line echo s
  | .transmitGiveUp line seq => Sys2Proof.Machine.execTransmitGiveUp line seq s
  | .discardedTelegram kind frame => Sys2Proof.Machine.execDiscardedTelegram kind frame s

end Sys2Proof.Machine
end

