-- ==== Sys2Proof/Safety.lean ====
section
/-! DEFINITION. What the statements about the part are written with: what may follow within an event
beside a command's own effect, the hypotheses of the telegram and queue rows, what a setting event
takes and a release gives back, where the fields of the image lie, what refuses an image and which
tables it puts into effect, silence, and the laws of the device that every step keeps. -/

namespace Sys2Proof.Machine

open Sys2Proof

/-! ## Outputs -/

/-- Whether a lamp of a signal is to be energised in RUN, by its shown aspect and the half of the
flash phase (R13, R98). -/
def lampLit (shown : Aspect) (onHalf : Bool) : Lamp → Bool
  | .red => shown == .danger || shown == .callOn
  | .yellow => shown == .caution || (shown == .callOn && onHalf)
  | .green => shown == .proceed

/-- An output stands at the level its role calls for: none without a role; in RUN the lamp by the
shown aspect and the drive by the controller of its point; the safe state otherwise (R10, R13, R15,
R57, R98). -/
def State.outputRight (s : State) (o : OutputRec) : Prop :=
  match o.role with
  | .unbound => o.energised = false
  | .lamp g l =>
    if s.sld.station = .run then o.energised = lampLit (s.shown g) s.fsu.onHalf l
    else o.energised = o.safeOn
  | .drive p q =>
    if s.sld.station = .run then
      (o.energised = true ↔ (s.pcu.points[p]).controller = .moving q)
    else o.energised = o.safeOn

/-- Every output stands at its level (R13, R15). -/
def State.OutputsFollow (s : State) : Prop :=
  (∀ i : Fin 48, s.outputRight s.fsu.lamps[i]) ∧ ∀ i : Fin 32, s.outputRight s.fsu.drives[i]

/-! ## The rest of an event -/

/-- An output without its level: what the image gives it (R10). -/
def OutputRec.fixed (o : OutputRec) : OutputRec := { o with energised := false }

/-- The lamp-failed flag of a lamp is cleared by an event that began in `b` and ends in `t` (R100):
for a red lamp, the event leaves it energised and lit, and it was not both before; for a yellow or
green lamp, a route from the signal has returned to IDLE and none stands beyond it. -/
def State.lampRestored (b t : State) (g : Fin 16) : Lamp → Bool
  | .red => t.energised g .red && t.lit g .red && !(b.energised g .red && b.lit g .red)
  | .yellow => b.freshTrial t g
  | .green => b.freshTrial t g

/-- A red lamp that the event changed is one a hosted portion holds at danger. -/
def State.redsOf (b t : State) (p : Fin 16) : Bool :=
  (flankSignals t.config (t.hou.portions[p]).hold.flank).any fun g => b.redChanged t g

/-- A red lamp that the event changed is the element of a hosted flank grant. -/
def State.redUsed (b t : State) (x : Grant) : Bool :=
  match elementOf t.config x.used with
  | some (.signal g) => b.redChanged t g
  | _ => false

/-- What follows in an event that began in `b`, once the command's own effect has left the records
as in `u`: every output at its level (R13, R15); the shown aspects kept (R97, log 36); the
lamp-failed flags that R100 clears, with their conditions; the proving timers, started with 0.3 s
where their condition comes to hold in the event, stopped where it does not hold, running on
otherwise (R99, R101, R102); the tests of portions and grants that a changed red lamp bears on
(R129, R154). But for telegrams and their times, all else is in `t` as it is in `u`. -/
structure Consequences (b u t : State) : Prop where
  surroundings : t.pending = u.pending ∧ t.ticks = u.ticks ∧ t.pins = u.pins ∧ t.config = u.config
  inputs : t.fsu.sensors = u.fsu.sensors ∧ t.fsu.contacts = u.fsu.contacts ∧
    t.fsu.onHalf = u.fsu.onHalf
  lamps : ∀ i : Fin 48, (t.fsu.lamps[i]).fixed = (u.fsu.lamps[i]).fixed
  drives : ∀ i : Fin 32, (t.fsu.drives[i]).fixed = (u.fsu.drives[i]).fixed
  outputs : t.OutputsFollow
  counts : t.acu = u.acu
  points : t.pcu = u.pcu
  locks : t.lku = u.lku
  pool : t.rtp = u.rtp
  loader : t.sld = u.sld
  presented : ∀ g : Fin 16, (t.asu.signals[g]).presented = (u.asu.signals[g]).presented
  kept : ∀ g : Fin 16, (t.asu.signals[g]).kept = t.shown g
  stray : ∀ (g : Fin 16) (l : Lamp), (t.lampRec g l).stray = (u.lampRec g l).stray
  failed : ∀ (g : Fin 16) (l : Lamp),
    (t.lampRec g l).failed = ((u.lampRec g l).failed && !b.lampRestored t g l)
  faults : ∀ c : Condition, c ∈ t.cmu.faults ↔ c ∈ u.cmu.faults ∧
    ¬∃ (g : Fin 16) (l : Lamp), b.lampRestored t g l = true ∧ c = ⟨.lampFailed, lampElement g l⟩
  timers : ∀ (g : Fin 16) (l : Lamp),
    (t.lampRec g l).failureTimer =
      (u.lampRec g l).failureTimer.follow (b.darkDriven g l) (t.darkDriven g l) ∧
    (t.lampRec g l).strayTimer =
      (u.lampRec g l).strayTimer.follow (b.litUndriven g l) (t.litUndriven g l) ∧
    (t.lampRec g l).strayClearTimer =
      (u.lampRec g l).strayClearTimer.follow (b.strayDark g l) (t.strayDark g l)
  commands : t.cmu.queue = u.cmu.queue ∧ t.cmu.pendingReset = u.cmu.pendingReset ∧
    t.cmu.displayPeriod = u.cmu.displayPeriod
  lines : t.slu.classOne = u.slu.classOne ∧ t.slu.lineA = u.slu.lineA ∧ t.slu.lineB = u.slu.lineB ∧
    t.slu.neighbourWindows = u.slu.neighbourWindows ∧ t.slu.panelWindows = u.slu.panelWindows ∧
    t.slu.panelSilence = u.slu.panelSilence
  neighbours : t.hou.neighbours = u.hou.neighbours
  offers : t.hou.offers = u.hou.offers ∧ t.hou.lastId = u.hou.lastId
  portions : ∀ p : Fin 16, t.hou.portions[p] =
    if b.redsOf t p then
      { u.hou.portions[p] with state := (u.hou.portions[p]).state.proved (t.portionProves p) }
    else u.hou.portions[p]
  grants : ∀ k : Fin 8, t.hou.grants[k] = (u.hou.grants[k]).map fun x =>
    if b.redUsed t x then { x with proven := t.entryProven x.used } else x

/-- The content of the STATUS has changed in RUN across an event (R146). -/
abbrev State.statusMoved (b t : State) : Prop :=
  b.sld.station = .run ∧ t.sld.station = .run ∧ b.statusContent ≠ t.statusContent

/-- The content of a page has changed in RUN across an event; any change of the fault set is one of
page 1 (R164, R165). -/
abbrev State.pageMoved (b t : State) (page : Page) : Prop :=
  b.sld.station = .run ∧ t.sld.station = .run ∧
    match page with
    | .zero => b.pageZeroContent ≠ t.pageZeroContent
    | .one => b.pageOneContent ≠ t.pageOneContent ∨ b.cmu.faults ≠ t.cmu.faults

/-- The slot of a page (R134). -/
def State.pageSlot (s : State) : Page → Option TxItem
  | .zero => s.slu.displayZero
  | .one => s.slu.displayOne

/-- The slot and the times of STATUS are in `t` as in `u`. -/
structure SameStatus (u t : State) : Prop where
  slot : t.slu.statusSlot = u.slu.statusSlot
  period : t.hou.statusPeriod = u.hou.statusPeriod
  pacing : t.hou.statusPacing = u.hou.statusPacing
  change : t.hou.statusChange = u.hou.statusChange

/-- A STATUS with the content of `t` stands in its slot, with the number that `u` had next, which is
the one after those of the telegrams that the command's own effect has placed (DESIGN CHOICE, log
12); its times begin (R133, R146). -/
structure StatusPlaced (u t : State) : Prop where
  slot : ∃ i, t.slu.statusSlot = some i ∧ i.telegram.payload = .status t.statusContent ∧
    i.telegram.dest = 31 ∧ i.telegram.seq = u.slu.counter ∧
    some i.telegram.source = u.sld.ownAddress
  period : t.hou.statusPeriod = .startMs t.config.statusPeriod
  pacing : t.hou.statusPacing = .startMs 50
  change : t.hou.statusChange = false

/-- All that may follow in the same event once the command's own effect has left the records as in
`u`: its consequences, and a STATUS and a page for a change of content in RUN, placed at once, or
left for the end of the 50 ms or 100 ms where these run (R146, R165). That the telegrams of the
command's own effect take their numbers first, and then the STATUS, is log 12. -/
structure RestOfEvent (b u t : State) : Prop extends Consequences b u t where
  statusStays : ¬b.statusMoved t → SameStatus u t
  statusWaits : b.statusMoved t → u.hou.statusPacing.isRunning = true →
    SameStatus { u with hou := { u.hou with statusChange := true } } t
  statusPlaced : b.statusMoved t → u.hou.statusPacing.isRunning = false →
    t.sld.ownAddress ≠ none → StatusPlaced u t
  pageStays : ∀ page : Page, ¬b.pageMoved t page →
    t.pageSlot page = u.pageSlot page ∧ t.pageTimes page = u.pageTimes page
  pageWaits : ∀ page : Page, b.pageMoved t page → (u.pageTimes page).pacing.isRunning = true →
    t.pageSlot page = u.pageSlot page ∧ t.pageTimes page = { u.pageTimes page with change := true }
  pagePlaced : ∀ page : Page, b.pageMoved t page → (u.pageTimes page).pacing.isRunning = false →
    (∃ i, t.pageSlot page = some i ∧ i.telegram.payload = t.pagePayload page ∧
      i.telegram.dest = 31) ∧ t.pageTimes page = ⟨.startMs 100, false⟩
  numbers : ∃ n : Nat, n ≤ 3 ∧ t.slu.counter = u.slu.counter + BitVec.ofNat 8 n ∧
    t.slu.placings = u.slu.placings + n ∧
    (¬b.statusMoved t → (∀ page, ¬b.pageMoved t page) → n = 0)

/-! ## Hypotheses of telegram and queue rows -/

/-- A collected frame passes checks 1 to 6 of R138, so that it is accepted: its payload and its
source. -/
abbrev Accepts (s : State) (kind : Byte) (f : Frame) (src : Source) (p : Payload) : Prop :=
  screened s kind f = some (src, f.code, p) ∧ f.seq ∉ s.window src

/-- The records after the acceptance of a frame from a source, before the delivery of its payload
(R139, R141, R142). -/
def State.received (s : State) (src : Source) (f : Frame) : State :=
  ((s.goodTelegram f.line).hearFrom src).acceptFrom src f

/-- The telegram rows: the kind a row stands for, and the frame it carries. -/
def telegramRow : Instr → Option (Byte × Frame)
  | .command f => some (kindCommand, f)
  | .status f => some (kindStatus, f)
  | .portionRequest f => some (kindPortionRequest, f)
  | .portionGrant f => some (kindPortionGrant, f)
  | .portionRefuse f => some (kindPortionRefuse, f)
  | .portionRelease f => some (kindPortionRelease, f)
  | .flankRequest f => some (kindFlankRequest, f)
  | .flankGrant f => some (kindFlankGrant, f)
  | .flankRefuse f => some (kindFlankRefuse, f)
  | .flankRelease f => some (kindFlankRelease, f)
  | .sectionReset f => some (kindSectionReset, f)
  | .discardedTelegram kind f => some (kind, f)
  | _ => none

/-- The CMU can take a command of a code now: RUN, and it stands at the head of the queue (R160). -/
abbrev Takes (s : State) (code : Byte) (c : QueuedCommand) (rest : List QueuedCommand) : Prop :=
  s.sld.station = .run ∧ s.cmu.queue = c :: rest ∧ c.code = code

/-- The records after the taking, before the command is worked. -/
def State.taken (s : State) (rest : List QueuedCommand) : State :=
  { s with cmu := { s.cmu with queue := rest } }

/-- A command refused: the COMMAND_RESULT with its reason, and nothing else (R161). -/
def State.refused (s : State) (c : QueuedCommand) (why : Reason) : State :=
  s.toPanel c.panel (.commandResult c.seq c.code 1 why.code)

/-- A command answered DONE (R161), after the telegrams that its working places (log 12). -/
def State.done (s : State) (c : QueuedCommand) : State :=
  s.toPanel c.panel (.commandResult c.seq c.code 0 0)

/-- The pair of filtered values a phase stands for; none for FAULTED (R17). -/
def Phase.pair : Phase → Option (Bool × Bool)
  | .idle => some (false, false)
  | .aFirst => some (true, false)
  | .aBoth => some (true, true)
  | .aLeaving => some (false, true)
  | .bFirst => some (false, true)
  | .bBoth => some (true, true)
  | .bLeaving => some (true, false)
  | .faulted => none

/-- A timer of the 100 ms base started at time `t0`, `k` sampling intervals later (R1). -/
def timerAfter (t : Timer) (t0 : Nat) : Nat → Timer
  | 0 => t
  | k + 1 =>
    if baseInstant (t0 + k + 1) then (timerAfter t t0 k).tick else timerAfter t t0 k

/-! ## What a setting event takes, and what a release gives back -/

/-- A telegram to a neighbour with the address it goes to; none where that one is not configured. -/
def addressed (cfg : ZoneConfig) (n : Fin 4) (p : Payload) : List (Payload × Byte) :=
  (cfg.neighbours[n]).toList.map fun c => (p, c.address)

/-- Telegrams stand at the tail of the class-1 queue in their order, each with the next number;
those that found 16 waiting were dropped (R133, R134). -/
def Queued (s t : State) (telegrams : List (Payload × Byte)) : Prop :=
  ∃ new, t.slu.classOne = s.slu.classOne ++ new ∧
    new.map (fun i => (i.telegram.payload, i.telegram.dest)) =
      telegrams.take (16 - s.slu.classOne.length) ∧
    ∀ (i : Nat) (x : TxItem), new[i]? = some x → x.telegram.seq = s.slu.counter + BitVec.ofNat 8 i

/-- Some entry of a list of flank entries has an element. -/
abbrev NamesElement (cfg : ZoneConfig) (entries : List (Fin 48)) (x : FlankElement) : Prop :=
  ∃ e ∈ entries, elementOf cfg e = some x

/-- The flank entries of a held-flank set (R120). -/
def Hold.entries (h : Hold) : List (Fin 48) := h.flank.map (·.entry)

/-- Each distinct point and position, and each distinct signal, that the entries name is counted
once more; no other count changes (R71, R125). -/
def FlankAdded (entries : List (Fin 48)) (s t : State) : Prop :=
  (∀ (p : Fin 16) (q : Position), (t.lku.points[p]).claims q = (s.lku.points[p]).claims q +
    if NamesElement s.config entries (.point p q) then 1 else 0) ∧
  ∀ g : Fin 16, (t.lku.signals[g]).holds = (s.lku.signals[g]).holds +
    if NamesElement s.config entries (.signal g) then 1 else 0

/-- Each distinct point and position, and each distinct signal, that the entries name is counted
once less; no other count changes (R71, R126). -/
def FlankRemoved (entries : List (Fin 48)) (s t : State) : Prop :=
  (∀ (p : Fin 16) (q : Position), (t.lku.points[p]).claims q = (s.lku.points[p]).claims q -
    if NamesElement s.config entries (.point p q) then 1 else 0) ∧
  ∀ g : Fin 16, (t.lku.signals[g]).holds = (s.lku.signals[g]).holds -
    if NamesElement s.config entries (.signal g) then 1 else 0

/-- A move request toward its position has reached every listed point that was not at rest there, by
the state of its controller; a point that is not listed is as it was (R58, R59, R81). Of a point
that is listed in both positions, which no accepted image allows, it says nothing. -/
def MovesRequested (points : List (Fin 16 × Position)) (s t : State) : Prop :=
  ∀ p : Fin 16, ((∀ q, (p, q) ∉ points) → t.pcu.points[p] = s.pcu.points[p]) ∧
    ∀ q : Position, (p, q) ∈ points → (p, q.other) ∉ points →
      let old := s.pcu.points[p]
      let new := t.pcu.points[p]
      let there := old.detected = detectedAt q
      (old.controller = .rest → there → new = old) ∧
      (old.controller = .failed → there → new = { old with controller := .rest, chg := true }) ∧
      (old.controller = .rest ∨ old.controller = .failed → ¬there →
        new = { old with
          controller := .moving q, chg := true, move := .start (10 * moveLimit s.config p),
          settle := .stopped, held := new.held } ∧ (old.held = none → new.held = none)) ∧
      (old.controller = .moving q → new = { old with held := none }) ∧
      (old.controller = .moving q.other → new = { old with held := some q })

/-- The offer id that follows another: the next number that no record of the table holds (R148). -/
def State.IdFollows (s : State) (last id : Byte) : Prop :=
  let held := fun (x : Byte) => ∃ k : Fin 8, (s.hou.offers[k]).any (·.id == x) = true
  ∃ d : Fin 10, 1 ≤ d.val ∧ id = last + BitVec.ofNat 8 d.val ∧ ¬held id ∧
    ∀ e : Fin 10, 1 ≤ e.val → e < d → held (last + BitVec.ofNat 8 e.val)

/-- The telegram that a remote request places under an offer id (R125, R148). -/
def RemoteRequest.telegram (w : RemoteRequest) (id : Byte) : Payload :=
  match w.kind with
  | .portion => .portionRequest w.target id
  | .flank => .flankRequest id w.code w.target

/-- A setting event of a route has made one offer record for each remote request: SENT under the
next ids, in records that were free, with no resend used and the reply timer started; the route's
offer references name them in order, and the last id is the last given out; no other record changes
(R81, R125, R148). -/
def OffersMade (r : Fin 64) (wanted : List RemoteRequest) (ids : List Byte) (s t : State) : Prop :=
  let records := (t.lku.routes[r]).offers
  ids.length = wanted.length ∧ records.length = wanted.length ∧
  t.hou.lastId = ids.getLastD s.hou.lastId ∧
  (∀ k : Fin 8, k ∉ records → t.hou.offers[k] = s.hou.offers[k]) ∧
  ∀ (i : Fin 8) (k : Fin 8) (w : RemoteRequest) (id : Byte), records[i.val]? = some k →
    wanted[i.val]? = some w → ids[i.val]? = some id →
    s.IdFollows ((s.hou.lastId :: ids).getD i.val 0) id ∧ s.hou.offers[k] = none ∧
    ∃ o, t.hou.offers[k] = some o ∧
      o = ⟨id, w.kind, w.neighbour, w.target, w.code, r, .sent, 0, o.reply⟩ ∧
      ∀ c, s.config.neighbours[w.neighbour] = some c → o.reply = .start c.replyTime

/-- A route has given up its pool reference: its queue place is gone, or its timer is free or goes
to the head of the queue with that route's full duration (R116). -/
def PoolGivenUp (r : Fin 64) (s t : State) : Prop :=
  ((s.lku.routes[r]).pool = .none → t.rtp = s.rtp) ∧
  ((s.lku.routes[r]).pool = .queued →
    t.rtp = { s.rtp with queue := s.rtp.queue.filter fun x => x ≠ r }) ∧
  ∀ k : Fin 16, (s.lku.routes[r]).pool = .timer k →
    (s.rtp.queue = [] → t.rtp = { s.rtp with timers := upd s.rtp.timers k fun _ => none }) ∧
    ∀ x xs, s.rtp.queue = x :: xs → t.rtp.queue = xs ∧
      t.rtp.timers = (upd s.rtp.timers k fun _ => some ⟨x, .start (s.poolDuration x)⟩) ∧
      (x ≠ r → (t.lku.routes[x]).pool = .timer k)

/-! ## The configuration image: where its fields lie, and what refuses it -/

/-- A byte of the image, as a number. -/
def octet (bs : List Byte) (j : Nat) : Nat := (bs.getD j 0).toNat

/-- A two-byte number of the image, most significant byte first (log 8). -/
def octetPair (bs : List Byte) (j : Nat) : Nat := octet bs j * 256 + octet bs (j + 1)

/-- The records of a table: its directory entry gives their offset and their count, and the fields
of each record are read from its bytes (R172). -/
def recordsAt {α : Type} (bs : List Byte) (t size : Nat) (read : (Nat → Nat) → α) : List α :=
  (List.range (octet bs (13 + 3 * t))).map fun k =>
    read fun j => octet bs (octetPair bs (11 + 3 * t) + k * size + j)

/-- A count and its slots, in a record (R172). -/
def storedList (f : Nat → Nat) (j slots : Nat) : RawList :=
  ⟨f j, (List.range slots).map fun n => f (j + 1 + n)⟩

/-- A count and its pairs, in a record (R172). -/
def storedPairs (f : Nat → Nat) (j pairs : Nat) : RawPairs :=
  ⟨f j, (List.range pairs).map fun n => (f (j + 1 + 2 * n), f (j + 1 + 2 * n + 1))⟩

/-- The fields of an image stand where R172 lays them (two-byte numbers log 8, bits and bytes in no
field log 9). -/
structure ImageLayout (bs : List Byte) (i : RawImage) : Prop where
  header : i.ownAddress = octet bs 6 ∧ i.statusPeriod = octetPair bs 7 ∧
    i.displayPeriod = octetPair bs 9 ∧
    i.counts = (List.range 13).map fun t => octet bs (13 + 3 * t)
  inputs : i.inputs = recordsAt bs 0 5 fun f =>
    ⟨f 0, f 1, f 2, f 3, decide (128 ≤ f 4), f 4 % 32⟩
  outputs : i.outputs = recordsAt bs 1 6 fun f => ⟨f 0, f 1, f 2, f 3, f 4, f 5⟩
  heads : i.heads = recordsAt bs 2 2 fun f => ⟨f 0, f 1⟩
  sections : i.sections = recordsAt bs 3 12 fun f => ⟨f 0, f 1, f 2, f 3,
    (List.range 4).map fun n =>
      ⟨decide (128 ≤ f (4 + 2 * n)), f (4 + 2 * n) % 32, f (5 + 2 * n)⟩⟩
  remoteHeads : i.remoteHeads = recordsAt bs 4 3 fun f => ⟨f 0, f 1, f 2⟩
  boundary : i.boundary = recordsAt bs 5 4 fun f => ⟨f 0, f 1, f 2, f 3⟩
  points : i.points = recordsAt bs 6 4 fun f => ⟨f 0, f 1, f 2, f 3⟩
  signals : i.signals = recordsAt bs 7 2 fun f => ⟨f 0, f 1⟩
  routes : i.routes = recordsAt bs 8 55 fun f =>
    { number := f 0, cls := f 1, entry := f 2, exitKind := f 3, exitNumber := f 4
      path := storedList f 5 8, points := storedPairs f 14 8
      overlap := storedList f 31 2, overlapPoints := storedPairs f 34 2
      approach := storedList f 39 3, flank := storedList f 43 6
      neighbour := f 50, portion := f 51
      settingLimit := f 52, approachTime := f 53, overlapTime := f 54 }
  flank : i.flank = recordsAt bs 9 6 fun f =>
    ⟨f 0, f 1 % 128, decide (128 ≤ f 1), f 2, f 3, f 4⟩
  portions : i.portions = recordsAt bs 10 42 fun f =>
    { number := f 0, neighbour := f 1
      path := storedList f 2 6, points := storedPairs f 9 8
      overlap := storedList f 26 2, overlapPoints := storedPairs f 29 2
      flank := storedList f 34 6, exit := f 41 }
  neighbours : i.neighbours = recordsAt bs 11 7 fun f =>
    ⟨f 0, f 1, f 2 * 256 + f 3, f 4, f 5, f 6⟩
  panels : i.panels = recordsAt bs 12 3 fun f => ⟨f 0, f 1 * 256 + f 2⟩

/-- A remote head of a neighbour bounds a section. -/
def RawImage.BoundedBy (i : RawImage) (r : RawSection) (n : Nat) : Prop :=
  ∃ b ∈ r.bounds, b.remote = true ∧ ∃ h ∈ i.remoteHeads, h.entry = b.index ∧ h.neighbour = n

/-- A section number is that of a boundary section bounded by remote heads of a neighbour. -/
def RawImage.BoundarySection (i : RawImage) (k n : Nat) : Prop :=
  ∃ r ∈ i.sections, r.number = k ∧ i.BoundedBy r n

/-- Numbers of one table of which two are equal, or one is out of range (R172). -/
def Misnumbered (numbers : List Nat) (bound : Nat) : Prop :=
  ¬numbers.Nodup ∨ ∃ k ∈ numbers, bound ≤ k

/-- A list with a count beyond its bounds, or an item that is not configured. -/
def RawList.Broken (l : RawList) (least most : Nat) (configured : List Nat) : Prop :=
  l.count < least ∨ most < l.count ∨ ∃ k ∈ l.items, k ∉ configured

/-- A list of points and positions with a count beyond its slots, a point that is not configured, or
a byte that is no position. -/
def RawPairs.Broken (l : RawPairs) (most : Nat) (i : RawImage) : Prop :=
  most < l.count ∨ ∃ p ∈ l.items, p.1 ∉ i.points.map (·.number) ∨ 1 < p.2

/-- A point whose track section is not among sections. -/
def RawImage.OffPath (i : RawImage) (path : List Nat) (p : Nat) : Prop :=
  ¬∃ q ∈ i.points, q.number = p ∧ q.track ∈ path

/-- An input with a field outside its values, or a role of an element that is not configured. -/
def RawImage.InputBroken (i : RawImage) (r : RawInput) : Prop :=
  1 < r.cls ∨ (r.cls = 0 ∧ 48 ≤ r.number) ∨ (r.cls = 1 ∧ 80 ≤ r.number) ∨ 7 < r.role ∨
    (r.role ∈ [1, 2] ∧ r.element ∉ i.heads.map (·.number)) ∨
    (r.role ∈ [3, 4] ∧ r.element ∉ i.points.map (·.number)) ∨
    (r.role ∈ [5, 6, 7] ∧ r.element ∉ i.signals.map (·.number))

/-- An output with a field outside its values, or a role of an element that is not configured. -/
def RawImage.OutputBroken (i : RawImage) (r : RawOutput) : Prop :=
  1 < r.cls ∨ (r.cls = 0 ∧ 48 ≤ r.number) ∨ (r.cls = 1 ∧ 32 ≤ r.number) ∨ 5 < r.role ∨
    1 < r.code ∨ 1 < r.safe ∨ (r.role ∈ [1, 2, 3] ∧ r.element ∉ i.signals.map (·.number)) ∨
    (r.role ∈ [4, 5] ∧ r.element ∉ i.points.map (·.number))

/-- Numbers, fields and roles of the inputs, outputs and elements (R172), the pairing of the station
(R132), the boundary map and the remote head table, and the track section of a point (R54). -/
def RawImage.ElementsBroken (i : RawImage) : Prop :=
  let neighbours := i.neighbours.map (·.index)
  let addresses := i.ownAddress :: (i.neighbours.map (·.address) ++ i.panels.map (·.address))
  ¬(i.inputs.map fun r => (r.cls, r.number)).Nodup ∨
  ¬(i.outputs.map fun r => (r.cls, r.number)).Nodup ∨
  Misnumbered (i.heads.map (·.number)) 24 ∨ Misnumbered (i.sections.map (·.number)) 32 ∨
  Misnumbered (i.remoteHeads.map (·.entry)) 8 ∨ Misnumbered (i.boundary.map (·.entry)) 32 ∨
  Misnumbered (i.points.map (·.number)) 16 ∨ Misnumbered (i.signals.map (·.number)) 16 ∨
  Misnumbered (i.routes.map (·.number)) 64 ∨
  Misnumbered (i.flank.map (·.entry)) 48 ∨ Misnumbered (i.portions.map (·.number)) 16 ∨
  Misnumbered neighbours 4 ∨
  (∃ r ∈ i.inputs, i.InputBroken r) ∨ (∃ r ∈ i.outputs, i.OutputBroken r) ∨
  (∃ a ∈ addresses, a = 0 ∨ 30 < a) ∨ ¬addresses.Nodup ∨
  (∃ n ∈ i.neighbours, n.code = 0 ∨ 3 < n.policy ∨ ∃ m ∈ i.neighbours, m.code ≠ n.code) ∨
  (∃ p ∈ i.panels, p.code = 0 ∨ ∃ q ∈ i.panels, q.code ≠ p.code) ∨
  (∃ r ∈ i.heads, 1 < r.reported) ∨ (∃ r ∈ i.signals, 1 < r.reported) ∨
  (∃ r ∈ i.remoteHeads, r.neighbour ∉ neighbours ∨ 24 ≤ r.head) ∨
  (∃ b ∈ i.boundary, b.neighbour ∉ neighbours ∨ 2 < b.kind ∨ (b.kind = 0 ∧ 32 ≤ b.number) ∨
    (b.kind ≠ 0 ∧ 16 ≤ b.number)) ∨
  ∃ p ∈ i.points, p.track ∉ i.sections.map (·.number) ∨ 1 < p.individual

/-- What R24 and R42 refuse of one section. -/
def RawImage.SectionBroken (i : RawImage) (r : RawSection) : Prop :=
  r.count < 1 ∨ 4 < r.count ∨
    (∃ b ∈ r.bounds, (b.remote = true ∧ b.index ∉ i.remoteHeads.map (·.entry)) ∨
      (b.remote = false ∧ b.index ∉ i.heads.map (·.number)) ∨
      (b.orientation ≠ 1 ∧ b.orientation ≠ 255)) ∨
    ¬(r.bounds.map fun b => (b.remote, b.index)).Nodup ∨
    (32 ≤ r.neighbourNumber ∧ r.neighbourNumber ≠ 255) ∨
    ((∃ b ∈ r.bounds, b.remote = true) ∧ r.neighbourNumber = 255) ∨
    (∃ m n, i.BoundedBy r m ∧ i.BoundedBy r n ∧ m ≠ n) ∨ 4 < r.owner ∨
    (r.owner ≠ 0 ∧ ¬i.BoundedBy r (r.owner - 1))

/-- What R24 and R42 refuse of the sections: one of them, or a head that bounds more than two. -/
def RawImage.SectionsBroken (i : RawImage) : Prop :=
  (∃ r ∈ i.sections, i.SectionBroken r) ∨
  ∃ b : Bool × Nat,
    2 < (i.sections.filter fun r => b ∈ r.bounds.map fun b => (b.remote, b.index)).length

/-- What R69 refuses of a route, but for its times; the portion number of a route without a portion
request is not tested (log 43). -/
def RawImage.RouteBroken (i : RawImage) (r : RawRoute) : Prop :=
  let sections := i.sections.map (·.number)
  let signals := i.signals.map (·.number)
  1 < r.cls ∨ r.entry ∉ signals ∨ 1 < r.exitKind ∨
    (r.exitKind = 0 ∧ (r.exitNumber ∉ signals ∨ r.exitNumber = r.entry)) ∨
    (r.exitKind = 1 ∧ ¬∃ b ∈ i.boundary, b.entry = r.exitNumber ∧ b.kind = 2 ∧
      b.neighbour = r.neighbour ∧ r.neighbour ≠ 255) ∨
    r.path.Broken 1 8 sections ∨ r.points.Broken 8 i ∨ r.overlap.Broken 0 2 sections ∨
    r.overlapPoints.Broken 2 i ∨ r.approach.Broken 0 3 sections ∨
    r.flank.Broken 0 6 (i.flank.map (·.entry)) ∨
    ¬(r.path.items ++ r.overlap.items ++ r.approach.items).Nodup ∨
    ¬((r.points.items ++ r.overlapPoints.items).map (·.1)).Nodup ∨
    (r.cls = 1 ∧ (r.overlap.count ≠ 0 ∨ r.overlapPoints.count ≠ 0)) ∨
    (∃ p ∈ r.points.items, i.OffPath r.path.items p.1) ∨
    (r.neighbour ≠ 255 ∧ (r.neighbour ∉ i.neighbours.map (·.index) ∨ 16 ≤ r.portion ∨
      ¬∃ k, r.path.items.getLast? = some k ∧ i.BoundarySection k r.neighbour))

/-- What R152 refuses of a hosted portion, but for its flank entries; the track sections of overlap
points are not tested (log 39). -/
def RawImage.PortionBroken (i : RawImage) (r : RawPortion) : Prop :=
  let sections := i.sections.map (·.number)
  r.neighbour ∉ i.neighbours.map (·.index) ∨
    r.exit ∉ i.signals.map (·.number) ∨
    r.path.Broken 1 6 sections ∨ r.points.Broken 8 i ∨ r.overlap.Broken 0 2 sections ∨
    r.overlapPoints.Broken 2 i ∨ r.flank.Broken 0 6 (i.flank.map (·.entry)) ∨
    ¬(r.path.items ++ r.overlap.items).Nodup ∨
    ¬((r.points.items ++ r.overlapPoints.items).map (·.1)).Nodup ∨
    (∃ p ∈ r.points.items, i.OffPath r.path.items p.1) ∨
    ¬∃ k, r.path.items.head? = some k ∧ i.BoundarySection k r.neighbour

/-- Fields and references of a flank table entry (R118, R172). -/
def RawImage.FlankBroken (i : RawImage) (r : RawFlank) : Prop :=
  2 < r.code ∨ 1 < r.requestable ∨
    (r.viaMap = true ∧ r.number ∉ i.boundary.map (·.entry)) ∨
    (r.viaMap = false ∧ r.code = 2 ∧ r.number ∉ i.signals.map (·.number)) ∨
    (r.viaMap = false ∧ r.code ≠ 2 ∧ r.number ∉ i.points.map (·.number)) ∨
    (r.substitute ≠ 255 ∧ r.substitute ∉ i.flank.map (·.entry))

/-- What R2 and R10 refuse: a role on the wrong class, a role bound twice, an element without one of
its roles. -/
def RawImage.BindingBroken (i : RawImage) : Prop :=
  (∃ r ∈ i.inputs, (r.role ∈ [1, 2] ∧ r.cls ≠ 0) ∨ (3 ≤ r.role ∧ r.cls = 0)) ∨
  (∃ r ∈ i.outputs, (r.role ∈ [1, 2, 3] ∧ r.cls ≠ 0) ∨ (4 ≤ r.role ∧ r.cls = 0)) ∨
  ¬((i.inputs.filter (·.role ≠ 0)).map fun r => (r.role, r.element)).Nodup ∨
  ¬((i.outputs.filter (·.role ≠ 0)).map fun r => (r.role, r.element)).Nodup ∨
  (∃ h ∈ i.heads, ∃ role ∈ [1, 2], ∀ r ∈ i.inputs, r.role = role → r.element ≠ h.number) ∨
  (∃ p ∈ i.points, (∃ role ∈ [3, 4], ∀ r ∈ i.inputs, r.role = role → r.element ≠ p.number) ∨
    ∃ role ∈ [4, 5], ∀ r ∈ i.outputs, r.role = role → r.element ≠ p.number) ∨
  ∃ g ∈ i.signals, (∃ role ∈ [5, 6, 7], ∀ r ∈ i.inputs, r.role = role → r.element ≠ g.number) ∨
    ∃ role ∈ [1, 2, 3], ∀ r ∈ i.outputs, r.role = role → r.element ≠ g.number

/-- A flank entry follows another in a chain: it is its substitute (R118). -/
def RawImage.Follows (i : RawImage) (e f : Nat) : Prop :=
  ∃ r ∈ i.flank, r.entry = e ∧ r.substitute = f ∧ f ≠ 255

/-- A flank entry is in the chain of one of the entries of a list (R118). -/
def RawImage.Reaches (i : RawImage) (entries : List Nat) (x : RawFlank) : Prop :=
  x ∈ i.flank ∧ ∃ e ∈ entries, x.entry = e ∨ i.Follows e x.entry ∨
    ∃ m, i.Follows e m ∧ i.Follows m x.entry

/-- A flank entry names a local point. -/
def RawFlank.NamesPoint (x : RawFlank) (p : Nat) : Prop :=
  x.viaMap = false ∧ x.code ≠ 2 ∧ x.number = p

/-- A flank entry names a local signal. -/
def RawFlank.NamesSignal (x : RawFlank) (g : Nat) : Prop :=
  x.viaMap = false ∧ x.code = 2 ∧ x.number = g

/-- Two boundary map entries name one element of one neighbour. -/
def RawImage.SameRemote (i : RawImage) (e f : Nat) : Prop :=
  ∃ b ∈ i.boundary, ∃ c ∈ i.boundary, b.entry = e ∧ c.entry = f ∧
    b.neighbour = c.neighbour ∧ b.kind = c.kind ∧ b.number = c.number

/-- What R83, R118 and R119 refuse of chains, flank lists and requestable entries. A chain that
returns on itself has a fourth entry as well. -/
def RawImage.ChainBroken (i : RawImage) : Prop :=
  (∃ r ∈ i.flank, ∃ a b c, i.Follows r.entry a ∧ i.Follows a b ∧ i.Follows b c) ∨
  (∃ r ∈ i.flank, r.viaMap = true ∧ ∃ b ∈ i.boundary, b.entry = r.number ∧ b.kind = 0) ∨
  (∃ r ∈ i.routes, ∃ x, i.Reaches r.flank.items x ∧ (x.NamesSignal r.entry ∨
    (r.exitKind = 0 ∧ x.NamesSignal r.exitNumber) ∨
    (r.exitKind = 1 ∧ x.viaMap = true ∧ i.SameRemote x.number r.exitNumber) ∨
    ∃ p ∈ r.points.items ++ r.overlapPoints.items, x.NamesPoint p.1)) ∨
  (∃ r ∈ i.portions, ∃ x, i.Reaches r.flank.items x ∧ (x.viaMap = true ∨ x.NamesSignal r.exit ∨
    ∃ p ∈ r.points.items ++ r.overlapPoints.items, x.NamesPoint p.1)) ∨
  (∃ r ∈ i.flank, r.requestable = 1 ∧ ∃ x, i.Reaches [r.entry] x ∧ x.viaMap = true) ∨
  ¬((i.flank.filter (·.requestable = 1)).map fun r => (r.code, r.number)).Nodup

/-- A safety time outside its range: a move limit, a setting limit, an approach release time, an
overlap release time (R54, R69). -/
def RawImage.TimesBroken (i : RawImage) : Prop :=
  (∃ p ∈ i.points, p.moveLimit ≠ 0 ∧ (p.moveLimit < 3 ∨ 15 < p.moveLimit)) ∨
  ∃ r ∈ i.routes, (r.settingLimit ≠ 0 ∧ (r.settingLimit < 5 ∨ 60 < r.settingLimit)) ∨
    r.approachTime < 10 ∨ 240 < r.approachTime ∨
    (r.overlapTime ≠ 0 ∧ (r.overlapTime < 5 ∨ 120 < r.overlapTime))

/-- What the bytes that the memory delivered are refused for, with each code (R170, R172). Which
code a field outside its values has, beside those that R170 names, is log 10. -/
def ImageRefused (delivered : List Byte) : ImageFault → Prop :=
  let length := octetPair delivered 4
  let bs := delivered.take length
  let i := rawImage bs
  fun why => match why with
  | .read => delivered.length < 7 ∨ delivered.length < length
  | .header => bs.take 4 ≠ [0x42, 0x34, 0x31, 0x36] ∨ length < 50 ∨ 8192 < length ∨
    ∃ t size, [5, 6, 2, 12, 3, 4, 4, 2, 55, 6, 42, 7, 3][t]? = some size ∧
      0 < octet bs (13 + 3 * t) ∧
      length < octetPair bs (11 + 3 * t) + octet bs (13 + 3 * t) * size + 4
  | .crc => ∃ j : Nat, j < 4 ∧ octet bs (length - 4 + j) ≠
    (crc32 (bs.take (length - 4))).toNat / 256 ^ j % 256
  | .count => (∃ t most, [128, 80, 24, 32, 8, 32, 16, 16, 64, 48, 16, 4, 2][t]? = some most ∧
      most < octet bs (13 + 3 * t)) ∨ i.panels = [] ∨
    8 < (i.heads.filter (·.reported = 1)).length ∨
    8 < (i.signals.filter (·.reported = 1)).length ∨
    8 < (i.sections.filter fun r => r.bounds.any (·.remote)).length
  | .reference => i.ElementsBroken ∨ i.SectionsBroken ∨ (∃ r ∈ i.routes, i.RouteBroken r) ∨
    (∃ r ∈ i.portions, i.PortionBroken r) ∨ ∃ r ∈ i.flank, i.FlankBroken r
  | .binding => i.BindingBroken
  | .safeState => ∃ r ∈ i.outputs, r.safe = 1 ∧ r.role ≠ 1
  | .flankChain => i.ChainBroken
  | .boundaryMap => ¬(i.boundary.map fun b => (b.neighbour, b.kind, b.number)).Nodup
  | .remoteHead => ¬(i.remoteHeads.map fun r => (r.neighbour, r.head)).Nodup
  | .safetyTime => i.TimesBroken
  | .stopped => False

/-! ## The tables an accepted image puts into effect -/

/-- A table lists the records of the image and no more, each at its number with the values that
`fits` asks for. -/
def Listed {α β : Type} {n : Nat} (table : Vector (Option β) n) (records : List α)
    (number : α → Nat) (fits : α → β → Prop) : Prop :=
  ∀ k : Fin n, (∀ r ∈ records, number r = k.val → ∃ x, table[k] = some x ∧ fits r x) ∧
    ((∀ r ∈ records, number r ≠ k.val) → table[k] = none)

/-- A value that is no safety time: 0 selects the default, and others are clamped to the nearest
limit of the range (R170). -/
def withinRange (default least most stored : Nat) : Nat :=
  if stored = 0 then default else max least (min most stored)

/-- Points and positions as the image stores them. -/
def storedPoints (l : List (Fin 16 × Position)) : List (Nat × Nat) :=
  l.map fun q => (q.1.val, if q.2 = .normal then 0 else 1)

/-- The lists that a route and a hosted portion have alike (R69, R152). -/
def PlanFits (path : RawList) (points : RawPairs) (overlap : RawList) (overlapPoints : RawPairs)
    (flank : RawList) (x : Plan) : Prop :=
  x.path.map (·.val) = path.items ∧ storedPoints x.points = points.items ∧
    x.overlap.map (·.val) = overlap.items ∧ storedPoints x.overlapPoints = overlapPoints.items ∧
    x.flank.map (·.val) = flank.items

/-- Every table in force is that of an image (R24, R31, R42, R54, R69, R118, R119, R132, R144, R146,
R152, R165, R170, R172). -/
structure TablesOf (i : RawImage) (c : ZoneConfig) : Prop where
  periods : c.statusPeriod = withinRange 200 100 1000 i.statusPeriod ∧
    c.displayPeriod = withinRange 500 200 2000 i.displayPeriod
  heads : Listed c.heads i.heads (·.number) fun r x => x = true ↔ r.reported = 1
  sections : Listed c.sections i.sections (·.number) fun r x =>
    x.bounds.map (fun b => (match b.head with
      | .localHead h => (false, h.val)
      | .remoteHead e => (true, e.val), b.plus)) =
      r.bounds.map (fun b => ((b.remote, b.index), decide (b.orientation = 1))) ∧
    x.owner.map (·.val + 1) = (if r.owner = 0 then none else some r.owner) ∧
    x.neighbourNumber.map (·.val) =
      if r.neighbourNumber = 255 then none else some r.neighbourNumber
  remoteHeads : Listed c.remoteHeads i.remoteHeads (·.entry) fun r x =>
    x.neighbour.val = r.neighbour ∧ x.head.val = r.head
  boundary : Listed c.boundary i.boundary (·.entry) fun r x =>
    x.neighbour.val = r.neighbour ∧
      [ElementKind.sect, .point, .signal][r.kind]? = some x.kind ∧ x.number.toNat = r.number
  points : Listed c.points i.points (·.number) fun r x =>
    x.track.val = r.track ∧ (x.individual = true ↔ r.individual = 1) ∧
      x.moveLimit = if r.moveLimit = 0 then 8 else r.moveLimit
  signals : Listed c.signals i.signals (·.number) fun r x => x = true ↔ r.reported = 1
  routes : Listed c.routes i.routes (·.number) fun r x =>
    (x.cls = .main ↔ r.cls = 0) ∧ x.entry.val = r.entry ∧
      PlanFits r.path r.points r.overlap r.overlapPoints r.flank x.plan ∧
      (match x.plan.exit with
        | .localSignal g => r.exitKind = 0 ∧ g.val = r.exitNumber
        | .remoteSignal e => r.exitKind = 1 ∧ e.val = r.exitNumber) ∧
      x.approach.map (·.val) = r.approach.items ∧
      x.request.map (fun q => (q.1.val, q.2.val)) =
        (if r.neighbour = 255 then none else some (r.neighbour, r.portion)) ∧
      x.settingLimit = (if r.settingLimit = 0 then 20 else r.settingLimit) ∧
      x.approachTime = r.approachTime ∧ x.overlapTime = r.overlapTime
  flank : Listed c.flank i.flank (·.entry) fun r x =>
    (match x.element with
      | .point p q => r.viaMap = false ∧ r.number = p.val ∧ r.code = if q = .normal then 0 else 1
      | .signal g => r.viaMap = false ∧ r.number = g.val ∧ r.code = 2
      | .remotePoint e q =>
        r.viaMap = true ∧ r.number = e.val ∧ r.code = if q = .normal then 0 else 1
      | .remoteSignal e => r.viaMap = true ∧ r.number = e.val ∧ r.code = 2) ∧
      x.substitute.map (·.val) = (if r.substitute = 255 then none else some r.substitute) ∧
      (x.requestable = true ↔ r.requestable = 1)
  portions : Listed c.portions i.portions (·.number) fun r x =>
    x.requester.val = r.neighbour ∧
      PlanFits r.path r.points r.overlap r.overlapPoints r.flank x.plan ∧
      ∃ g : Fin 16, x.plan.exit = .localSignal g ∧ g.val = r.exit
  neighbours : Listed c.neighbours i.neighbours (·.index) fun r x =>
    x.address.toNat = r.address ∧ x.code.toNat = r.code ∧
      x.replyTime = withinRange 10 2 50 r.replyTime ∧
      x.silenceLimit = withinRange 15 5 25 r.silenceLimit ∧
      [ReplyPolicy.wait, .resend, .drop, .block][r.policy]? = some x.policy
  panels : ∀ k : Fin 2, (∀ r, i.panels[k.val]? = some r → ∃ x, c.panels[k] = some x ∧
      x.address.toNat = r.address ∧ x.code.toNat = r.code) ∧
    (i.panels[k.val]? = none → c.panels[k] = none)

/-! ## Records dropped, silence -/

/-- A record of the offer table is SENT to a neighbour (R148). -/
abbrev State.Sent (s : State) (n : Fin 4) (k : Fin 8) (o : Offer) : Prop :=
  s.hou.offers[k] = some o ∧ o.neighbour = n ∧ o.state = .sent

/-- A route in SETTING that owns a record SENT to a neighbour: it fails setting with that record
(R87, R150, R156). -/
def State.FailsWith (s : State) (n : Fin 4) (r : Fin 64) : Prop :=
  (s.lku.routes[r]).state = .setting ∧ ∃ (k : Fin 8) (o : Offer), s.Sent n k o ∧ o.route = r

/-- The holder of an element before and after the full release of the routes that fail (R86). -/
def Freed (fails : Fin 64 → Prop) (a b : Option Holder) : Prop :=
  (b = none ∧ ∃ (r : Fin 64) (role : Role), a = some ⟨.route r, role⟩ ∧ fails r) ∨
    (b = a ∧ ∀ (r : Fin 64) (role : Role), a = some ⟨.route r, role⟩ → ¬fails r)

/-- Every record SENT to a neighbour has been removed between two states, each with its release
placed where the class-1 queue has room, and its route has failed setting: the other records it
referenced are gone, its holders, its claims and holds are given back; nothing but releases of
removed records is placed; no other route has changed its state, set or pool reference, and the pool
stays where no route that fails had a reference to it (R71, R86, R87, R126, R150, R151, R156). -/
structure SentDropped (n : Fin 4) (s t : State) : Prop where
  gone : ∀ (k : Fin 8) (o : Offer), s.Sent n k o → t.hou.offers[k] = none
  queue : s.slu.classOne <+: t.slu.classOne
  released : ∀ (k : Fin 8) (o : Offer) (c : NeighbourCfg), s.Sent n k o →
    s.config.neighbours[n] = some c → t.slu.classOne.length < 16 →
    ∃ i, i ∈ t.slu.classOne.drop s.slu.classOne.length ∧ i.telegram.payload = o.release ∧
      i.telegram.dest = c.address
  fails : ∀ r : Fin 64, s.FailsWith n r → (t.lku.routes[r]).state = .idle ∧
    (t.lku.routes[r]).setting = .stopped ∧ (t.lku.routes[r]).offers = [] ∧
    (t.lku.routes[r]).hold = Hold.idle (idleOverlap s.config (.route r)) ∧
    ∀ k, k ∈ (s.lku.routes[r]).offers → t.hou.offers[k] = none
  only : ∀ i, i ∈ t.slu.classOne.drop s.slu.classOne.length → ∃ (k : Fin 8) (o : Offer),
    s.hou.offers[k] = some o ∧ t.hou.offers[k] = none ∧ i.telegram.payload = o.release
  counts : ∃ rs : List (Fin 64), rs.Nodup ∧ (∀ r, r ∈ rs ↔ s.FailsWith n r) ∧
    let lost := fun (x : FlankElement) =>
      (rs.filter fun r => NamesElement s.config (s.lku.routes[r]).hold.entries x).length
    (∀ (p : Fin 16) (q : Position),
      (t.lku.points[p]).claims q = (s.lku.points[p]).claims q - lost (.point p q)) ∧
    ∀ g : Fin 16, (t.lku.signals[g]).holds = (s.lku.signals[g]).holds - lost (.signal g)
  pool : (∀ r : Fin 64, s.FailsWith n r → (s.lku.routes[r]).pool = .none) →
    t.rtp = s.rtp ∧ ∀ r : Fin 64, (t.lku.routes[r]).pool = (s.lku.routes[r]).pool
  lastId : t.hou.lastId = s.hou.lastId
  stays : ∀ r : Fin 64, ¬s.FailsWith n r → (t.lku.routes[r]).state = (s.lku.routes[r]).state ∧
    (t.lku.routes[r]).setting = (s.lku.routes[r]).setting ∧
    (t.lku.routes[r]).hold.status = (s.lku.routes[r]).hold.status ∧
    (t.lku.routes[r]).hold.overlap = (s.lku.routes[r]).hold.overlap ∧
    (t.lku.routes[r]).hold.entries = (s.lku.routes[r]).hold.entries ∧
    (t.lku.routes[r]).note = (s.lku.routes[r]).note
  sections : ∀ k : Fin 32,
    Freed (s.FailsWith n) (s.lku.sections[k]).holder (t.lku.sections[k]).holder ∧
    (t.lku.sections[k]).blocked = (s.lku.sections[k]).blocked
  points : ∀ p : Fin 16,
    Freed (s.FailsWith n) (s.lku.points[p]).holder (t.lku.points[p]).holder ∧
    (t.lku.points[p]).blocked = (s.lku.points[p]).blocked
  signals : ∀ g : Fin 16,
    Freed (s.FailsWith n) (s.lku.signals[g]).holder (t.lku.signals[g]).holder ∧
    (t.lku.signals[g]).blocked = (s.lku.signals[g]).blocked

/-- A section of a portion's path, or of its overlap while that is HELD, is bounded by a remote head
of a neighbour (R154). -/
def State.portionBounded (s : State) (n : Fin 4) (p : Fin 16) : Prop :=
  ∃ k : Fin 32, namesRemoteOf s.config n k = true ∧ (k ∈ pathOf s.config (.portion p) ∨
    ((s.holdOf (.portion p)).overlap = .held ∧ k ∈ overlapOf s.config (.portion p)))

/-- A portion in SETTING or PROVEN. -/
def PortionState.provable (x : PortionState) : Prop := x = .setting ∨ x = .proven

/-- The silence event of a neighbour has taken place between two states (R38, R87, R141, R156), with
the proving tests of R154. -/
structure Silenced (n : Fin 4) (s t : State) : Prop where
  record : t.hou.neighbours[n] =
    { s.hou.neighbours[n] with state := .silent, silence := .stopped, view := none }
  others : ∀ m : Fin 4, m ≠ n → t.hou.neighbours[m] = s.hou.neighbours[m]
  sent : SentDropped n s t
  offers : ∀ (k : Fin 8) (o : Offer), s.hou.offers[k] = some o → ¬s.Sent n k o →
    (∀ r, s.FailsWith n r → k ∉ (s.lku.routes[r]).offers) →
    t.hou.offers[k] = some (if o.neighbour = n ∧ o.state = .granted then
      { o with state := .unconfirmed } else o)
  unconfirmed : ∀ (k : Fin 8) (o : Offer), t.hou.offers[k] = some o → o.neighbour = n →
    o.state = .unconfirmed
  heads : t.acu.heads = s.acu.heads
  sections : ∀ k : Fin 32, t.acu.sections[k] =
    if namesRemoteOf s.config n k then (s.acu.sections[k]).latched
      { s.acu.sections[k] with state := .disturbed } else s.acu.sections[k]
  baselines : ∀ e : Fin 8, t.acu.baselines[e] =
    if (s.config.remoteHeads[e]).any (·.neighbour == n) then
      { s.acu.baselines[e] with valid := false }
    else s.acu.baselines[e]
  portions : ∀ p : Fin 16, t.hou.portions[p] = { s.hou.portions[p] with
    state := (t.hou.portions[p]).state
    orphan := (s.hou.portions[p]).orphan || ((s.hou.portions[p]).state != .idle &&
      (s.hou.portions[p]).requester.map (·.1) == some n && !(s.hou.portions[p]).released) }
  states : ∀ p : Fin 16,
    (¬(s.hou.portions[p]).state.provable → (t.hou.portions[p]).state = (s.hou.portions[p]).state) ∧
    ((s.hou.portions[p]).state.provable → (t.hou.portions[p]).state.provable ∧
      (s.portionBounded n p → ((t.hou.portions[p]).state = .proven ↔ t.portionProves p = true)))
  grants : ∀ k : Fin 8, (t.hou.grants[k]).map (fun g => { g with proven := false }) =
    (s.hou.grants[k]).map fun g =>
      { g with proven := false, orphan := g.orphan || g.requester == n }
  window : t.slu.neighbourWindows[n] = []
  windows : ∀ m : Fin 4, m ≠ n → t.slu.neighbourWindows[m] = s.slu.neighbourWindows[m]
  faults : ∀ c : Condition, c.kind ≠ .lampFailed → (c ∈ t.cmu.faults ↔ c ∈ s.cmu.faults)
  frame : t.pcu = s.pcu ∧ t.sld = s.sld ∧ t.config = s.config ∧ t.cmu.queue = s.cmu.queue ∧
    t.cmu.pendingReset = s.cmu.pendingReset ∧ t.fsu.contacts = s.fsu.contacts ∧
    t.fsu.sensors = s.fsu.sensors ∧ t.fsu.onHalf = s.fsu.onHalf ∧ t.OutputsFollow ∧
    t.slu.lineA = s.slu.lineA ∧ t.slu.lineB = s.slu.lineB ∧
    t.slu.panelWindows = s.slu.panelWindows ∧ t.slu.panelSilence = s.slu.panelSilence ∧
    t.pending = s.pending ∧ t.ticks = s.ticks ∧ t.pins = s.pins

/-- What a silence event leaves alone of what may then follow within the event: inputs and outputs,
signals, faults, queued commands, the slots and times of STATUS and of the pages. -/
def LeftAlone (s u : State) : Prop :=
  u.fsu = s.fsu ∧ u.asu = s.asu ∧ u.cmu = s.cmu ∧ SameStatus s u ∧
    u.slu.displayZero = s.slu.displayZero ∧ u.slu.displayOne = s.slu.displayOne

/-! ## Laws of the device -/

/-- State and count of a section are tied together (R25). -/
def SectionRec.tied (r : SectionRec) : Prop :=
  r.count ≤ 999 ∧
    match r.state with
    | .clear => r.count = 0
    | .occupied => 1 ≤ r.count
    | .prepared => r.count = 0
    | .sweeping => 1 ≤ r.count
    | .disturbed => True

/-- Every section record is tied (R25). -/
def State.SectionsTied (s : State) : Prop := ∀ k : Fin 32, (s.acu.sections[k]).tied

/-- The fault set holds each condition once, in the order of the fault list (R164). -/
def State.FaultsOrdered (s : State) : Prop :=
  s.cmu.faults.Pairwise fun c d => c.key < d.key

/-- A duplicate window: at most 8 numbers, none twice (R139). -/
def windowOk (w : List Byte) : Prop := w.length ≤ 8 ∧ w.Nodup

/-- The queues keep their sizes: 8 commands, 16 class-1 telegrams, 8 numbers a window (R134, R139,
R160). -/
def State.QueuesBounded (s : State) : Prop :=
  s.cmu.queue.length ≤ 8 ∧ s.slu.classOne.length ≤ 16 ∧
    (∀ n : Fin 4, windowOk s.slu.neighbourWindows[n]) ∧ ∀ p : Fin 2, windowOk s.slu.panelWindows[p]

/-- A route waits in the timer queue only while all 16 pool timers are in use (R115). -/
def State.PoolFullWhileWaiting (s : State) : Prop :=
  s.rtp.queue ≠ [] → ∀ k : Fin 16, (s.rtp.timers[k]).isSome

/-- The offer table: distinct ids (R148); no record SENT to a neighbour that is not ALIVE or is
BLOCKED (R150, R156), and none GRANTED by one that is not ALIVE (R156). -/
def State.OffersLawful (s : State) : Prop :=
  (∀ (k j : Fin 8) (o q : Offer), s.hou.offers[k] = some o → s.hou.offers[j] = some q →
    o.id = q.id → k = j) ∧
  ∀ (k : Fin 8) (o : Offer), s.hou.offers[k] = some o →
    (o.state = .sent → (s.hou.neighbours[o.neighbour]).state = .alive ∧
      (s.hou.neighbours[o.neighbour]).blocked = false) ∧
    (o.state = .granted → (s.hou.neighbours[o.neighbour]).state = .alive)

/-- Every offer reference of a route names a record that the route owns (R81, R148). -/
def State.OffersOwned (s : State) : Prop :=
  ∀ (r : Fin 64) (k : Fin 8), k ∈ (s.lku.routes[r]).offers →
    ∃ o, s.hou.offers[k] = some o ∧ o.route = r

/-- Every offer record belongs to a route that is not IDLE and has no path left behind it: it stands
once among the offer references of its route, and a route in IDLE or OVERLAP_HELD has none (R81,
R106, R148). -/
def State.OffersHeld (s : State) : Prop :=
  (∀ (k : Fin 8) (o : Offer), s.hou.offers[k] = some o →
    k ∈ (s.lku.routes[o.route]).offers ∧ (s.lku.routes[o.route]).state ≠ .idle) ∧
  ∀ r : Fin 64, (s.lku.routes[r]).offers.Nodup ∧
    ((s.lku.routes[r]).state = .idle ∨ (s.lku.routes[r]).state = .overlapHeld →
      (s.lku.routes[r]).offers = [])

/-- How many held-flank sets of routes, hosted portions and hosted flank grants name an element
(R71, R125, R127). -/
def State.setsNaming (s : State) (x : FlankElement) : Nat :=
  ((indices 64).filter fun r => NamesElement s.config (s.lku.routes[r]).hold.entries x).length +
    ((indices 16).filter fun p => NamesElement s.config (s.hou.portions[p]).hold.entries x).length +
    ((indices 8).filter fun k =>
      (s.hou.grants[k]).any fun g => elementOf s.config g.used == some x).length

/-- The counts of the lock table are those of the held-flank sets, each 0 to 15, and no point is
claimed in both positions (R71); the set of a route or portion in IDLE, or past the end of its path,
is empty (R120, R126). -/
def State.FlankCounted (s : State) : Prop :=
  (∀ (p : Fin 16) (q : Position), (s.lku.points[p]).claims q = s.setsNaming (.point p q) ∧
    (s.lku.points[p]).claims q ≤ 15) ∧
  (∀ p : Fin 16, (s.lku.points[p]).claimsN = 0 ∨ (s.lku.points[p]).claimsR = 0) ∧
  (∀ g : Fin 16, (s.lku.signals[g]).holds = s.setsNaming (.signal g) ∧
    (s.lku.signals[g]).holds ≤ 15) ∧
  (∀ r : Fin 64, (s.lku.routes[r]).state = .idle ∨ (s.lku.routes[r]).state = .overlapHeld →
    (s.lku.routes[r]).hold.flank = []) ∧
  ∀ p : Fin 16, (s.hou.portions[p]).state = .idle ∨ (s.hou.portions[p]).state = .overlapHeld →
    (s.hou.portions[p]).hold.flank = []

/-- While the station is not in RUN every route, hosted portion and hosted grant is gone, no element
is held, claimed or held at danger, no offer stands and the pool is free (R74, R114, R159). -/
def State.NothingOutsideRun (s : State) : Prop :=
  s.sld.station ≠ .run →
    (∀ r : Fin 64, (s.lku.routes[r]).state = .idle) ∧
    (∀ p : Fin 16, (s.hou.portions[p]).state = .idle) ∧
    (∀ k : Fin 8, s.hou.grants[k] = none ∧ s.hou.offers[k] = none) ∧
    (∀ k : Fin 32, (s.lku.sections[k]).holder = none) ∧
    (∀ p : Fin 16, (s.lku.points[p]).holder = none ∧ (s.lku.points[p]).claimsN = 0 ∧
      (s.lku.points[p]).claimsR = 0) ∧
    (∀ g : Fin 16, (s.lku.signals[g]).holder = none ∧ (s.lku.signals[g]).holds = 0) ∧
    (∀ k : Fin 16, s.rtp.timers[k] = none) ∧ s.rtp.queue = []

/-- The sections that a passage at a head changes: each that names the head in its bounding list
gets a step (R26). -/
def State.stepSections (s : State) (h : Fin 24) (forward : Bool) : State :=
  s.mapSections fun k r =>
    match orientationOf s.config k (.localHead h) with
    | none => r
    | some plus => r.change (if plus = forward then 1 else -1)

/-- The proving timers of a lamp run exactly while their conditions hold (R99, R101, R102). -/
def State.LampTimersFollow (s : State) : Prop :=
  ∀ (g : Fin 16) (l : Lamp),
    (s.lampRec g l).failureTimer.isRunning =
      (s.energised g l && !s.lit g l && !(s.lampRec g l).failed) ∧
    (s.lampRec g l).strayTimer.isRunning =
      (!s.energised g l && s.lit g l && !(s.lampRec g l).stray) ∧
    (s.lampRec g l).strayClearTimer.isRunning = ((s.lampRec g l).stray && !s.lit g l)

/-- The conditions that follow their cause stand exactly while the record says so: LAMP_FAILED and
STRAY_PROVING with their flags (R103), NEIGHBOUR_BLOCKED with the BLOCKED flag (R150, R163); and the
sequence-fault flag of a head stands while the decoder is FAULTED or HEAD_SEQUENCE stands (R22). -/
def State.FaultsMirrorRecords (s : State) : Prop :=
  (∀ (g : Fin 16) (l : Lamp),
    s.hasFault .lampFailed (lampElement g l) = (s.lampRec g l).failed ∧
    s.hasFault .strayProving (lampElement g l) = (s.lampRec g l).stray) ∧
  (∀ n : Fin 4, s.hasFault .neighbourBlocked (byteOf n.val) = (s.hou.neighbours[n]).blocked) ∧
  ∀ h : Fin 24, (s.acu.heads[h]).seqFault =
    ((s.acu.heads[h]).phase == .faulted || s.hasFault .headSequence (byteOf h.val))

/-- The shown aspect of every signal is kept as the last event left it (R97, log 36). -/
def State.ShownKept (s : State) : Prop := ∀ g : Fin 16, (s.asu.signals[g]).kept = s.shown g

/-- No red lamp stands failed while it is energised and lit (R100). -/
def State.NoLitRedFailed (s : State) : Prop :=
  ∀ g : Fin 16, s.energised g .red = true → s.lit g .red = true → (s.lampRec g .red).failed = false

/-- The changes of station state that the manual knows beside reset (R166 to R169). -/
def StationState.mayBecome : StationState → StationState → Bool
  | .config, .config => true
  | .config, .quiet => true
  | .config, .halt => true
  | .quiet, .quiet => true
  | .quiet, .run => true
  | .quiet, .halt => true
  | .run, .run => true
  | .run, .halt => true
  | .halt, .halt => true
  | _, _ => false

end Sys2Proof.Machine
end

