-- ==== Sys2Proof/Certificates/Slice0/Obligations.lean ====
section
/-! DEFINITION. The statements for the provers. `RestOfEvent s u t` says that a command's own effect
left the records as in `u`, and that `t` differs from `u` only by what may follow within every event
(Safety.lean); so a statement of the form "exec answers t, and RestOfEvent s u t" gives both what
the command does and its frame. -/

open Sys2Proof Sys2Proof.Machine

/-! ## The machine -/

/-- The block takes its commands first in, first out: a step is the meaning of the command in front,
with the rest of the queue. (The queue is the model's own, log 31.) -/
def Obligations.StepRunsTheCommandInFront : Prop :=
  ∀ (s : State) (c : Instr) (rest : List Instr), s.pending = c :: rest →
    step s = exec c { s with pending := rest }

/-- On an empty queue one sampling interval passes (the model's choice, log 2). It counts the timers
of R1's list at the end of a base step and at no other moment, counts the periods, pacings and
telegram lives of the station's own time, takes the samples and what the lines carried, fills the
queue, and changes nothing else. (The filters are in ClockSamplesTheInputs, the queue there and in
ClockBringsItsWorkAbout, the receivers in LinesAreFramedIntoTelegrams.) -/
def Obligations.EmptyQueueLetsTimePass : Prop :=
  ∀ s : State, s.pending = [] →
    let count := fun (x : Timer) => if baseInstant (s.ticks + 1) then x.tick else x
    let aged := fun (i : TxItem) => { i with life := i.life.tick }
    ∃ t, step s = .next t ∧ t.ticks = s.ticks + 1 ∧
      t.pins = { s.pins with lineA := [], lineB := [] } ∧ t.config = s.config ∧
      t.acu.sections = s.acu.sections ∧ t.acu.baselines = s.acu.baselines ∧
      (∀ h : Fin 24, t.acu.heads[h] = { s.acu.heads[h] with rest := count (s.acu.heads[h]).rest }) ∧
      (∀ p : Fin 16, t.pcu.points[p] = { s.pcu.points[p] with
        move := count (s.pcu.points[p]).move, settle := count (s.pcu.points[p]).settle }) ∧
      t.lku.sections = s.lku.sections ∧ t.lku.points = s.lku.points ∧
      t.lku.signals = s.lku.signals ∧
      (∀ r : Fin 64, t.lku.routes[r] =
        { s.lku.routes[r] with setting := count (s.lku.routes[r]).setting }) ∧
      (∀ g : Fin 16, (t.asu.signals[g]).presented = (s.asu.signals[g]).presented ∧
        (t.asu.signals[g]).kept = (s.asu.signals[g]).kept) ∧
      (∀ (g : Fin 16) (l : Lamp), t.lampRec g l = { s.lampRec g l with
        failureTimer := count (s.lampRec g l).failureTimer
        strayTimer := count (s.lampRec g l).strayTimer
        strayClearTimer := count (s.lampRec g l).strayClearTimer }) ∧
      t.rtp.queue = s.rtp.queue ∧
      (∀ k : Fin 16, t.rtp.timers[k] =
        (s.rtp.timers[k]).map fun x => { x with time := count x.time }) ∧
      (∀ n : Fin 4, t.hou.neighbours[n] =
        { s.hou.neighbours[n] with silence := count (s.hou.neighbours[n]).silence }) ∧
      (∀ k : Fin 8, t.hou.offers[k] =
        (s.hou.offers[k]).map fun o => { o with reply := count o.reply }) ∧
      t.hou.lastId = s.hou.lastId ∧ t.hou.portions = s.hou.portions ∧ t.hou.grants = s.hou.grants ∧
      t.hou.statusPeriod = s.hou.statusPeriod.tick ∧ t.hou.statusPacing = s.hou.statusPacing.tick ∧
      t.hou.statusChange = s.hou.statusChange ∧
      t.slu.counter = s.slu.counter ∧ t.slu.placings = s.slu.placings ∧
      t.slu.classOne = s.slu.classOne.map aged ∧ t.slu.statusSlot = s.slu.statusSlot.map aged ∧
      t.slu.displayZero = s.slu.displayZero.map aged ∧
      t.slu.displayOne = s.slu.displayOne.map aged ∧
      t.slu.neighbourWindows = s.slu.neighbourWindows ∧ t.slu.panelWindows = s.slu.panelWindows ∧
      (∀ q : Fin 2, t.slu.panelSilence[q] = count s.slu.panelSilence[q]) ∧
      (∀ l : Line, (t.line l).attempt = (s.line l).attempt ∧ (t.line l).health =
        if baseInstant (s.ticks + 1) then (s.line l).health.tick else (s.line l).health) ∧
      t.cmu.queue = s.cmu.queue ∧ t.cmu.faults = s.cmu.faults ∧
      t.cmu.pendingReset = s.cmu.pendingReset.map (fun r => { r with window := count r.window }) ∧
      t.cmu.displayPeriod = s.cmu.displayPeriod.tick ∧
      (∀ page : Page, t.pageTimes page = { s.pageTimes page with
        pacing := (s.pageTimes page).pacing.tick }) ∧
      t.fsu.lamps = s.fsu.lamps ∧ t.fsu.drives = s.fsu.drives ∧ t.fsu.onHalf = s.fsu.onHalf ∧
      t.sld = { s.sld with
        quiet := count s.sld.quiet, reading := s.sld.reading.tick, stopFilter := t.sld.stopFilter }

/-- A filter changes its value exactly at a sample after which it holds N samples whose most recent
N are all opposite to the value, and that change is the edge (R5). That the samples kept are the
most recent N and no more is the model's reading, log 7. What an interval samples, and what the
samples bring about: every sensor input is sampled at
every sensor sampling instant, every contact input and STOP at every twentieth; the samples join the
filters; an edge of an input with a role stands in a row of the queue, with the filtered values that
the samples give: one HEAD_OBSERVATION of a head, one DETECTION_OBSERVATION of a point, one
PROVING_EDGE of a lamp, STOP; FLASH_BOUNDARY every 0.5 s (R2, R3, R5, R7, R8, R9, R12, R168). The
value of an input with a role changes in its row and not in the interval (the model's choice, log
6). -/
def Obligations.ClockSamplesTheInputs : Prop :=
  (∀ (r : FilterRec) (v : Bool),
    let after := r.sample v
    let recent := (v :: r.history).take r.length
    (after.2 = true ↔ recent.length = r.length ∧ ∀ x ∈ recent, x = !r.value) ∧
    after.1.value = (if after.2 then !r.value else r.value) ∧ after.1.length = r.length ∧
    after.1.history = recent) ∧
  ∀ s : State, s.pending = [] →
    let contacts := (s.ticks + 1) % 20 = 0
    let sensor := fun (i : Fin 48) =>
      (s.fsu.sensors[i]).filter.sample (s.pins.sensors[i] != (s.fsu.sensors[i]).inverted)
    let contact := fun (i : Fin 80) =>
      (s.fsu.contacts[i]).filter.sample (s.pins.contacts[i] != (s.fsu.contacts[i]).inverted)
    let stop := s.sld.stopFilter.sample s.pins.stop
    let sensorEdge := fun (role : InputRole) =>
      ∃ i : Fin 48, (s.fsu.sensors[i]).role = role ∧ (sensor i).2 = true
    let sensorOn := fun (role : InputRole) =>
      ∃ i : Fin 48, (s.fsu.sensors[i]).role = role ∧ (sensor i).1.value = true
    let contactEdge := fun (role : InputRole) =>
      ∃ i : Fin 80, (s.fsu.contacts[i]).role = role ∧ (contact i).2 = true
    let contactOn := fun (role : InputRole) =>
      ∃ i : Fin 80, (s.fsu.contacts[i]).role = role ∧ (contact i).1.value = true
    let taken := fun (r : InputRec) (x : FilterRec) => { r with filter :=
      { x with value := if r.role = .unbound then x.value else r.filter.value } }
    ∃ t, step s = .next t ∧
      (∀ i : Fin 48, t.fsu.sensors[i] = taken s.fsu.sensors[i] (sensor i).1) ∧
      (∀ i : Fin 80, (contacts → t.fsu.contacts[i] = taken s.fsu.contacts[i] (contact i).1) ∧
        (¬contacts → t.fsu.contacts[i] = s.fsu.contacts[i])) ∧
      (contacts → t.sld.stopFilter =
        { stop.1 with value := stop.1.value && !(stop.2 && stop.1.value) }) ∧
      (¬contacts → t.sld.stopFilter = s.sld.stopFilter) ∧
      (∀ (h : Fin 24) (a b : Bool), .headObservation h a b ∈ t.pending ↔
        (sensorEdge (.sensorA h) ∨ sensorEdge (.sensorB h)) ∧
          (a = true ↔ sensorOn (.sensorA h)) ∧ (b = true ↔ sensorOn (.sensorB h))) ∧
      (∀ (p : Fin 16) (a b : Bool), .detectionObservation p a b ∈ t.pending ↔ contacts ∧
        (contactEdge (.detectN p) ∨ contactEdge (.detectR p)) ∧
          (a = true ↔ contactOn (.detectN p)) ∧ (b = true ↔ contactOn (.detectR p))) ∧
      (∀ (g : Fin 16) (l : Lamp) (lit : Bool), .provingEdge g l lit ∈ t.pending ↔ contacts ∧
        contactEdge (.prove g l) ∧ (lit = true ↔ contactOn (.prove g l))) ∧
      (∀ delivered : List Byte, .stop delivered ∈ t.pending ↔ contacts ∧
        stop.2 = true ∧ stop.1.value = true ∧ delivered = s.pins.delivered) ∧
      (.flashBoundary ∈ t.pending ↔ (s.ticks + 1) % 2000 = 0)

/-- The other rows that an interval brings about: at the end of a base step the expiry of each timer
of the base that is due; at any interval those of the station's own time, the end of the reading of
the image, and the giving up of a telegram whose 100 ms are over; in RUN the notice of each section
and point whose latch stands, and the row of the command at the head of the panel queue (R1, R88,
R90, R136, R146, R160, R161, R165, R166). In what order they stand is the model's choice, log 3, and
not said here. -/
def Obligations.ClockBringsItsWorkAbout : Prop :=
  ∀ s : State, s.pending = [] → ∃ t, step s = .next t ∧
    let base := (s.ticks + 1) % 400 = 0
    let run := s.sld.station = .run
    let read := t.sld.station = .config ∧ t.sld.check = .reading ∧ checkRead t.pins.delivered = true
    let brings := fun (i : Instr) (when : Prop) => i ∈ t.pending ↔ when
    brings .quietTimerExpiry (base ∧ t.sld.quiet.due = true) ∧
    (∀ h : Fin 24, brings (.restTimerExpiry h) (base ∧ (t.acu.heads[h]).rest.due = true)) ∧
    (∀ p : Fin 16, brings (.settleTimerExpiry p) (base ∧ (t.pcu.points[p]).settle.due = true) ∧
      brings (.moveTimerExpiry p) (base ∧ (t.pcu.points[p]).move.due = true)) ∧
    (∀ (g : Fin 16) (l : Lamp),
      brings (.failureTimerExpiry g l) (base ∧ (t.lampRec g l).failureTimer.due = true) ∧
      brings (.strayTimerExpiry g l) (base ∧ (t.lampRec g l).strayTimer.due = true) ∧
      brings (.strayClearTimerExpiry g l) (base ∧ (t.lampRec g l).strayClearTimer.due = true)) ∧
    (∀ r : Fin 64, brings (.settingTimerExpiry r) (base ∧ (t.lku.routes[r]).setting.due = true)) ∧
    (∀ k : Fin 16, brings (.poolTimerExpiry k)
      (base ∧ ∃ x, t.rtp.timers[k] = some x ∧ x.time.due = true)) ∧
    brings .resetWindowExpiry (base ∧ ∃ x, t.cmu.pendingReset = some x ∧ x.window.due = true) ∧
    (∀ n : Fin 4, brings (.silenceTimerExpiry n)
      (base ∧ (t.hou.neighbours[n]).silence.due = true)) ∧
    (∀ k : Fin 8, brings (.replyTimerExpiry k)
      (base ∧ ∃ o, t.hou.offers[k] = some o ∧ o.reply.due = true)) ∧
    (∀ q : Fin 2, brings (.panelSilenceTimerExpiry q)
      (base ∧ (t.slu.panelSilence[q]).due = true)) ∧
    (∀ l : Line, brings (.lineHealthTimerExpiry l) (base ∧ (t.line l).health.due = true)) ∧
    (∀ bytes : List Byte, brings (.configReadEnd bytes) (read ∧ bytes = t.pins.delivered) ∧
      brings (.configReadTimeout bytes)
        (¬read ∧ t.sld.reading.due = true ∧ bytes = t.pins.delivered)) ∧
    brings .statusPacingEnd (t.hou.statusPacing.due = true) ∧
    brings .statusPeriodExpiry (t.hou.statusPeriod.due = true) ∧
    (∀ page : Page, brings (.displayPacingEnd page) ((t.pageTimes page).pacing.due = true)) ∧
    brings .displayPeriodExpiry (t.cmu.displayPeriod.due = true) ∧
    (∀ (l : Line) (seq : Byte), brings (.transmitGiveUp l seq) (∃ i, i ∈ t.slu.waiting ∧
      i.telegram.seq = seq ∧ i.life.due = true ∧ (i.on l).finished = false ∧
      (i.on l).late = false)) ∧
    (∀ k : Fin 32, brings (.sectionNotice k) (run ∧ (s.acu.sections[k]).chg = true ∧
      (s.config.sections[k]).isSome = true)) ∧
    (∀ p : Fin 16, brings (.pointNotice p) (run ∧ (s.pcu.points[p]).chg = true ∧
      (s.config.points[p]).isSome = true)) ∧
    (∀ q, q ∈ ([(cmdSetRoute, .setRoute), (cmdCancelRoute, .cancelRoute),
        (cmdMovePoint, .movePoint), (cmdBlock, .block), (cmdResetSection, .resetSection),
        (cmdConfirmReset, .confirmReset), (cmdClearNeighbourBlock, .clearNeighbourBlock),
        (cmdClearFault, .clearFault)] : List (Byte × Instr)) →
      brings q.2 (∃ c rest, Takes s q.1 c rest)) ∧
    brings .unknownCommand (∃ c rest, Takes s c.code c rest ∧ (c.code = 0 ∨ 9 ≤ c.code.toNat))

/-- The receiver: an idle of 24 bit times ends what it was collecting, and the next byte begins a
telegram; a byte after a shorter idle begins none; the bytes collected are kept up to one beyond the
length field, whatever shorter idles stand between them; an interval gives each receiver what its
line carried, and each telegram that ends with at least 9 bytes stands in the queue as the row of
its kind, and no other telegram row does (R131, R133, R138; that the idle after a telegram ends it
is log 35). -/
def Obligations.LinesAreFramedIntoTelegrams : Prop :=
  (∀ (r : Receiver) (n m : Nat) (xs : List (Byte × Nat)), 24 ≤ n → 24 ≤ m → xs ≠ [] →
    (∀ x, x ∈ xs → x.2 < 24) →
    let bytes : List Byte := xs.map Prod.fst
    r.run (.idle n :: xs.flatMap (fun x : Byte × Nat => [.byte x.1, .idle x.2]) ++ [.idle m]) =
      (⟨24, none⟩, r.bytes.toList ++ [bytes.take ((bytes.headD 0).toNat + 1)])) ∧
  (∀ (r : Receiver) (b : Byte), r.bytes = none → r.idle < 24 →
    r.take (.byte b) = (⟨0, none⟩, none)) ∧
  (∀ (l : Line) (bytes : List Byte), frameOf l bytes = none ↔ bytes.length < 9) ∧
  (∀ (kind : Byte) (f : Frame), telegramRow (rowOfTelegram kind f) = some (kind, f)) ∧
  ∀ s : State, s.pending = [] → ∃ t, step s = .next t ∧
    (∀ l : Line, (t.line l).receiver = ((s.line l).receiver.run (s.heard l)).1) ∧
    ∀ (i : Instr) (kind : Byte) (f : Frame), telegramRow i = some (kind, f) →
      (i ∈ t.pending ↔ ∃ (l : Line) (bytes : List Byte),
        bytes ∈ ((s.line l).receiver.run (s.heard l)).2 ∧ frameOf l bytes = some (kind, f) ∧
        i = rowOfTelegram kind f)

/-- A timer of the 100 ms base started with `n` steps at any time first becomes due at an end of the
base no earlier than `n` steps and no later than `n + 1` steps after its start (R1; a step is 400
sampling intervals). -/
def Obligations.BaseTimerExpiresWithinOneStep : Prop :=
  ∀ n t0 : Nat, ∃ k, 400 * n ≤ k ∧ k ≤ 400 * (n + 1) ∧ baseInstant (t0 + k) = true ∧
    (timerAfter (.start n) t0 k).due = true ∧
    ∀ j, j < k → (timerAfter (.start n) t0 j).due = false

/-- What reset leaves in each block (the reset tables and sentences of R16, R17, R25, R31, R55, R70
to R73, R92, R114, R127, R143, R144, R148, R152, chapter 11; that a receiver has counted no idle is
log 35, the kept aspects log 36). RESET puts every block there; the commands that wait and the pins
but for the bytes delivered stay, since they are the surroundings' (the model's choice, log 5). -/
def Obligations.ResetLeavesTheStatedValues : Prop :=
  (let s := State.reset
   s.ticks = 0 ∧ s.fsu.onHalf = true ∧
   (∀ i : Fin 48, s.fsu.sensors[i] = ⟨.unbound, false, ⟨3, [], false⟩⟩) ∧
   (∀ i : Fin 80, s.fsu.contacts[i] = ⟨.unbound, false, ⟨8, [], false⟩⟩) ∧
   (∀ i : Fin 48, s.fsu.lamps[i] = ⟨.unbound, false, false, false⟩) ∧
   (∀ i : Fin 32, s.fsu.drives[i] = ⟨.unbound, false, false, false⟩) ∧
   (∀ h : Fin 24, s.acu.heads[h] = ⟨.idle, 0, 0, false, .stopped⟩) ∧
   (∀ k : Fin 32, s.acu.sections[k] = ⟨0, .disturbed, false, false⟩) ∧
   (∀ e : Fin 8, s.acu.baselines[e] = ⟨false, 0, 0⟩) ∧
   (∀ p : Fin 16, s.pcu.points[p] = ⟨.none, .rest, none, .stopped, .stopped, false⟩) ∧
   (∀ k : Fin 32, s.lku.sections[k] = ⟨none, false⟩) ∧
   (∀ p : Fin 16, s.lku.points[p] = ⟨none, 0, 0, false⟩) ∧
   (∀ g : Fin 16, s.lku.signals[g] = ⟨none, 0, false⟩) ∧
   (∀ r : Fin 64, (s.lku.routes[r]).state = .idle ∧ (s.lku.routes[r]).setting = .stopped ∧
     (s.lku.routes[r]).hold.status = Vector.replicate 8 .locked ∧
     (s.lku.routes[r]).hold.flank = [] ∧ (s.lku.routes[r]).offers = [] ∧
     (s.lku.routes[r]).pool = .none ∧ (s.lku.routes[r]).note = false) ∧
   (∀ g : Fin 16, (s.asu.signals[g]).presented = .danger ∧
     (s.asu.signals[g]).kept = .danger ∧ ∀ l : Lamp,
     s.lampRec g l = ⟨false, false, .stopped, .stopped, .stopped⟩) ∧
   (∀ k : Fin 16, s.rtp.timers[k] = none) ∧ s.rtp.queue = [] ∧
   s.slu.counter = 0 ∧ s.slu.waiting = [] ∧ s.slu.lineA = ⟨none, .stopped, ⟨0, none⟩⟩ ∧
   s.slu.lineB = ⟨none, .stopped, ⟨0, none⟩⟩ ∧ (∀ n : Fin 4, s.slu.neighbourWindows[n] = []) ∧
   (∀ p : Fin 2, s.slu.panelWindows[p] = [] ∧ s.slu.panelSilence[p] = .stopped) ∧
   (∀ n : Fin 4, s.hou.neighbours[n] = ⟨.neverHeard, false, .stopped, none⟩) ∧
   (∀ k : Fin 8, s.hou.offers[k] = none ∧ s.hou.grants[k] = none) ∧ s.hou.lastId = 255 ∧
   (∀ p : Fin 16, (s.hou.portions[p]).state = .idle ∧ (s.hou.portions[p]).requester = none ∧
     (s.hou.portions[p]).orphan = false ∧ (s.hou.portions[p]).released = false) ∧
   s.hou.statusPeriod = .stopped ∧ s.cmu.queue = [] ∧ s.cmu.pendingReset = none ∧
   s.cmu.faults = [] ∧ s.faultOutput = false ∧ s.cmu.displayPeriod = .stopped ∧
   s.sld.station = .config ∧ s.sld.check = .reading ∧ s.sld.faultCode = 0 ∧
   s.sld.quiet = .stopped ∧ s.sld.stopFilter = ⟨8, [], false⟩) ∧
  ∀ s : State, exec .reset s = .next { State.reset with
    pending := s.pending, pins := { s.pins with delivered := [] } }

/-! ## Telegrams -/

/-- Every telegram the part can receive is read back from its bytes as it was built: the frame by
its offsets, the length and CRC fields as check 1 asks, and the payload with the size of its kind
(R133, R138, R171). -/
def Obligations.TelegramBytesReadBack : Prop :=
  ∀ (l : Line) (t : Telegram),
    (match t.payload with
      | .status c => c.heads.length ≤ 8 ∧ c.sections.length ≤ 8 ∧ c.signals.length ≤ 8 ∧
          c.portions.length ≤ 16 ∧ c.grants.length ≤ 8 ∧ c.offers.length ≤ 8
      | .displayZero _ => False
      | .displayOne _ => False
      | .commandResult _ _ _ _ => False
      | _ => True) →
    frameOf l t.bytes = some (kindOf t.payload, t.frame l) ∧
      (t.frame l).length.toNat = (t.frame l).payload.length + 9 ∧
      (t.frame l).crc = crc16 (frameBody (kindOf t.payload) (t.frame l)) ∧
      readPayload (kindOf t.payload) (t.frame l).payload = some t.payload ∧
      (t.frame l).source = t.source ∧ (t.frame l).dest = t.dest ∧ (t.frame l).seq = t.seq ∧
      (t.frame l).code = t.code

/-- A collected telegram that fails a check of R138 has no effect but what the table records: none
at checks 1 to 4; PAIRING_MISMATCH at check 5; at check 6, a duplicate, the good telegram of its
line (R142) and no change of the window. That a panel's duplicate starts the panel's silence timer
afresh is the model's choice, log 40. -/
def Obligations.DiscardedTelegramHasNoOtherEffect : Prop :=
  ∀ (s : State) (i : Instr) (kind : Byte) (f : Frame), telegramRow i = some (kind, f) →
    (screened s kind f = none → ∃ t, exec i s = .next t ∧ RestOfEvent s s t) ∧
    (∀ src code p, screened s kind f = some (src, code, p) → f.code ≠ code →
      ∃ t, exec i s = .next t ∧ RestOfEvent s (s.setFault .pairingMismatch f.source) t) ∧
    (∀ src p, screened s kind f = some (src, f.code, p) → f.seq ∈ s.window src →
      ∃ t, exec i s = .next t ∧ RestOfEvent s ((s.goodTelegram f.line).hearFrom src) t)

/-- Acceptance of a telegram: its number joins the window of its source as the newest, the oldest of
nine going; the health timer of its line starts afresh and its LINE_FAULT goes; the other line is
faulted where its timer has expired; PAIRING_MISMATCH of the source goes; a panel's silence timer
starts afresh; nothing else changes (R138, R139, R141, R142). -/
def Obligations.AcceptanceUpdatesWindowAndLine : Prop :=
  ∀ (s : State) (kind : Byte) (f : Frame) (src : Source) (p : Payload), Accepts s kind f src p →
    let own : Condition := ⟨.lineFault, lineElement f.line⟩
    let other : Condition := ⟨.lineFault, lineElement (otherLine f.line)⟩
    let pairing : Condition := ⟨.pairingMismatch, f.source⟩
    ∃ t, receive kind f s = .accepted t src p ∧
      ((s.window src).length < 8 → t.window src = s.window src ++ [f.seq]) ∧
      ((s.window src).length = 8 → t.window src = (s.window src).tail ++ [f.seq]) ∧
      (∀ x, x ≠ src → t.window x = s.window x) ∧
      t.line f.line = { s.line f.line with health := .running 21 } ∧
      t.line (otherLine f.line) = s.line (otherLine f.line) ∧
      pairing ∉ t.cmu.faults ∧ own ∉ t.cmu.faults ∧
      (other ∈ t.cmu.faults ↔
        other ∈ s.cmu.faults ∨ (s.line (otherLine f.line)).health = .expired) ∧
      (∀ c : Condition, c ≠ pairing → c ≠ own → c ≠ other →
        (c ∈ t.cmu.faults ↔ c ∈ s.cmu.faults)) ∧
      (∀ q, src = .panel q → t.slu.panelSilence[q] = .start 50) ∧
      (∀ q : Fin 2, src ≠ .panel q → t.slu.panelSilence[q] = s.slu.panelSilence[q]) ∧
      t.slu.counter = s.slu.counter ∧ t.slu.placings = s.slu.placings ∧
      t.slu.classOne = s.slu.classOne ∧ t.slu.statusSlot = s.slu.statusSlot ∧
      t.slu.displayZero = s.slu.displayZero ∧ t.slu.displayOne = s.slu.displayOne ∧
      { t.cmu with faults := s.cmu.faults } = s.cmu ∧ { t with slu := s.slu, cmu := s.cmu } = s

/-! ## Start-up and the station states -/

/-- The checks of the image, and their outcome. The fields stand where R172 lays them; the code of
an image is that of the first check, in the order of R170, that refuses it, and `ImageRefused` says
of each check what it refuses, by R2, R10, R24, R31, R42, R54, R69, R83, R118, R119, R132, R152 and
R172; the header gives an own address of 1 to 30. CONFIG_READ_END with every check passed: QUIET
with the quiet timer of 3.0 s, the own address and every table in force, each listing the records of
the image with their values, both line health timers started, every filter started again, and every
output at its level; every listed input with the role, polarity and filter length its record gives,
every listed output with its role, carrier code and safe state; the counts, points, conditions and
presented aspects as they were (R2, R3, R4, R6, R10, R15, R142, R166). A failing check, or 2.0 s
without the whole image: HALT with the code, CONFIG_FAULT(code), the own address where the header
gave one, and the STATUS period begun in that case; nothing else (R166). The model's choices and
inferences: the byte order of two-byte numbers, log 8; bits in no field, log 9; the code of a field
outside its values, log 10; the track sections of a portion's overlap points, log 39; an input or
output without a record keeps the values from before acceptance, log 41; bytes that say nothing
without a portion request or a role, log 43. -/
def Obligations.ImageChecksDecideQuietOrHalt : Prop :=
  ∀ (s : State) (delivered : List Byte), s.sld.station = .config →
    let image := rawImage (delivered.take (octetPair delivered 4))
    let inputRole := fun (r : RawInput) (x : InputRole) =>
      match x with
      | .unbound => r.role = 0
      | .sensorA h => r.role = 1 ∧ r.element = h.val
      | .sensorB h => r.role = 2 ∧ r.element = h.val
      | .detectN p => r.role = 3 ∧ r.element = p.val
      | .detectR p => r.role = 4 ∧ r.element = p.val
      | .prove g .red => r.role = 5 ∧ r.element = g.val
      | .prove g .yellow => r.role = 6 ∧ r.element = g.val
      | .prove g .green => r.role = 7 ∧ r.element = g.val
    let outputRole := fun (r : RawOutput) (x : OutputRole) =>
      match x with
      | .unbound => r.role = 0
      | .lamp g .red => r.role = 1 ∧ r.element = g.val
      | .lamp g .yellow => r.role = 2 ∧ r.element = g.val
      | .lamp g .green => r.role = 3 ∧ r.element = g.val
      | .drive p .normal => r.role = 4 ∧ r.element = p.val
      | .drive p .reverse => r.role = 5 ∧ r.element = p.val
    let input := fun (cls number default least most : Nat) (x : InputRec) =>
      (∀ r ∈ image.inputs, r.cls = cls → r.number = number →
        inputRole r x.role ∧ x.inverted = r.inverted ∧
        x.filter.length = if r.length = 0 then default else max least (min most r.length)) ∧
      ((∀ r ∈ image.inputs, r.cls = cls → r.number ≠ number) →
        x = ⟨.unbound, false, ⟨default, [], false⟩⟩)
    let output := fun (cls number : Nat) (x : OutputRec) =>
      (∀ r ∈ image.outputs, r.cls = cls → r.number = number →
        outputRole r x.role ∧ (x.code = true ↔ r.code = 1) ∧ (x.safeOn = true ↔ r.safe = 1)) ∧
      ((∀ r ∈ image.outputs, r.cls = cls → r.number ≠ number) →
        x.role = .unbound ∧ x.code = false ∧ x.safeOn = false)
    ImageLayout (delivered.take (octetPair delivered 4)) image ∧
    crc32 [0x31, 0x32, 0x33, 0x34, 0x35, 0x36, 0x37, 0x38, 0x39] = 0xCBF43926 ∧
    (∀ why, imageFault delivered = some why ↔ ImageRefused delivered why ∧
      ∀ w : ImageFault, w.code.toNat < why.code.toNat → ¬ImageRefused delivered w) ∧
    (imageFault delivered = none ↔ ∀ why, ¬ImageRefused delivered why) ∧
    [ImageFault.read, .header, .crc, .count, .reference, .binding, .safeState, .flankChain,
      .boundaryMap, .remoteHead, .safetyTime, .stopped].map (·.code) =
      [1, 2, 3, 4, 5, 6, 7, 8, 9, 10, 11, 12] ∧
    (∀ a : Byte, headerAddress delivered = some a ↔
      7 ≤ delivered.length ∧ delivered[6]? = some a ∧ 1 ≤ a.toNat ∧ a.toNat ≤ 30) ∧
    (imageFault delivered = none →
    ∃ t, exec (.configReadEnd delivered) s = .next t ∧
        t.sld = { s.sld with
          station := .quiet, check := .accepted, faultCode := 0,
          ownAddress := some (delivered.getD 6 0), reading := .stopped, quiet := .start 30 } ∧
        t.config = zoneConfig image ∧ TablesOf image t.config ∧
        (∀ k : Fin 48, input 0 k.val 3 2 6 t.fsu.sensors[k]) ∧
        (∀ k : Fin 80, input 1 k.val 8 4 16 t.fsu.contacts[k]) ∧
        (∀ k : Fin 48, output 0 k.val t.fsu.lamps[k]) ∧
        (∀ k : Fin 32, output 1 k.val t.fsu.drives[k]) ∧
        (t.line .a).health = .running 21 ∧ (t.line .b).health = .running 21 ∧
        (∀ i : Fin 48, (t.fsu.sensors[i]).filter.history = [] ∧
          (t.fsu.sensors[i]).filter.value = false) ∧
        (∀ i : Fin 80, (t.fsu.contacts[i]).filter.history = [] ∧
          (t.fsu.contacts[i]).filter.value = false) ∧
        t.OutputsFollow ∧ t.fsu.onHalf = s.fsu.onHalf ∧ t.acu = s.acu ∧ t.pcu = s.pcu ∧
        t.lku.sections = s.lku.sections ∧ t.lku.points = s.lku.points ∧
        t.lku.signals = s.lku.signals ∧ t.rtp = s.rtp ∧ t.hou.neighbours = s.hou.neighbours ∧
        t.cmu.queue = s.cmu.queue ∧ t.slu.waiting = s.slu.waiting ∧
        (∀ g : Fin 16, (t.asu.signals[g]).presented = (s.asu.signals[g]).presented ∧
          (t.asu.signals[g]).kept = .danger) ∧
        ∀ c : Condition, c.kind ≠ .lampFailed → (c ∈ t.cmu.faults ↔ c ∈ s.cmu.faults)) ∧
    let halted := fun (code : Byte) => { s with
      sld := { s.sld with
        station := .halt, check := .refused, faultCode := code,
        ownAddress := headerAddress delivered, reading := .stopped }
      hou := { s.hou with statusPeriod :=
        if (headerAddress delivered).isSome then .startMs s.config.statusPeriod
        else s.hou.statusPeriod } }.setFault .configFault code
    (∀ why, imageFault delivered = some why →
      ∃ t, exec (.configReadEnd delivered) s = .next t ∧ RestOfEvent s (halted why.code) t) ∧
    (s.sld.reading.due = true → ∃ t, exec (.configReadTimeout delivered) s = .next t ∧
      RestOfEvent s (halted ImageFault.read.code) t)

/-- The quiet timer's expiry: RUN; the outputs follow their demands, with their supervision (`v`);
then a STATUS (where the station has an address), page 0 and page 1 stand in their slots with the
content of the new state, in that order each with the next number and addressed to 31, their times
begin, and the DISPLAY period starts; nothing else changes (R15, R133, R146, R165, R167). That the
STATUS comes before the pages, and so takes the first number, is the model's choice, log 12. -/
def Obligations.QuietTimerExpiryEntersRun : Prop :=
  ∀ s : State, s.sld.station = .quiet → s.sld.quiet.due = true →
    ∃ t v, exec .quietTimerExpiry s = .next t ∧
      Consequences s { s with sld := { s.sld with station := .run, quiet := .stopped } } v ∧
      v.slu = s.slu ∧ SameStatus s v ∧
      t = { v with
        slu := { v.slu with
          counter := t.slu.counter, placings := t.slu.placings, statusSlot := t.slu.statusSlot,
          displayZero := t.slu.displayZero, displayOne := t.slu.displayOne }
        hou := { v.hou with
          statusPeriod := t.hou.statusPeriod, statusPacing := t.hou.statusPacing,
          statusChange := t.hou.statusChange }
        cmu := { v.cmu with
          displayPeriod := .startMs s.config.displayPeriod
          pageZero := ⟨.startMs 100, false⟩, pageOne := ⟨.startMs 100, false⟩ } } ∧
      t.OutputsFollow ∧
      (s.sld.ownAddress ≠ none → StatusPlaced s t ∧ t.slu.counter = s.slu.counter + 3 ∧
        t.slu.placings = s.slu.placings + 3) ∧
      (s.sld.ownAddress = none → SameStatus s t ∧ t.slu.counter = s.slu.counter + 2 ∧
        t.slu.placings = s.slu.placings + 2) ∧
      let first : Byte := s.slu.counter + (if s.sld.ownAddress = none then 0 else 1)
      (∃ i, t.slu.displayZero = some i ∧ i.telegram.payload = .displayZero t.pageZeroContent ∧
        i.telegram.dest = 31 ∧ i.telegram.seq = first) ∧
      ∃ i, t.slu.displayOne = some i ∧ i.telegram.payload = .displayOne t.pageOneContent ∧
        i.telegram.dest = 31 ∧ i.telegram.seq = first + 1

/-- STOP in CONFIG halts with the code STOPPED and both conditions, and in HALT it has no effect but
on its filter. In QUIET or RUN it is the entry to HALT: HALT with STOPPED; every route, hosted
portion, hosted grant, claim, hold, offer and pool timer is gone, the block flags kept; every move
stops with the controller as it stood; the pending reset record is gone; the queues and slots hold
nothing but the HALTED answers of the queued commands; the outputs are at their safe states; heads,
sections, baselines and neighbour records are as they were (R43, R68, R74, R137, R161, R168, R169;
the filter of STOP, log 6). -/
def Obligations.StopHaltsTheStation : Prop :=
  ∀ (s : State) (delivered : List Byte),
    (s.sld.station = .config → ∃ t, exec (.stop delivered) s = .next t ∧
      RestOfEvent s (({ s with
        sld := { s.sld with
          station := .halt, check := .refused, faultCode := ImageFault.stopped.code,
          ownAddress := headerAddress delivered, reading := .stopped,
          stopFilter := s.sld.stopFilter.accept true }
        hou := { s.hou with statusPeriod :=
          if (headerAddress delivered).isSome then .startMs s.config.statusPeriod
          else s.hou.statusPeriod } }.setFault .configFault
            ImageFault.stopped.code).setFault .stopped 0) t) ∧
    (s.sld.station = .halt → ∃ t, exec (.stop delivered) s = .next t ∧
      RestOfEvent s { s with sld := { s.sld with stopFilter := s.sld.stopFilter.accept true } } t) ∧
    (s.sld.station = .quiet ∨ s.sld.station = .run → ∃ t, exec (.stop delivered) s = .next t ∧
      t.sld = { s.sld with
        station := .halt, quiet := .stopped,
        stopFilter := s.sld.stopFilter.accept true } ∧
      ⟨.stopped, 0⟩ ∈ t.cmu.faults ∧ t.faultOutput = true ∧ t.NothingOutsideRun ∧
      (∀ r : Fin 64, (t.lku.routes[r]).setting = .stopped ∧ (t.lku.routes[r]).hold.flank = [] ∧
        (t.lku.routes[r]).note = false) ∧
      (∀ k : Fin 32, (t.lku.sections[k]).blocked = (s.lku.sections[k]).blocked) ∧
      (∀ p : Fin 16, (t.lku.points[p]).blocked = (s.lku.points[p]).blocked) ∧
      (∀ g : Fin 16, (t.lku.signals[g]).blocked = (s.lku.signals[g]).blocked) ∧
      (∀ p : Fin 16, t.pcu.points[p] = { s.pcu.points[p] with
        move := .stopped, settle := .stopped, held := none }) ∧
      t.cmu.queue = [] ∧ t.cmu.pendingReset = none ∧ t.slu.statusSlot = none ∧
      t.slu.displayZero = none ∧ t.slu.displayOne = none ∧
      (∀ i, i ∈ t.slu.classOne → ∃ c, c ∈ s.cmu.queue ∧
        i.telegram.payload = .commandResult c.seq c.code 1 Reason.halted.code) ∧
      ((∀ c, c ∈ s.cmu.queue → (s.config.panels[c.panel]).isSome = true) →
        s.cmu.queue.length ≤ 16 → t.slu.classOne.map (·.telegram.payload) =
          s.cmu.queue.map fun c => .commandResult c.seq c.code 1 Reason.halted.code) ∧
      t.OutputsFollow ∧ t.acu = s.acu ∧ t.hou.neighbours = s.hou.neighbours ∧
      t.hou.lastId = s.hou.lastId ∧ t.config = s.config ∧
      ∀ c : Condition, c.kind ≠ .lampFailed → c.kind ≠ .stopped →
        (c ∈ t.cmu.faults ↔ c ∈ s.cmu.faults))

/-! ## Heads and sections -/

/-- The passage table: the twelve lines that count nothing move the phase and nothing else;
A_LEAVING with (0, 0) is a forward passage and B_LEAVING with (0, 0) a backward one, by which the
phase becomes IDLE and the total rises by 1, 65535 becoming 0, and in the same event each section
that names the head takes a step, equal to the entry's orientation for a forward passage and to
minus it for a backward one; nothing else changes, and no fault is set (R18, R19, R26). That an
observation sets the filters of its inputs is the model's choice, log 6. -/
def Obligations.PassageTableMovesHeadAndSections : Prop :=
  ∀ (s : State) (h : Fin 24), (s.config.heads[h]).isSome = true →
    (∀ (now next : Phase) (a b : Bool), (s.acu.heads[h]).phase = now →
      (now, a, b, next) ∈ ([(.idle, true, false, .aFirst), (.idle, false, true, .bFirst),
        (.aFirst, true, true, .aBoth), (.aBoth, false, true, .aLeaving),
        (.bFirst, true, true, .bBoth), (.bBoth, true, false, .bLeaving),
        (.aFirst, false, false, .idle), (.aBoth, true, false, .aFirst),
        (.aLeaving, true, true, .aBoth), (.bFirst, false, false, .idle),
        (.bBoth, false, true, .bFirst), (.bLeaving, true, true, .bBoth)] :
          List (Phase × Bool × Bool × Phase)) →
      ∃ t, exec (.headObservation h a b) s = .next t ∧
        RestOfEvent s ((s.observeHead h a b).updHead h fun r => { r with phase := next }) t) ∧
    ((s.acu.heads[h]).phase = .aLeaving → ∃ t, exec (.headObservation h false false) s = .next t ∧
      RestOfEvent s (((s.observeHead h false false).updHead h fun r =>
        { r with phase := .idle, forward := r.forward + 1 }).stepSections h true) t) ∧
    ((s.acu.heads[h]).phase = .bLeaving → ∃ t, exec (.headObservation h false false) s = .next t ∧
      RestOfEvent s (((s.observeHead h false false).updHead h fun r =>
        { r with phase := .idle, backward := r.backward + 1 }).stepSections h false) t)

/-- An observation that differs from the phase's pair in both members: FAULTED, the sequence-fault
flag, HEAD_SEQUENCE, every section that names the head DISTURBED with its count kept and its latches
following, no passage counted, and the rest timer of 1.0 s started at (0, 0) (R20, R28, R40). A
FAULTED decoder: an observation of (0, 0) starts the rest timer with 1.0 s, any other stops it, and
nothing is decoded; the expiry of the timer returns the decoder to IDLE and clears the
sequence-fault flag where HEAD_SEQUENCE no longer stands (R21, R22). The filters are log 6. -/
def Obligations.SequenceErrorFaultsTheHeadUntilItRests : Prop :=
  (∀ (s : State) (h : Fin 24) (a b a' b' : Bool), (s.config.heads[h]).isSome = true →
     (s.acu.heads[h]).phase.pair = some (a', b') → a ≠ a' → b ≠ b' →
     ∃ t, exec (.headObservation h a b) s = .next t ∧
       RestOfEvent s ((((s.observeHead h a b).updHead h fun r =>
         { r with
           phase := .faulted
           seqFault := true
           rest := if a = false ∧ b = false then .start 10 else r.rest }).setFault .headSequence
             (byteOf h.val)).mapSections fun k r =>
         if (orientationOf s.config k (.localHead h)).isSome then
           r.latched { r with state := .disturbed }
         else r) t) ∧
  ∀ (s : State) (h : Fin 24), (s.acu.heads[h]).phase = .faulted →
    (∀ a b : Bool, (s.config.heads[h]).isSome = true →
      ∃ t, exec (.headObservation h a b) s = .next t ∧
        RestOfEvent s ((s.observeHead h a b).updHead h fun r =>
          { r with rest := if a = false ∧ b = false then .start 10 else .stopped }) t) ∧
    ((s.acu.heads[h]).rest.due = true → ∃ t, exec (.restTimerExpiry h) s = .next t ∧
      RestOfEvent s (s.updHead h fun r =>
        { r with
          phase := .idle
          rest := .stopped
          seqFault := r.seqFault && s.hasFault .headSequence (byteOf h.val) }) t)

/-- The table of R27, and the latches of R28, for a signed change `d` at a section record: the count
held at 0 and 999 with DISTURBED beyond them; the state by prior state and new count; CHG at a
change of state, OCC at a change away from CLEAR, both at a rise of the count outside DISTURBED. A
change of 0 leaves the record as it was. -/
def Obligations.SignedChangeFollowsTheSectionTable : Prop :=
  ∀ (r : SectionRec), r.change 0 = r ∧ ∀ d : Int, d ≠ 0 →
    let c : Int := r.count + d
    let new := r.change d
    (c < 0 → new.count = 0 ∧ new.state = .disturbed) ∧
    (999 < c → new.count = 999 ∧ new.state = .disturbed) ∧
    (0 ≤ c → c ≤ 999 → (new.count : Int) = c ∧
      (r.state = .disturbed → new.state = .disturbed) ∧
      (c = 0 → (r.state = .clear ∨ r.state = .occupied ∨ r.state = .sweeping → new.state = .clear) ∧
        (r.state = .prepared → new.state = .prepared)) ∧
      (1 ≤ c → (r.state = .clear ∨ r.state = .occupied → new.state = .occupied) ∧
        (r.state = .prepared ∨ r.state = .sweeping → new.state = .sweeping))) ∧
    (new.chg = true ↔ r.chg = true ∨ new.state ≠ r.state ∨
      (r.count < new.count ∧ new.state ≠ .disturbed)) ∧
    (new.occ = true ↔ r.occ = true ∨ (r.state = .clear ∧ new.state ≠ .clear) ∨
      (r.count < new.count ∧ new.state ≠ .disturbed))

/-! ## Points -/

/-- A detection observation that changes the detected position: the position by the pair, CHG; in
RUN the settle timer of a moving point starts at its target and stops on leaving it; POINT_LOST,
POINT_CONTRADICTION and TRAILED are set and removed as R64 to R66 say; nothing else changes (R56,
R61, R64, R65, R66; the filters, log 6). -/
def Obligations.DetectionChangeIsSupervised : Prop :=
  ∀ (s : State) (p : Fin 16) (n r : Bool) (old new : Detected),
    (s.config.points[p]).isSome = true → (s.pcu.points[p]).detected = old → Detected.of n r = new →
    new ≠ old →
    let e := byteOf p.val
    let unsupervised := s.sld.station = .halt ∨ (s.pcu.points[p]).controller = .rest ∨
      (s.pcu.points[p]).controller = .failed
    let atEnd := fun (d : Detected) => d = .normal ∨ d = .reverse
    let settles := fun (c : PointRec) =>
      match c.controller.target with
      | none => c.settle
      | some q =>
        if new = detectedAt q then .start 3 else if old = detectedAt q then .stopped else c.settle
    ∃ (t : State) (faults : List Condition), exec (.detectionObservation p n r) s = .next t ∧
      RestOfEvent s ({ s.observePoint p n r with cmu := { s.cmu with faults := faults } }.updPoint p
        fun c => { c with
          detected := new
          chg := true
          settle := if s.sld.station = StationState.run then settles c else c.settle }) t ∧
      (⟨.pointLost, e⟩ ∈ faults ↔ (⟨.pointLost, e⟩ ∈ s.cmu.faults ∧ ¬atEnd new) ∨
        (unsupervised ∧ atEnd old ∧ new = .none)) ∧
      (⟨.pointContradiction, e⟩ ∈ faults ↔
        (⟨.pointContradiction, e⟩ ∈ s.cmu.faults ∧ ¬atEnd new) ∨ new = .both) ∧
      (⟨.trailed, e⟩ ∈ faults ↔ ⟨.trailed, e⟩ ∈ s.cmu.faults ∨
        (unsupervised ∧ atEnd old ∧ new ≠ .both ∧ s.trackFree p = false)) ∧
      ∀ c : Condition, c ≠ ⟨.pointLost, e⟩ → c ≠ ⟨.pointContradiction, e⟩ → c ≠ ⟨.trailed, e⟩ →
        (c ∈ faults ↔ c ∈ s.cmu.faults)

/-- The timers of a moving point. The settle timer expires: the move timer is stopped, the
controller is REST with CHG set and a held target equal to the completed one cleared; a held target
that differs is cleared and a move toward it starts in the same event, with its move timer, and with
the settle timer where the point is already detected there; nothing else changes (R58, R62). The
move timer expires: FAILED with CHG set, both timers stopped, the held target discarded,
POINT_TIMEOUT set as a single condition; the detected position and all else stay (R63). -/
def Obligations.TimersEndTheMoveOfAPoint : Prop :=
  ∀ (s : State) (p : Fin 16) (q : Position), (s.pcu.points[p]).controller = .moving q →
    ((s.pcu.points[p]).settle.due = true →
      ((s.pcu.points[p]).held = none ∨ (s.pcu.points[p]).held = some q →
        ∃ t, exec (.settleTimerExpiry p) s = .next t ∧
          RestOfEvent s (s.updPoint p fun c => { c with
            controller := .rest, chg := true, move := .stopped, settle := .stopped,
            held := none }) t) ∧
      ((s.pcu.points[p]).held = some q.other → ∃ t, exec (.settleTimerExpiry p) s = .next t ∧
        RestOfEvent s (s.updPoint p fun c => { c with
          controller := .moving q.other
          chg := true
          move := .start (10 * moveLimit s.config p)
          settle := if c.detected = detectedAt q.other then .start 3 else .stopped
          held := none }) t)) ∧
    ((s.pcu.points[p]).move.due = true → s.FaultsOrdered →
      ∃ t, exec (.moveTimerExpiry p) s = .next t ∧ t.FaultsOrdered ∧
        RestOfEvent s ((s.updPoint p fun c => { c with
          controller := .failed, chg := true, move := .stopped, settle := .stopped,
          held := none }).setFault .pointTimeout (byteOf p.val)) t)

/-! ## Lamps and signals -/

/-- A proving edge brings the filter of the lamp's input to the value it names, and in the same
event: the outputs stand at their levels; the lamp-failed flag of a red lamp that comes to be
energised and lit is cleared with LAMP_FAILED; each proving timer starts with 0.3 s where its
conditions come to hold, runs on where they held before, and stops where they do not hold; hosted
portions and flank grants that a changed red lamp bears on are tested again (R9, R13, R99, R100,
R101, R102, R129, R154; the filter, log 6; that PROVEN portions are tested too, log 25). -/
def Obligations.ProvingEdgeIsTakenByTheLamp : Prop :=
  ∀ (s : State) (g : Fin 16) (l : Lamp) (lit : Bool),
    ∃ t, exec (.provingEdge g l lit) s = .next t ∧ RestOfEvent s (s.observeProving g l lit) t ∧
      ((∃ i : Fin 80, (s.fsu.contacts[i]).role = .prove g l) → t.lit g l = lit) ∧
      (∀ (g' : Fin 16) (l' : Lamp), (g', l') ≠ (g, l) → t.lit g' l' = s.lit g' l') ∧
      t.OutputsFollow ∧ (s.LampTimersFollow → t.LampTimersFollow) ∧
      (∀ g' : Fin 16, (t.energised g' .red && t.lit g' .red) = true →
        (s.energised g' .red && s.lit g' .red) = false → (t.lampRec g' .red).failed = false ∧
          ⟨.lampFailed, lampElement g' .red⟩ ∉ t.cmu.faults) ∧
      (∀ (g' : Fin 16) (l' : Lamp),
        let runs := fun (when : State → Bool) (before after : Timer) =>
          after = if when t then (if when s then before else .start 3) else .stopped
        runs (fun x => x.energised g' l' && !x.lit g' l' && !(x.lampRec g' l').failed)
          (s.lampRec g' l').failureTimer (t.lampRec g' l').failureTimer ∧
        runs (fun x => !x.energised g' l' && x.lit g' l' && !(x.lampRec g' l').stray)
          (s.lampRec g' l').strayTimer (t.lampRec g' l').strayTimer ∧
        runs (fun x => (x.lampRec g' l').stray && !x.lit g' l')
          (s.lampRec g' l').strayClearTimer (t.lampRec g' l').strayClearTimer) ∧
      ∀ g' : Fin 16, t.lit g' .red ≠ s.lit g' .red ∨
          (t.lampRec g' .red).failed ≠ (s.lampRec g' .red).failed →
        (∀ p : Fin 16, g' ∈ flankSignals t.config (t.hou.portions[p]).hold.flank →
          (s.hou.portions[p]).state.provable →
          (t.hou.portions[p]).state = if t.portionProves p then .proven else .setting) ∧
        ∀ (k : Fin 8) (x : Grant), t.hou.grants[k] = some x →
          elementOf t.config x.used = some (.signal g') → x.proven = t.entryProven x.used

/-- A flash boundary changes the half and presents at every signal the commanded aspect of that
moment, in every station state; the outputs follow in the same event (R12, R13, R97; the shown
aspect that is kept, log 36). The commanded aspect is that of R96: DANGER where no route from the
signal is LOCKED; from the one LOCKED route, PROCEED for a MAIN route whose CAUTION-or-better
condition and exit part hold, CAUTION where the exit part does not, CALL_ON for a CALL_ON route
whose call-on condition holds, DANGER otherwise; with the nine items of R93 over the views of R94,
and item 5 by the call-on rule for a CALL_ON route (R52, R53, R95). That the first of two entries of
one number or id in a STATUS is read is log 33. -/
def Obligations.FlashBoundaryPresentsTheCommandedAspects : Prop :=
  ∀ s : State, (∃ t, exec .flashBoundary s = .next t ∧
    RestOfEvent s ({ s with fsu := { s.fsu with onHalf := !s.fsu.onHalf } }.mapSignals fun g r =>
      { r with presented := s.commanded g, kept := s.commanded g }) t ∧ t.OutputsFollow) ∧
    let heard := fun (n : Fin 4) (v : StatusContent) =>
      (s.hou.neighbours[n]).state = .alive ∧ (s.hou.neighbours[n]).view = some v
    let proved := fun (k : Fin 32) => (s.acu.sections[k]).state = .clear ∧
      (s.acu.sections[k]).occ = false ∧
      ∀ n, boundaryNeighbour s.config k = some n → s.neighbourView n k = some .clear
    let callOn := fun (k : Fin 32) => (s.acu.sections[k]).state ≠ .disturbed ∧
      ∀ n, boundaryNeighbour s.config k = some n →
        ∃ x, s.neighbourView n k = some x ∧ x ≠ .disturbed
    let at' := fun (q : Fin 16 × Position) => (s.pcu.points[q.1]).detected = detectedAt q.2
    let redLit := fun (g : Fin 16) => s.lit g .red = true ∧ (s.lampRec g .red).failed = false
    let own := fun (a : Byte) => some a == s.sld.ownAddress
    let offerProven := fun (o : Offer) => ∃ v, heard o.neighbour v ∧
      match o.kind with
      | .portion => ∃ e, (v.portions.find? fun e => own e.requester && e.offerId == o.id) = some e ∧
          e.info.toNat % 8 = 2
      | .flank => ∃ e, (v.grants.find? fun e => own e.requester && e.offerId == o.id) = some e ∧
          bit7 e.info = true
    let reported := fun (m : Fin 32) (e : SignalEntry) => ∃ b, s.config.boundary[m] = some b ∧
      ∃ v, heard b.neighbour v ∧ (v.signals.find? fun e => e.number == b.number) = some e
    let exitSound := fun (x : ExitSignal) =>
      match x with
      | .localSignal g => (s.lampRec g .red).failed = false
      | .remoteSignal m => ∃ e, reported m e ∧ bit7 e.info = false
    let holds := fun (r : Fin 64) (c : RouteCfg) =>
      let hold := (s.lku.routes[r]).hold
      s.sld.station = .run ∧ (s.lku.routes[r]).state = .locked ∧
      (s.lku.signals[c.entry]).blocked = false ∧ (s.lku.signals[c.entry]).holds = 0 ∧
      (∀ l : Lamp, l ≠ .red →
        (s.lampRec c.entry l).failed = false ∧ (s.lampRec c.entry l).stray = false) ∧
      (∀ k, k ∈ c.plan.path → if c.cls = .main then proved k else callOn k) ∧
      (hold.overlap = .held → c.cls = .main → ∀ k, k ∈ c.plan.overlap → proved k) ∧
      (∀ q, q ∈ c.plan.points ∨ (hold.overlap = .held ∧ q ∈ c.plan.overlapPoints) ∨
        q ∈ flankPoints s.config hold.flank → at' q) ∧
      (∀ g, g ∈ flankSignals s.config hold.flank → redLit g) ∧
      (∀ k, k ∈ (s.lku.routes[r]).offers →
        ∃ o, s.hou.offers[k] = some o ∧ o.state = .granted ∧ offerProven o) ∧
      exitSound c.plan.exit
    let locked := fun (g : Fin 16) (r : Fin 64) (c : RouteCfg) =>
      s.config.routes[r] = some c ∧ c.entry = g ∧ (s.lku.routes[r]).state = .locked
    let exitPart := fun (x : ExitSignal) =>
      match x with
      | .localSignal g => ∃ r c, locked g r c ∧ c.cls = .main ∧ holds r c
      | .remoteSignal m => ∃ e, reported m e ∧ (e.info.toNat % 4 = 2 ∨ e.info.toNat % 4 = 3)
    ∀ g : Fin 16,
      ((∀ r c, ¬locked g r c) → s.commanded g = .danger) ∧
      ∀ r c, locked g r c → (∀ x y, locked g x y → x = r) →
        (¬holds r c → s.commanded g = .danger) ∧
        (holds r c → c.cls = .callOn → s.commanded g = .callOn) ∧
        (holds r c → c.cls = .main → exitPart c.plan.exit → s.commanded g = .proceed) ∧
        (holds r c → c.cls = .main → ¬exitPart c.plan.exit → s.commanded g = .caution)

/-- The expiries of the three timers of a lamp: the lamp-failed flag with LAMP_FAILED, the
stray-proving flag with STRAY_PROVING, and the clearing of the latter two; the outputs follow in the
same event (R99, R101, R102). -/
def Obligations.LampTimerExpiriesMarkAndClearTheLamp : Prop :=
  ∀ (s : State) (g : Fin 16) (l : Lamp),
    ((s.lampRec g l).failureTimer.due = true →
      ∃ t, exec (.failureTimerExpiry g l) s = .next t ∧
        RestOfEvent s ((s.updSignal g fun r => r.updLamp l fun m =>
          { m with failed := true }).setFault .lampFailed (lampElement g l)) t ∧ t.OutputsFollow ∧
        (s.lit g l = false → (t.lampRec g l).failed = true ∧
          ⟨.lampFailed, lampElement g l⟩ ∈ t.cmu.faults)) ∧
    ((s.lampRec g l).strayTimer.due = true →
      ∃ t, exec (.strayTimerExpiry g l) s = .next t ∧
        RestOfEvent s ((s.updSignal g fun r => r.updLamp l fun m =>
          { m with stray := true }).setFault .strayProving (lampElement g l)) t ∧ t.OutputsFollow) ∧
    ((s.lampRec g l).strayClearTimer.due = true →
      ∃ t, exec (.strayClearTimerExpiry g l) s = .next t ∧
        RestOfEvent s ((s.updSignal g fun r => r.updLamp l fun m =>
          { m with stray := false }).clearFault .strayProving (lampElement g l)) t ∧
        t.OutputsFollow)

/-! ## Notices and the timers of the locking unit -/

/-- The taking of a section notice clears both latches; what else it does follows the holder. Nobody
holds the section: no more. With OCC for path section 0 of a route: in LOCKED or APPROACH_HELD the
route is IN_USE with section 0 SEEN_OCCUPIED, in APPROACH_HELD its pool timer or queue place given
up; in SETTING it stays; PASSED_AT_DANGER with the note in SETTING, and otherwise where the
presented aspect of the entry signal is DANGER (R29, R88, R89). For an overlap section of a route in
OVERLAP_HELD that waits for no timer, and of a portion in OVERLAP_HELD: the overlap is released and
the owner IDLE where every overlap section is CLEAR without OCC (R109, R154). For a portion in
SETTING or PROVEN: with OCC for its path section 0 it is IN_USE, otherwise its proving test is made
(R154; in PROVEN too, log 25). In every other case but IN_USE no more. -/
def Obligations.SectionNoticeFollowsItsHolder : Prop :=
  ∀ (s : State) (k : Fin 32), s.sld.station = .run → (s.config.sections[k]).isSome = true →
    (s.acu.sections[k]).chg = true →
    let read := s.updSection k fun x => { x with occ := false, chg := false }
    let answers := fun (v : State) => ∃ t, exec (.sectionNotice k) s = .next t ∧ RestOfEvent s v t
    let first := fun (o : Owner) =>
      (s.acu.sections[k]).occ = true ∧ (pathOf s.config o).head? = some k
    let overlapFree := fun (o : Owner) => ∀ j, j ∈ overlapOf s.config o →
      (s.acu.sections[j]).state = .clear ∧ (j = k ∨ (s.acu.sections[j]).occ = false)
    ((s.lku.sections[k]).holder = none → answers read) ∧
    (∀ (r : Fin 64) (role : Role) (c : RouteCfg),
      (s.lku.sections[k]).holder = some ⟨.route r, role⟩ → s.config.routes[r] = some c →
      let state := (s.lku.routes[r]).state
      let enter := fun (u : State) => u.updRoute r fun x => { x with
        state := .inUse
        hold := { x.hold with status := upd x.hold.status 0 fun _ => .seenOccupied } }
      let note := fun (u : State) => (u.setFault .passedAtDanger (byteOf c.entry.val)).updRoute r
        fun x => { x with note := true }
      let passed := fun (u : State) =>
        if (s.asu.signals[c.entry]).presented = .danger then note u else u
      let tests := role = .overlap ∧ (c.overlapTime = 0 ∨ (s.lku.routes[r]).pool = .none)
      (first (.route r) → state = .locked → answers (passed (enter read))) ∧
      (first (.route r) → state = .approachHeld → answers (passed (enter (read.giveUpTimer r)))) ∧
      (first (.route r) → state = .setting → answers (note read)) ∧
      (¬first (.route r) → state = .setting ∨ state = .locked ∨ state = .approachHeld →
        answers read) ∧
      (state = .idle → answers read) ∧
      (state = .overlapHeld → tests → overlapFree (.route r) →
        answers ((read.freeElements (.route r) (· == .overlap)).updRoute r fun _ =>
          RouteRec.idle (idleOverlap s.config (.route r)))) ∧
      (state = .overlapHeld → ¬(tests ∧ overlapFree (.route r)) → answers read)) ∧
    ∀ (p : Fin 16) (role : Role), (s.lku.sections[k]).holder = some ⟨.portion p, role⟩ →
      let state := (s.hou.portions[p]).state
      (state.provable → first (.portion p) → answers (read.updPortion p fun x => { x with
        state := .inUse
        hold := { x.hold with status := upd x.hold.status 0 fun _ => .seenOccupied } })) ∧
      (state.provable → ¬first (.portion p) → answers (read.updPortion p fun x => { x with
        state := if read.portionProves p then .proven else .setting })) ∧
      (state = .idle → answers read) ∧
      (state = .overlapHeld → role = .overlap → overlapFree (.portion p) →
        answers ((read.freeElements (.portion p) (· == .overlap)).updPortion p fun _ =>
          PortionRec.idle (idleOverlap s.config (.portion p)))) ∧
      (state = .overlapHeld → ¬(role = .overlap ∧ overlapFree (.portion p)) → answers read)

/-- A notice of a section held by a route or a hosted portion in IN_USE. A LOCKED path section that
is not CLEAR or has OCC is SEEN_OCCUPIED. Then, in path order from the first not released, a
SEEN_OCCUPIED section is RELEASED where it is CLEAR without OCC and the next one, where there is
one, is SEEN_OCCUPIED; its holder goes, with those of the path points whose track section it is, and
with path section 0 of a route that of the entry signal. With the last one the path ends: the
held-flank set is empty, every offer is gone, and the owner is IDLE, or OVERLAP_HELD where its
overlap is HELD: a route with an overlap time then has a timer or a queue place, any other owner is
at once IDLE where every overlap section is CLEAR without OCC. No other holder changes (R88, R104,
R105, R106, R108, R109, R154). -/
def Obligations.TrainIsFollowedThroughThePath : Prop :=
  ∀ (s : State) (k : Fin 32) (o : Owner) (role : Role), s.sld.station = .run →
    (s.config.sections[k]).isSome = true → (s.acu.sections[k]).chg = true →
    (s.lku.sections[k]).holder = some ⟨o, role⟩ → (pathOf s.config o).length ≤ 8 →
    (match o with
      | .route r => (s.lku.routes[r]).state = .inUse ∧ (s.config.routes[r]).isSome = true
      | .portion p => (s.hou.portions[p]).state = .inUse) →
    let path := pathOf s.config o
    let seen := fun (j : Fin 32) =>
      (s.acu.sections[j]).state != .clear || (s.acu.sections[j]).occ
    let free := fun (j : Fin 32) =>
      (s.acu.sections[j]).state = .clear ∧ (j = k ∨ (s.acu.sections[j]).occ = false)
    let status := fun (i : Fin 8) =>
      match (s.holdOf o).status[i], path[i.val]? with
      | .locked, some j => if seen j = true then PathStatus.seenOccupied else .locked
      | x, _ => x
    let goes := fun (i : Fin 8) => ∀ (j : Fin 8) (x : Fin 32), j ≤ i → path[j.val]? = some x →
      status j = .released ∨ (status j = .seenOccupied ∧ free x ∧
        (j.val + 1 = path.length ∨ ∃ m : Fin 8, m.val = j.val + 1 ∧ status m = .seenOccupied))
    let releases := fun (x : Fin 32) => ∃ i : Fin 8, path[i.val]? = some x ∧ goes i ∧
      status i ≠ .released
    let ends := ∀ (i : Fin 8) (x : Fin 32), path[i.val]? = some x → goes i
    let overlapFree := ∀ j, j ∈ overlapOf s.config o → free j
    let overlapGoes := ends ∧ (s.holdOf o).overlap = .held ∧ overlapFree ∧
      (match o with | .route r => overlapTime s.config r = 0 | .portion _ => True)
    let read := s.updSection k fun x => { x with occ := false, chg := false }
    ∃ t, exec (.sectionNotice k) s = .next t ∧
      RestOfEvent s (read.followTrain o k (s.acu.sections[k]).occ) t ∧
      (∀ (j : Fin 32) (h : Holder), (s.lku.sections[j]).holder = some h →
        let freed := (h = ⟨o, .path⟩ ∧ releases j) ∨ (h = ⟨o, .overlap⟩ ∧ overlapGoes)
        (freed → (t.lku.sections[j]).holder = none) ∧
        (¬freed → (t.lku.sections[j]).holder = some h)) ∧
      (∀ (q : Fin 16) (h : Holder), (s.lku.points[q]).holder = some h →
        let freed := (h = ⟨o, .path⟩ ∧ (∃ p, (q, p) ∈ pointsOf s.config o) ∧
          ∃ c, s.config.points[q] = some c ∧ releases c.track) ∨
          (h = ⟨o, .overlap⟩ ∧ overlapGoes)
        (freed → (t.lku.points[q]).holder = none) ∧
        (¬freed → (t.lku.points[q]).holder = some h)) ∧
      (∀ (g : Fin 16) (h : Holder), (s.lku.signals[g]).holder = some h → h.role ≠ .overlap →
        let freed := h = ⟨o, .entry⟩ ∧ (∃ x, path[0]? = some x) ∧ goes 0 ∧ status 0 ≠ .released ∧
          ∃ r c, o = .route r ∧ s.config.routes[r] = some c ∧ c.entry = g
        (freed → (t.lku.signals[g]).holder = none) ∧
        (¬freed → (t.lku.signals[g]).holder = some h)) ∧
      (¬ends → (t.holdOf o).overlap = (s.holdOf o).overlap ∧
        (t.holdOf o).flank = (s.holdOf o).flank ∧
        ∀ i : Fin 8, ((∃ x, path[i.val]? = some x) → goes i → (t.holdOf o).status[i] = .released) ∧
          (¬((∃ x, path[i.val]? = some x) ∧ goes i) → (t.holdOf o).status[i] = status i)) ∧
      (∀ r : Fin 64, o = .route r →
        (¬ends → (t.lku.routes[r]).state = .inUse) ∧
        (ends → (t.lku.routes[r]).hold.flank = [] ∧
          (∀ q, q ∈ (s.lku.routes[r]).offers → t.hou.offers[q] = none) ∧
          ((s.lku.routes[r]).hold.overlap ≠ .held ∨ overlapGoes →
            t.lku.routes[r] = RouteRec.idle (idleOverlap s.config o)) ∧
          ((s.lku.routes[r]).hold.overlap = .held → ¬overlapGoes →
            (t.lku.routes[r]).state = .overlapHeld ∧
            (overlapTime s.config r ≠ 0 → (t.lku.routes[r]).pool ≠ .none)))) ∧
      ∀ p : Fin 16, o = .portion p →
        (¬ends → (t.hou.portions[p]).state = .inUse) ∧
        (ends → (t.hou.portions[p]).hold.flank = [] ∧
          ((s.hou.portions[p]).hold.overlap ≠ .held ∨ overlapGoes →
            t.hou.portions[p] = PortionRec.idle (idleOverlap s.config o)) ∧
          ((s.hou.portions[p]).hold.overlap = .held → ¬overlapGoes →
            (t.hou.portions[p]).state = .overlapHeld))

/-- Sectional release frees a path section only where its own view is CLEAR and its OCC latch is
clear (R105, R154). -/
def Obligations.NoticeFreesAPathSectionOnlyWhenClear : Prop :=
  ∀ (s t : State) (k j : Fin 32) (h : Holder), exec (.sectionNotice k) s = .next t →
    (s.lku.sections[j]).holder = some h → h.role = .path →
    (t.lku.sections[j]).holder ≠ some h →
    (t.lku.sections[j]).holder = none ∧ (t.acu.sections[j]).state = .clear ∧
      (t.acu.sections[j]).occ = false

/-- The completion test passes where every path point, every overlap point while the overlap is HELD
and every locally claimed flank point is in REST and detected at its position, and every offer
record of the route is GRANTED. A point notice clears CHG, and every route in SETTING that the point
bears on and whose completion test passes becomes LOCKED, its setting timer stopped and
SETTING_FAILED of it removed; every hosted portion in SETTING or PROVEN that the point bears on is
PROVEN or SETTING by its proving test, and every hosted flank grant whose entry used names the point
has the proven state of that entry; nothing else changes (R67, R84, R90, R129, R154; that a PROVEN
portion is tested too, log 25). -/
def Obligations.PointNoticeMakesTheTests : Prop :=
  ∀ s : State,
    (∀ (r : Fin 64) (c : RouteCfg), s.config.routes[r] = some c →
      (s.complete r = true ↔
        (∀ q, q ∈ c.plan.points ∨
            ((s.lku.routes[r]).hold.overlap = .held ∧ q ∈ c.plan.overlapPoints) ∨
            q ∈ flankPoints s.config (s.lku.routes[r]).hold.flank →
          (s.pcu.points[q.1]).controller = .rest ∧
            (s.pcu.points[q.1]).detected = detectedAt q.2) ∧
        ∀ k, k ∈ (s.lku.routes[r]).offers → ∃ o, s.hou.offers[k] = some o ∧ o.state = .granted)) ∧
    (∀ (x : Fin 16) (c : PortionCfg), s.config.portions[x] = some c →
      let hold := (s.hou.portions[x]).hold
      (s.portionProves x = true ↔
        (∀ q, q ∈ c.plan.points ∨ (hold.overlap = .held ∧ q ∈ c.plan.overlapPoints) ∨
            q ∈ flankPoints s.config hold.flank →
          (s.pcu.points[q.1]).controller = .rest ∧
            (s.pcu.points[q.1]).detected = detectedAt q.2) ∧
        (∀ k, k ∈ c.plan.path ∨ (hold.overlap = .held ∧ k ∈ c.plan.overlap) →
          s.proves k = true ∧ (s.acu.sections[k]).occ = false) ∧
        ∀ g, g ∈ flankSignals s.config hold.flank →
          s.lit g .red = true ∧ (s.lampRec g .red).failed = false)) ∧
    ∀ p : Fin 16, s.sld.station = .run → (s.config.points[p]).isSome = true →
      (s.pcu.points[p]).chg = true →
      let bears := fun (o : Owner) => ((s.ownPoints o).any fun q => q.1 == p) = true
      let locks := fun (r : Fin 64) =>
        (s.lku.routes[r]).state = .setting ∧ bears (.route r) ∧ s.complete r = true
      let tested := fun (x : Fin 16) => bears (.portion x) ∧ (s.hou.portions[x]).state.provable
      let names := fun (e : Fin 48) => ∃ q, elementOf s.config e = some (.point p q)
      ∃ (t : State) (routes : Vector RouteRec 64) (faults : List Condition)
          (portions : Vector PortionRec 16) (grants : Vector (Option Grant) 8),
        exec (.pointNotice p) s = .next t ∧
        RestOfEvent s { s.updPoint p (fun c => { c with chg := false }) with
          lku := { s.lku with routes := routes }, cmu := { s.cmu with faults := faults }
          hou := { s.hou with portions := portions, grants := grants } } t ∧
        (∀ r : Fin 64, (locks r → routes[r] =
            { s.lku.routes[r] with state := .locked, setting := .stopped }) ∧
          (¬locks r → routes[r] = s.lku.routes[r])) ∧
        (∀ c : Condition, c ∈ faults ↔ c ∈ s.cmu.faults ∧
          ¬∃ r, locks r ∧ c = ⟨.settingFailed, byteOf r.val⟩) ∧
        (∀ x : Fin 16, (tested x → portions[x] = { s.hou.portions[x] with
            state := if s.portionProves x then .proven else .setting }) ∧
          (¬tested x → portions[x] = s.hou.portions[x])) ∧
        (∀ (k : Fin 8), s.hou.grants[k] = none → grants[k] = none) ∧
        (∀ (k : Fin 8) (x : Grant), s.hou.grants[k] = some x →
          (names x.used → grants[k] = some { x with proven := s.entryProven x.used }) ∧
          (¬names x.used → grants[k] = some x))

/-- The setting timer of a route in SETTING expires: full release, by which no element is held by
the route, its record is at the IDLE values, every other holder stays; each distinct claim and hold
of its held-flank set is subtracted; its offer records are gone, and the release of each stands at
the tail of the class-1 queue; its pool reference is given up; no move is withdrawn; and
SETTING_FAILED (R71, R85, R86, R116, R126, R151). That the releases stand, and take their numbers,
in the order of the offer references of the route is the model's choice, log 12. Where no other
route from its entry signal stands beyond IDLE, the yellow and green lamp-failed flags of that
signal are clear, with their conditions (R100). -/
def Obligations.SettingExpiryReleasesTheRoute : Prop :=
  ∀ (s : State) (r : Fin 64), (s.lku.routes[r]).state = .setting →
    (s.lku.routes[r]).setting.due = true →
    let left := fun (h : Option Holder) =>
      if h.map (·.owner) = some (.route r) then none else h
    ∃ t, exec (.settingTimerExpiry r) s = .next t ∧
      RestOfEvent s ((s.fullRelease r).setFault .settingFailed (byteOf r.val)) t ∧
      t.lku.routes[r] = RouteRec.idle (idleOverlap s.config (.route r)) ∧
      (∀ k : Fin 32, t.lku.sections[k] =
        { s.lku.sections[k] with holder := left (s.lku.sections[k]).holder }) ∧
      (∀ p : Fin 16, (t.lku.points[p]).holder = left (s.lku.points[p]).holder ∧
        (t.lku.points[p]).blocked = (s.lku.points[p]).blocked) ∧
      (∀ g : Fin 16, (t.lku.signals[g]).holder = left (s.lku.signals[g]).holder ∧
        (t.lku.signals[g]).blocked = (s.lku.signals[g]).blocked) ∧
      (∀ k : Fin 8, t.hou.offers[k] =
        if k ∈ (s.lku.routes[r]).offers then none else s.hou.offers[k]) ∧
      FlankRemoved (s.lku.routes[r]).hold.entries s t ∧
      Queued s t ((distinct (s.lku.routes[r]).offers).flatMap fun k =>
        (s.hou.offers[k]).toList.flatMap fun o => addressed s.config o.neighbour
          (match o.kind with
          | .portion => .portionRelease o.target o.id
          | .flank => .flankRelease o.id)) ∧
      PoolGivenUp r s t ∧
      t.acu = s.acu ∧ t.pcu = s.pcu ∧ ⟨.settingFailed, byteOf r.val⟩ ∈ t.cmu.faults ∧
      ∀ c : RouteCfg, s.config.routes[r] = some c →
        (∀ (q : Fin 64) (x : RouteCfg), q ≠ r → s.config.routes[q] = some x → x.entry = c.entry →
          (s.lku.routes[q]).state = .idle) →
        ∀ l : Lamp, l ≠ .red → (t.lampRec c.entry l).failed = false ∧
          ⟨.lampFailed, lampElement c.entry l⟩ ∉ t.cmu.faults

/-- A request for a pool timer gets the lowest-numbered free timer with the full duration of the
route's state, or, where none is free, the tail of the queue; the pool reference says which; no
other route changes. A granted timer expires: it becomes free, and its route has no pool reference.
A route in APPROACH_HELD is fully released: its record is at the IDLE values, no section, point or
signal is held by it, every other holder stays, each distinct claim and hold of its held-flank set
is subtracted, its offer records are gone, and the release of each stands at the tail of the class-1
queue. A route in OVERLAP_HELD whose overlap sections are CLEAR with OCC clear is released: its
record is at the IDLE values with its overlap RELEASED, and no element is held by it with role
OVERLAP. Where they are not, it stays as it was but for its pool reference, and so does every
holder. Without APPROACH_HELD no offer, claim or hold changes and nothing is queued. The head of the
queue, where there is one, gets the timer with its full duration; the other timers stay, and so do
the other routes, where every offer reference names a record of its own route, as every step keeps
it; nothing else changes (R71, R86, R109, R110, R113, R115, R116, R117, R126, R151). That the
releases stand, and take their numbers, in the order of the offer references of the route is the
model's choice, log 12. -/
def Obligations.PoolGrantsLowestFreeTimerAndServesTheQueue : Prop :=
  (∀ (s : State) (r : Fin 64) (c : RouteCfg), s.config.routes[r] = some c →
    let t := s.requestTimer r
    (∀ k : Fin 16, s.rtp.timers[k] = none → (∀ j : Fin 16, j < k → s.rtp.timers[j] ≠ none) →
      t.rtp.timers[k] = some ⟨r, .start (10 *
        if (s.lku.routes[r]).state = .approachHeld then c.approachTime else c.overlapTime)⟩ ∧
      (t.lku.routes[r]).pool = .timer k ∧ t.rtp.queue = s.rtp.queue ∧
      ∀ j : Fin 16, j ≠ k → t.rtp.timers[j] = s.rtp.timers[j]) ∧
    ((∀ k : Fin 16, s.rtp.timers[k] ≠ none) → t.rtp.queue = s.rtp.queue ++ [r] ∧
      (t.lku.routes[r]).pool = .queued ∧ t.rtp.timers = s.rtp.timers) ∧
    ∀ q : Fin 64, q ≠ r → t.lku.routes[q] = s.lku.routes[q]) ∧
  ∀ (s : State) (k : Fin 16) (x : PoolTimer), s.rtp.timers[k] = some x → x.time.due = true →
    x.route ∉ s.rtp.queue →
    let r := x.route
    let state := (s.lku.routes[r]).state
    let clear := ∀ j, j ∈ overlapOf s.config (.route r) →
      (s.acu.sections[j]).state = .clear ∧ (s.acu.sections[j]).occ = false
    let whole := fun (h : Option Holder) =>
      if h.map (·.owner) = some (.route r) then none else h
    let overlap := fun (h : Option Holder) => if h = some ⟨.route r, .overlap⟩ then none else h
    let holders := fun (left : Option Holder → Option Holder) (t : State) =>
      (∀ j : Fin 32, t.lku.sections[j] =
        { s.lku.sections[j] with holder := left (s.lku.sections[j]).holder }) ∧
      (∀ p : Fin 16, (t.lku.points[p]).holder = left (s.lku.points[p]).holder ∧
        (t.lku.points[p]).blocked = (s.lku.points[p]).blocked) ∧
      ∀ g : Fin 16, (t.lku.signals[g]).holder = left (s.lku.signals[g]).holder ∧
        (t.lku.signals[g]).blocked = (s.lku.signals[g]).blocked
    ∃ t, exec (.poolTimerExpiry k) s = .next t ∧ RestOfEvent s (s.poolExpiry k) t ∧
      (state = .approachHeld →
        t.lku.routes[r] = RouteRec.idle (idleOverlap s.config (.route r)) ∧ holders whole t ∧
        (∀ e : Fin 8, t.hou.offers[e] =
          if e ∈ (s.lku.routes[r]).offers then none else s.hou.offers[e]) ∧
        FlankRemoved (s.lku.routes[r]).hold.entries s t ∧
        Queued s t ((distinct (s.lku.routes[r]).offers).flatMap fun e =>
          (s.hou.offers[e]).toList.flatMap fun o => addressed s.config o.neighbour
            (match o.kind with
            | .portion => .portionRelease o.target o.id
            | .flank => .flankRelease o.id))) ∧
      (state ≠ .approachHeld → t.hou.offers = s.hou.offers ∧ FlankRemoved [] s t ∧
        t.slu.classOne = s.slu.classOne) ∧
      (state = .overlapHeld → clear →
        t.lku.routes[r] = RouteRec.idle (idleOverlap s.config (.route r)) ∧ holders overlap t) ∧
      (state ≠ .approachHeld → (state = .overlapHeld → ¬clear) →
        t.lku.routes[r] = { s.lku.routes[r] with pool := .none } ∧
        t.lku.sections = s.lku.sections ∧ t.lku.points = s.lku.points ∧
        t.lku.signals = s.lku.signals) ∧
      (s.rtp.queue = [] → t.rtp.timers[k] = none ∧ t.rtp.queue = []) ∧
      (∀ q rest, s.rtp.queue = q :: rest → t.rtp.queue = rest ∧
        t.rtp.timers[k] = some ⟨q, .start (s.poolDuration q)⟩ ∧
        (t.lku.routes[q]).pool = .timer k) ∧
      (s.OffersOwned → ∀ q : Fin 64, q ≠ r → t.lku.routes[q] = { s.lku.routes[q] with
        pool := if s.rtp.queue.head? = some q then .timer k else (s.lku.routes[q]).pool }) ∧
      (∀ j : Fin 16, j ≠ k → t.rtp.timers[j] = s.rtp.timers[j]) ∧
      t.acu = s.acu ∧ t.pcu = s.pcu ∧
      ∀ c : Condition, c.kind ≠ .lampFailed → (c ∈ t.cmu.faults ↔ c ∈ s.cmu.faults)

/-! ## Panel commands -/

/-- An accepted COMMAND: in RUN it joins the tail of a queue of fewer than 8, and a full queue
answers BUSY; in HALT it is answered HALTED; in QUIET it is discarded without an answer; nothing
else changes (R160, R161). -/
def Obligations.CommandArrivalFollowsTheStationState : Prop :=
  ∀ (s : State) (f : Frame) (q : Fin 2) (code a b c : Byte),
    Accepts s kindCommand f (.panel q) (.command code a b c) →
    let u := s.received (.panel q) f
    let cmd : QueuedCommand := ⟨q, f.seq, code, a, b, c⟩
    ∃ t, exec (.command f) s = .next t ∧
      (s.sld.station = .run → s.cmu.queue.length < 8 →
        RestOfEvent s { u with cmu := { u.cmu with queue := s.cmu.queue ++ [cmd] } } t) ∧
      (s.sld.station = .run → s.cmu.queue.length = 8 → RestOfEvent s (u.refused cmd .busy) t) ∧
      (s.sld.station = .halt → RestOfEvent s (u.refused cmd .halted) t) ∧
      (s.sld.station = .quiet → RestOfEvent s u t)

/-- The checks of a route's setting event in their order (R75). The route state and the entry
signal: SET_ROUTE for a route that is not IDLE is refused NOT_IDLE; for an IDLE one, an entry signal
with a holder gives CONFLICT, then one with its block flag set BLOCKED, then one with a flank hold
FLANK_HELD (R76). Then each path section, each path and overlap point, each overlap section: the
first that fails gives the reason of its first test, a predecessor's overlap being no conflict (R77,
R78). Then the neighbour of the portion request (R79), the flank search and the count of free offer
records (R80). A refused command takes nothing; where every check passes the route is taken and the
command answered DONE. -/
def Obligations.SettingChecksRefuseInOrder : Prop :=
  ∀ (s : State) (c : QueuedCommand) (rest : List QueuedCommand) (r : Fin 64) (cfg : RouteCfg),
    Takes s cmdSetRoute c rest → configured s.config.routes c.arg1 = some (r, cfg) →
    let entry := s.lku.signals[cfg.entry]
    let answers := fun (why : Reason) =>
      ∃ t, exec .setRoute s = .next t ∧ RestOfEvent s ((s.taken rest).refused c why) t
    let mayTake := fun (holder : Option Holder) => ∀ h, holder = some h → h.role = .overlap ∧
      ∃ p, planOf s.config h.owner = some p ∧ p.exit = .localSignal cfg.entry
    let sectionFails := fun (k : Fin 32) (why : Reason) =>
      let lock := s.lku.sections[k]
      (why = .conflict ∧ ¬mayTake lock.holder) ∨
        (why = .blocked ∧ mayTake lock.holder ∧ lock.blocked = true)
    let pointFails := fun (q : Fin 16 × Position) (why : Reason) =>
      let lock := s.lku.points[q.1]
      let moves := (s.pcu.points[q.1]).detected ≠ detectedAt q.2 ∨
        (s.pcu.points[q.1]).controller = .moving q.2.other
      let claimed := (if q.2 = .normal then lock.claimsR else lock.claimsN) ≠ 0
      let clear := ∃ x, s.config.points[q.1] = some x ∧
        (s.acu.sections[x.track]).state = .clear ∧ (s.acu.sections[x.track]).occ = false
      (why = .conflict ∧ ¬mayTake lock.holder) ∨
        (mayTake lock.holder ∧
          ((why = .blocked ∧ lock.blocked = true ∧ moves) ∨
          (¬(lock.blocked = true ∧ moves) ∧
            ((why = .flankHeld ∧ claimed) ∨ (why = .pointOccupied ∧ ¬claimed ∧ moves ∧ ¬clear)))))
    let fails := fun (x : Fin 32 ⊕ Fin 16 × Position) (why : Reason) =>
      match x with
      | .inl k => sectionFails k why
      | .inr q => pointFails q why
    let elements : List (Fin 32 ⊕ Fin 16 × Position) :=
      cfg.plan.path.map Sum.inl ++ ((cfg.plan.points ++ cfg.plan.overlapPoints).map Sum.inr ++
        cfg.plan.overlap.map Sum.inl)
    let entered := (s.lku.routes[r]).state = .idle ∧ entry.holder = none ∧ entry.blocked = false ∧
      entry.holds = 0
    let free := entered ∧ ∀ x, x ∈ elements → ∀ why, ¬fails x why
    let heard := free ∧ ∀ n p, cfg.request = some (n, p) →
      (s.hou.neighbours[n]).state = .alive ∧ (s.hou.neighbours[n]).blocked = false
    let spare := ((List.finRange 8).filter fun k => (s.hou.offers[k]).isNone).length
    ((s.lku.routes[r]).state ≠ .idle → answers .notIdle) ∧
    ((s.lku.routes[r]).state = .idle → entry.holder ≠ none → answers .conflict) ∧
    ((s.lku.routes[r]).state = .idle → entry.holder = none → entry.blocked = true →
      answers .blocked) ∧
    ((s.lku.routes[r]).state = .idle → entry.holder = none → entry.blocked = false →
      entry.holds ≠ 0 → answers .flankHeld) ∧
    (entered → ∀ before x after why, elements = before ++ x :: after →
      (∀ y, y ∈ before → ∀ w, ¬fails y w) → fails x why → answers why) ∧
    (free → ∀ n p, cfg.request = some (n, p) →
      ((s.hou.neighbours[n]).state ≠ .alive → answers .neighbourSilent) ∧
      ((s.hou.neighbours[n]).state = .alive → (s.hou.neighbours[n]).blocked = true →
        answers .neighbourBlocked)) ∧
    (heard → s.flankSearch cfg.plan.flank = none → answers .flankUnavailable) ∧
    ∀ chosen, heard → s.flankSearch cfg.plan.flank = some chosen →
      let requests := cfg.request.toList.length + (remoteElements s.config chosen).length
      (spare < requests → answers .noOfferSlot) ∧
      (requests ≤ spare → ∃ t, exec .setRoute s = .next t ∧
        RestOfEvent s (((s.taken rest).takeRoute r cfg chosen).done c) t)

/-- The flank search: it chooses for each position of the list, in order, the first entry of its
chain whose element is claimable with the elements chosen before, and yields nothing where a chain
has none. A chain is an entry followed by its substitute, that one's substitute, and so on while
they are configured, three entries at most. A local point is claimable where
its holder requires the same position, it is not claimed or chosen in the other, its count has room
or it is chosen already, and, where it needs a move, it is not blocked and its track section is
CLEAR without OCC; a local signal where it has no holder and its count has room or it is chosen
already; a remote element where its neighbour is ALIVE and not BLOCKED, and no choice names the same
point in the other position (R118, R121, R122, R123, R124; that a FAILED point needs a move wherever
it lies is log 37). -/
def Obligations.FlankSearchChoosesTheFirstClaimable : Prop :=
  ∀ s : State,
    (∀ (e : Fin 48) (c : FlankCfg), s.config.flank[e] = some c →
      (chainOf s.config e).head? = some e ∧ (chainOf s.config e).length ≤ 3 ∧
      ∀ (i : Nat) (a b : Fin 48), i + 1 < 3 → (chainOf s.config e)[i]? = some a →
        ((chainOf s.config e)[i + 1]? = some b ↔
          (s.config.flank[a]).bind (·.substitute) = some b ∧
            (s.config.flank[b]).isSome = true)) ∧
    (∀ list chosen : List (Fin 48), s.flankSearch list = some chosen ↔
      chosen.length = list.length ∧
      ∀ (i : Nat) (e x : Fin 48), list[i]? = some e → chosen[i]? = some x →
        let prior := (chosen.take i).filterMap (elementOf s.config)
        let claims := fun (y : Fin 48) =>
          ∃ z, elementOf s.config y = some z ∧ s.claimable prior z = true
        claims x ∧ ∃ before after, chainOf s.config e = before ++ x :: after ∧
          ∀ y, y ∈ before → ¬claims y) ∧
    ∀ prior : List FlankElement,
      (∀ (p : Fin 16) (q : Position),
        let lock := s.lku.points[p]
        let point := s.pcu.points[p]
        let count := fun (x : Position) => if x = .normal then lock.claimsN else lock.claimsR
        let moves := point.detected ≠ detectedAt q ∨ point.controller = .moving q.other ∨
          point.controller = .failed
        s.claimable prior (.point p q) = true ↔
          (∀ h, lock.holder = some h → requiredPosition s.config h.owner p = some q) ∧
          count q.other = 0 ∧ .point p q.other ∉ prior ∧ (count q < 15 ∨ .point p q ∈ prior) ∧
          (lock.blocked = false ∨ ¬moves) ∧
          (moves → ∃ c, s.config.points[p] = some c ∧
            (s.acu.sections[c.track]).state = .clear ∧
            (s.acu.sections[c.track]).occ = false)) ∧
      (∀ g : Fin 16, s.claimable prior (.signal g) = true ↔ (s.lku.signals[g]).holder = none ∧
        ((s.lku.signals[g]).holds < 15 ∨ .signal g ∈ prior)) ∧
      ∀ m : Fin 32,
        let hears := ∃ b, s.config.boundary[m] = some b ∧
          (s.hou.neighbours[b.neighbour]).state = .alive ∧
          (s.hou.neighbours[b.neighbour]).blocked = false
        (∀ q : Position, s.claimable prior (.remotePoint m q) = true ↔
          hears ∧ .remotePoint m q.other ∉ prior) ∧
        (s.claimable prior (.remoteSignal m) = true ↔ hears)

/-- SET_ROUTE: an unknown route is refused UNKNOWN_ELEMENT; a route whose checks fail is refused
with the reason of the first, and the event takes nothing; a route whose checks pass holds its entry
signal, its path and its overlap, every path section LOCKED, the overlap HELD where it has one; its
held-flank set holds the entries that the search chose, each distinct claim and hold of them counted
once more; a move request has reached every path, overlap and flank point that was not at rest in
position; one offer record stands SENT for each remote request, with the next id, entered in the set
item of its element, and its request placed, then the answer DONE; and the route is LOCKED, without
SETTING_FAILED, exactly where the completion test passes at the end of the event, and otherwise in
SETTING with its timer started (R59, R71, R75, R81, R84, R125, R148). That the portion request comes
before the flank requests, and these in the order of the flank list, is the model's choice, log 38,
and that the answer comes after the requests is log 12. -/
def Obligations.SetRouteTakesAllOrNothing : Prop :=
  ∀ (s : State) (c : QueuedCommand) (rest : List QueuedCommand), Takes s cmdSetRoute c rest →
    let u := s.taken rest
    (configured s.config.routes c.arg1 = none →
      ∃ t, exec .setRoute s = .next t ∧ RestOfEvent s (u.refused c .unknownElement) t) ∧
    ∀ (r : Fin 64) (cfg : RouteCfg), configured s.config.routes c.arg1 = some (r, cfg) →
      (∀ why, u.checkRoute r cfg = .error why →
        ∃ t, exec .setRoute s = .next t ∧ RestOfEvent s (u.refused c why) t) ∧
      ∀ chosen, u.checkRoute r cfg = .ok chosen →
        let remote := fun (x : FlankElement) =>
          let asks := fun (m : Fin 32) (code : Byte) => (s.config.boundary[m]).map fun b =>
            (⟨.flank, b.neighbour, b.number, code⟩ : RemoteRequest)
          match x with
          | .remotePoint m .normal => asks m 0
          | .remotePoint m .reverse => asks m 1
          | .remoteSignal m => asks m 2
          | _ => none
        let elements := distinct (chosen.filterMap (elementOf s.config))
        let wanted : List RemoteRequest :=
          (cfg.request.map fun q => ⟨.portion, q.1, byteOf q.2.val, 0⟩).toList ++
            elements.filterMap remote
        let flank := elements.filterMap fun x =>
          match x with
          | .point p q => some (p, q)
          | _ => none
        let points := cfg.plan.points ++ cfg.plan.overlapPoints ++ flank
        ∃ t, exec .setRoute s = .next t ∧ RestOfEvent s ((u.takeRoute r cfg chosen).done c) t ∧
          (let complete := wanted = [] ∧ ∀ q, q ∈ points →
            (t.pcu.points[q.1]).controller = .rest ∧
              (t.pcu.points[q.1]).detected = detectedAt q.2
           (complete → (t.lku.routes[r]).state = .locked ∧
             (t.lku.routes[r]).setting = .stopped ∧
             ⟨.settingFailed, byteOf r.val⟩ ∉ t.cmu.faults) ∧
           (¬complete → (t.lku.routes[r]).state = .setting ∧
             (t.lku.routes[r]).setting = .start (10 * cfg.settingLimit))) ∧
          (t.lku.routes[r]).note = false ∧
          (t.lku.routes[r]).hold.status = Vector.replicate 8 .locked ∧
          (t.lku.routes[r]).hold.overlap =
            (if cfg.plan.overlap = [] ∧ cfg.plan.overlapPoints = [] then .none else .held) ∧
          (t.lku.signals[cfg.entry]).holder = some ⟨.route r, .entry⟩ ∧
          (∀ k : Fin 32, k ∈ cfg.plan.overlap →
            (t.lku.sections[k]).holder = some ⟨.route r, .overlap⟩) ∧
          (∀ k : Fin 32, k ∈ cfg.plan.path → k ∉ cfg.plan.overlap →
            (t.lku.sections[k]).holder = some ⟨.route r, .path⟩) ∧
          (∀ q, q ∈ cfg.plan.overlapPoints →
            (t.lku.points[q.1]).holder = some ⟨.route r, .overlap⟩) ∧
          (∀ q, q ∈ cfg.plan.points → q.1 ∉ cfg.plan.overlapPoints.map (·.1) →
            (t.lku.points[q.1]).holder = some ⟨.route r, .path⟩) ∧
          (t.lku.routes[r]).hold.entries = chosen ∧ FlankAdded chosen s t ∧
          MovesRequested points s t ∧
          (∀ i, i ∈ (t.lku.routes[r]).hold.flank → ∀ x, elementOf s.config i.entry = some x →
            (remote x = none → i.offer = none) ∧
            ∀ w, remote x = some w → ∃ k, i.offer = some k ∧
              ∃ o, t.hou.offers[k] = some o ∧ o.kind = w.kind ∧ o.neighbour = w.neighbour ∧
                o.target = w.target ∧ o.code = w.code ∧ o.route = r) ∧
          ∃ ids, OffersMade r wanted ids s t ∧ Queued s t
            ((wanted.zip ids).flatMap (fun w => addressed s.config w.1.neighbour
              (w.1.telegram w.2)) ++
            (s.config.panels[c.panel]).toList.map fun x =>
              (.commandResult c.seq c.code 0 0, x.address))

/-- The takeover of a setting event that passes its checks. Each owner that held an element of the
new route as its overlap, and whose exit signal is the new route's entry signal, loses its overlap:
every overlap element that the new route does not list is free, the overlap state RELEASED; one in
OVERLAP_HELD is IDLE, and where it is the only one its pool timer is free or goes to the head of the
queue, its queue place is gone; any other keeps its state and its path. An owner that loses nothing
keeps its holds (R81, R82, R116; the order among several is log 38 and not said here). -/
def Obligations.TakeoverDispossessesThePredecessors : Prop :=
  ∀ (s : State) (c : QueuedCommand) (rest : List QueuedCommand) (r : Fin 64) (cfg : RouteCfg)
    (chosen : List (Fin 48)), Takes s cmdSetRoute c rest →
    configured s.config.routes c.arg1 = some (r, cfg) →
    (s.taken rest).checkRoute r cfg = .ok chosen →
    let plan := cfg.plan
    let listed := fun (k : Fin 32) => k ∈ plan.path ∨ k ∈ plan.overlap
    let listedPoint := fun (p : Fin 16) => ∃ q, (p, q) ∈ plan.points ∨ (p, q) ∈ plan.overlapPoints
    let loses := fun (o : Owner) =>
      ((∃ k : Fin 32, listed k ∧ (s.lku.sections[k]).holder = some ⟨o, .overlap⟩) ∨
        ∃ p : Fin 16, listedPoint p ∧ (s.lku.points[p]).holder = some ⟨o, .overlap⟩) ∧
      ∃ x, planOf s.config o = some x ∧ x.exit = .localSignal cfg.entry
    let gone := fun (h : Option Holder) => ∃ o, h = some ⟨o, .overlap⟩ ∧ loses o
    ∃ t, exec .setRoute s = .next t ∧
      (∀ k : Fin 32, ¬listed k →
        (gone (s.lku.sections[k]).holder → (t.lku.sections[k]).holder = none) ∧
        (¬gone (s.lku.sections[k]).holder →
          (t.lku.sections[k]).holder = (s.lku.sections[k]).holder)) ∧
      (∀ p : Fin 16, ¬listedPoint p →
        (gone (s.lku.points[p]).holder → (t.lku.points[p]).holder = none) ∧
        (¬gone (s.lku.points[p]).holder → (t.lku.points[p]).holder = (s.lku.points[p]).holder)) ∧
      (∀ q : Fin 64, q ≠ r →
        let old := s.lku.routes[q]
        let new := t.lku.routes[q]
        (¬loses (.route q) → new.state = old.state ∧ new.hold = old.hold) ∧
        (loses (.route q) → old.state ≠ .overlapHeld →
          new.state = old.state ∧ new.hold = { old.hold with overlap := .released } ∧
          new.offers = old.offers ∧ new.note = old.note) ∧
        (loses (.route q) → old.state = .overlapHeld →
          new.state = .idle ∧ new.hold = Hold.idle (idleOverlap s.config (.route q)) ∧
          new.note = false)) ∧
      (∀ p : Fin 16,
        let old := s.hou.portions[p]
        let new := t.hou.portions[p]
        (¬loses (.portion p) → new.hold = old.hold ∧ new.requester = old.requester) ∧
        (loses (.portion p) → old.state ≠ .overlapHeld →
          new.hold = { old.hold with overlap := .released } ∧ new.requester = old.requester ∧
          (old.state = .inUse → new.state = .inUse)) ∧
        (loses (.portion p) → old.state = .overlapHeld →
          new = PortionRec.idle (idleOverlap s.config (.portion p)))) ∧
      ((∀ q : Fin 64, q ≠ r → loses (.route q) → (s.lku.routes[q]).state ≠ .overlapHeld) →
        t.rtp = s.rtp) ∧
      ∀ q : Fin 64, q ≠ r → loses (.route q) → (s.lku.routes[q]).state = .overlapHeld →
        (∀ x : Fin 64, loses (.route x) → x = q) →
        ((s.lku.routes[q]).pool = .none → t.rtp = s.rtp) ∧
        ((s.lku.routes[q]).pool = .queued → t.rtp =
          { s.rtp with queue := s.rtp.queue.filter fun x => x ≠ q }) ∧
        ∀ k : Fin 16, (s.lku.routes[q]).pool = .timer k →
          (s.rtp.queue = [] → t.rtp = { s.rtp with timers := upd s.rtp.timers k fun _ => none }) ∧
          ∀ x xs, s.rtp.queue = x :: xs → t.rtp.queue = xs ∧
            t.rtp.timers = upd s.rtp.timers k fun _ => some ⟨x, .start (s.poolDuration x)⟩

/-- CANCEL_ROUTE by the state of the route: NOT_SET, IN_USE and ALREADY_RELEASING change nothing; a
route in SETTING is fully released; one in LOCKED is fully released where its approach sections pass
the proving rule with OCC clear, and otherwise becomes APPROACH_HELD and asks the pool for a timer;
both are answered DONE (R111, R112). That the releases of a full release come in the order of the
offer references of the route, and the answer after them, is the model's choice, log 12. -/
def Obligations.CancelRouteFollowsTheRouteState : Prop :=
  ∀ (s : State) (c : QueuedCommand) (rest : List QueuedCommand), Takes s cmdCancelRoute c rest →
    let u := s.taken rest
    let answers := fun (v : State) => ∃ t, exec .cancelRoute s = .next t ∧ RestOfEvent s v t
    (configured s.config.routes c.arg1 = none → answers (u.refused c .unknownElement)) ∧
    ∀ (r : Fin 64) (cfg : RouteCfg), configured s.config.routes c.arg1 = some (r, cfg) →
      ((s.lku.routes[r]).state = .idle → answers (u.refused c .notSet)) ∧
      ((s.lku.routes[r]).state = .setting → answers ((u.fullRelease r).done c)) ∧
      ((s.lku.routes[r]).state = .locked →
        ((∀ k, k ∈ cfg.approach → s.proves k = true ∧ (s.acu.sections[k]).occ = false) →
          answers ((u.fullRelease r).done c)) ∧
        ((∃ k, k ∈ cfg.approach ∧ ¬(s.proves k = true ∧ (s.acu.sections[k]).occ = false)) →
          answers (((u.updRoute r fun x => { x with state := .approachHeld }).requestTimer r).done
            c))) ∧
      ((s.lku.routes[r]).state = .inUse → answers (u.refused c .inUse)) ∧
      ((s.lku.routes[r]).state = .approachHeld ∨ (s.lku.routes[r]).state = .overlapHeld →
        answers (u.refused c .alreadyReleasing))

/-- MOVE_POINT: the checks of R60 in their order, each refusal leaving everything as it was; when
all pass, a move toward the position from REST or FAILED, or from FAILED detected there REST with
CHG set (R58, R60, R161; that the test of the position comes before that of the number is log 34).
-/
def Obligations.MovePointChecksThenMoves : Prop :=
  ∀ (s : State) (c : QueuedCommand) (rest : List QueuedCommand), Takes s cmdMovePoint c rest →
    let u := s.taken rest
    let answers := fun (v : State) => ∃ t, exec .movePoint s = .next t ∧ RestOfEvent s v t
    (c.arg2 ≠ 0 → c.arg2 ≠ 1 → answers (u.refused c .unknownCommand)) ∧
    ∀ q : Position, c.arg2 = (if q = .normal then 0 else 1) →
      (configured s.config.points c.arg1 = none → answers (u.refused c .unknownElement)) ∧
      ∀ (p : Fin 16) (cfg : PointCfg), configured s.config.points c.arg1 = some (p, cfg) →
        let lock := s.lku.points[p]
        let point := s.pcu.points[p]
        let free := lock.holder = none ∧ lock.claimsN = 0 ∧ lock.claimsR = 0
        let track := s.acu.sections[cfg.track]
        let clear := track.state = .clear ∧ track.occ = false
        let there := point.controller = .rest ∧ point.detected = detectedAt q
        let moving := point.controller = .movingN ∨ point.controller = .movingR
        (¬free → answers (u.refused c .pointNotFree)) ∧
        (free → lock.blocked = true → answers (u.refused c .blocked)) ∧
        (free → lock.blocked = false → ¬clear → answers (u.refused c .pointOccupied)) ∧
        (free → lock.blocked = false → clear → cfg.individual = false →
          answers (u.refused c .notPermitted)) ∧
        (free → lock.blocked = false → clear → cfg.individual = true → there →
          answers (u.refused c .alreadyThere)) ∧
        (free → lock.blocked = false → clear → cfg.individual = true → moving →
          answers (u.refused c .busy)) ∧
        (free → lock.blocked = false → clear → cfg.individual = true → ¬moving →
          point.detected ≠ detectedAt q →
          answers ((u.updPoint p fun x => { x with
            controller := .moving q, chg := true, move := .start (10 * cfg.moveLimit),
            settle := .stopped }).done c)) ∧
        (free → lock.blocked = false → clear → cfg.individual = true →
          point.controller = .failed → point.detected = detectedAt q →
          answers ((u.updPoint p fun x => { x with controller := .rest, chg := true }).done c))

/-- BLOCK: the flag of the named section, point or signal set for on and cleared for off, whatever
holds the element, answered DONE; a kind or an on/off value outside its set gives UNKNOWN_COMMAND, a
number of no configured element UNKNOWN_ELEMENT; nothing else changes (R72, R161, R162; the order of
the two tests is log 34). -/
def Obligations.BlockChangesOneFlag : Prop :=
  ∀ (s : State) (c : QueuedCommand) (rest : List QueuedCommand), Takes s cmdBlock c rest →
    let u := s.taken rest
    let answers := fun (v : State) => ∃ t, exec .block s = .next t ∧ RestOfEvent s v t
    (3 ≤ c.arg1.toNat ∨ 2 ≤ c.arg3.toNat → answers (u.refused c .unknownCommand)) ∧
    (c.arg3.toNat ≤ 1 → c.arg1 = 0 →
      (configured s.config.sections c.arg2 = none → answers (u.refused c .unknownElement)) ∧
      ∀ k x, configured s.config.sections c.arg2 = some (k, x) →
        answers ((u.updSectionLock k fun l => { l with blocked := c.arg3 == 1 }).done c)) ∧
    (c.arg3.toNat ≤ 1 → c.arg1 = 1 →
      (configured s.config.points c.arg2 = none → answers (u.refused c .unknownElement)) ∧
      ∀ k x, configured s.config.points c.arg2 = some (k, x) →
        answers ((u.updPointLock k fun l => { l with blocked := c.arg3 == 1 }).done c)) ∧
    (c.arg3.toNat ≤ 1 → c.arg1 = 2 →
      (configured s.config.signals c.arg2 = none → answers (u.refused c .unknownElement)) ∧
      ∀ k x, configured s.config.signals c.arg2 = some (k, x) →
        answers ((u.updSignalLock k fun l => { l with blocked := c.arg3 == 1 }).done c))

/-- RESET_SECTION: UNKNOWN_ELEMENT, then the reset conditions in their order with their reasons,
then RESET_PENDING; where all pass, the pending reset record is made with the section, the panel's
address and the window of 10 s, and no section changes; a refusal leaves the record as it was (R44,
R45). -/
def Obligations.ResetSectionMakesThePendingRecord : Prop :=
  ∀ (s : State) (c : QueuedCommand) (rest : List QueuedCommand), Takes s cmdResetSection c rest →
    let u := s.taken rest
    let answers := fun (v : State) => ∃ t, exec .resetSection s = .next t ∧ RestOfEvent s v t
    (configured s.config.sections c.arg1 = none → answers (u.refused c .unknownElement)) ∧
    ∀ (k : Fin 32) (cfg : SectionCfg), configured s.config.sections c.arg1 = some (k, cfg) →
      let r := s.acu.sections[k]
      let owned := cfg.owner = none
      let resettable := r.state = .disturbed ∨ r.state = .prepared ∨ r.state = .sweeping
      let locked := (s.lku.sections[k]).holder ≠ none ∨
        ∃ (q : Fin 64) (x : RouteCfg), (s.lku.routes[q]).state = .approachHeld ∧
          s.config.routes[q] = some x ∧ k ∈ x.approach
      let heard := ∀ n, boundaryNeighbour s.config k = some n →
        (s.hou.neighbours[n]).state = .alive
      (¬owned → answers (u.refused c .notOwner)) ∧
      (owned → ¬resettable → answers (u.refused c .notResettable)) ∧
      (owned → resettable → locked → answers (u.refused c .sectionLocked)) ∧
      (owned → resettable → ¬locked → ¬heard → answers (u.refused c .neighbourSilent)) ∧
      (owned → resettable → ¬locked → heard → s.cmu.pendingReset ≠ none →
        answers (u.refused c .resetPending)) ∧
      (owned → resettable → ¬locked → heard → s.cmu.pendingReset = none →
        let record : PendingReset := ⟨k, panelAddress s.config c.panel, .start 100⟩
        answers ({ u with cmu := { u.cmu with pendingReset := some record } }.done c))

/-- CONFIRM_RESET in the steps of R46; a reset that is executed leaves the section PREPARED with
count 0, CHG set and OCC as it stood, discards the record, and for a boundary section places
SECTION_RESET with the neighbour's number (R46, R48, R49). That SECTION_RESET is placed before the
answer, and so takes its number first, is the model's choice, log 12. -/
def Obligations.ConfirmResetExecutesTheReset : Prop :=
  ∀ (s : State) (c : QueuedCommand) (rest : List QueuedCommand), Takes s cmdConfirmReset c rest →
    let u := s.taken rest
    let ended := { u with cmu := { u.cmu with pendingReset := none } }
    let answers := fun (v : State) => ∃ t, exec .confirmReset s = .next t ∧ RestOfEvent s v t
    (configured s.config.sections c.arg1 = none → answers (u.refused c .unknownElement)) ∧
    ∀ (k : Fin 32) (cfg : SectionCfg), configured s.config.sections c.arg1 = some (k, cfg) →
      (s.cmu.pendingReset = none → answers (u.refused c .noPendingReset)) ∧
      ∀ r, s.cmu.pendingReset = some r →
        let mine := r.panel = panelAddress s.config c.panel
        let agrees := r.number = k ∧ c.arg2 = 255 - c.arg1
        let prepared := ended.updSection k fun x =>
          { x with count := 0, state := .prepared, chg := true }
        (¬mine → answers (u.refused c .noPendingReset)) ∧
        (mine → ¬agrees → answers (ended.refused c .confirmMismatch)) ∧
        (mine → agrees → ∀ why, s.resetRefusal k cfg = some why → answers (ended.refused c why)) ∧
        (mine → agrees → s.resetRefusal k cfg = none →
          (boundaryNeighbour s.config k = none → answers (prepared.done c)) ∧
          ∀ n number, boundaryNeighbour s.config k = some n → cfg.neighbourNumber = some number →
            answers ((prepared.toNeighbour n (.sectionReset (byteOf number.val))).done c))

/-- CLEAR_NEIGHBOUR_BLOCK clears the BLOCKED flag and NEIGHBOUR_BLOCKED; CLEAR_FAULT removes a
latching condition that stands, clears with HEAD_SEQUENCE the sequence-fault flag of a head that is
not FAULTED, and refuses NOT_LATCHED any other kind and any condition that does not stand; a command
code the part does not know is refused UNKNOWN_COMMAND; nothing else changes (R22, R161, R163). -/
def Obligations.ClearingAndUnknownCommands : Prop :=
  ∀ (s : State) (c : QueuedCommand) (rest : List QueuedCommand),
    let u := s.taken rest
    (Takes s cmdClearNeighbourBlock c rest →
      let answers := fun (v : State) => ∃ t, exec .clearNeighbourBlock s = .next t ∧
      RestOfEvent s v t
      (configured s.config.neighbours c.arg1 = none → answers (u.refused c .unknownElement)) ∧
      ∀ n x, configured s.config.neighbours c.arg1 = some (n, x) →
        answers (((u.updNeighbour n fun y => { y with blocked := false }).clearFault
          .neighbourBlocked (byteOf n.val)).done c)) ∧
    (Takes s cmdClearFault c rest →
      let answers := fun (v : State) => ∃ t, exec .clearFault s = .next t ∧ RestOfEvent s v t
      let latching := fun (kind : FaultKind) => kind ∈ ([.headSequence, .remoteImplausible,
        .pointTimeout, .trailed, .settingFailed, .passedAtDanger] : List FaultKind)
      (∀ kind, latching kind → c.arg1 = kind.code → s.hasFault kind c.arg2 = true →
        (kind ≠ .headSequence → answers ((u.clearFault kind c.arg2).done c)) ∧
        (∀ h : Fin 24, kind = .headSequence → c.arg2 = byteOf h.val →
          answers (((u.clearFault kind c.arg2).updHead h fun x =>
            { x with seqFault := if x.phase = .faulted then x.seqFault else false }).done c)) ∧
        (kind = .headSequence → 24 ≤ c.arg2.toNat →
          answers ((u.clearFault kind c.arg2).done c))) ∧
      (∀ kind, latching kind → c.arg1 = kind.code → s.hasFault kind c.arg2 = false →
        answers (u.refused c .notLatched)) ∧
      ((∀ kind, latching kind → c.arg1 ≠ kind.code) → answers (u.refused c .notLatched))) ∧
    (Takes s c.code c rest → c.code = 0 ∨ 9 ≤ c.code.toNat →
      ∃ t, exec .unknownCommand s = .next t ∧ RestOfEvent s (u.refused c .unknownCommand) t)

/-! ## Neighbours -/

/-- An accepted STATUS that does not carry HALT: the record is ALIVE with its silence timer afresh
and the content as its view; each baseline of a listed head of this neighbour takes the reported
totals; each section takes the sum of its contributions and is DISTURBED by an implausible or
flagged report; a neighbour that was ALIVE before has no effect on locks, offers or the pool; and
each portion in SETTING or PROVEN with a section bounded by a remote head of the neighbour is PROVEN
or SETTING by its proving test (R32 to R37, R145, R154). For a report of one entry alone with a
valid baseline and no flag, the change is dF − dB by the entry's orientation while dF + dB is at
most 250, and DISTURBED with the count unchanged beyond it. That the first of two entries of one
head is read is the model's choice, log 33, and that any flag byte but 0 counts as set its reading,
log 16. -/
def Obligations.StatusIsHeard : Prop :=
  ∀ (s : State) (f : Frame) (n : Fin 4) (cfg : NeighbourCfg) (c : StatusContent),
    Accepts s kindStatus f (.neighbour n) (.status c) → s.config.neighbours[n] = some cfg →
    c.station ≠ StationState.halt.code →
    let report := reportFor s.config n c.heads
    ∃ t, exec (.status f) s = .next t ∧
      t.hou.neighbours[n] = { s.hou.neighbours[n] with
        state := .alive, silence := .start cfg.silenceLimit, view := some c } ∧
      (∀ m : Fin 4, m ≠ n → t.hou.neighbours[m] = s.hou.neighbours[m]) ∧
      (∀ e : Fin 8, t.acu.baselines[e] =
        match report e with
        | none => s.acu.baselines[e]
        | some h => ⟨true, h.forward, h.backward⟩) ∧
      (∀ k : Fin 32, t.acu.sections[k] = (s.acu.sections[k]).reported
        (reportChange s.config s.acu.baselines report k)
        (reportDisturbs s.config s.acu.baselines report k)) ∧
      (∀ e : Fin 8, (∃ h, report e = some h ∧ (s.acu.baselines[e]).implausible h = true) →
        ⟨.remoteImplausible, byteOf e.val⟩ ∈ t.cmu.faults) ∧
      t.acu.heads = s.acu.heads ∧ t.pcu = s.pcu ∧ t.sld = s.sld ∧ t.cmu.queue = s.cmu.queue ∧
      ((s.hou.neighbours[n]).state = .alive →
        t.lku = s.lku ∧ t.hou.offers = s.hou.offers ∧ t.rtp = s.rtp) ∧
      (∀ p : Fin 16, t.portionBounded n p → (t.hou.portions[p]).state.provable →
        ((t.hou.portions[p]).state = .proven ↔ t.portionProves p = true)) ∧
      ∀ (k : Fin 32) (e : Fin 8) (h : HeadEntry) (plus : Bool),
        report e = some h → (s.acu.baselines[e]).valid = true → h.flag = 0 →
        orientationOf s.config k (.remoteHead e) = some plus →
        (∀ e', e' ≠ e → orientationOf s.config k (.remoteHead e') = none) →
        let r := s.acu.sections[k]
        let dF := (h.forward - (s.acu.baselines[e]).forward).toNat
        let dB := (h.backward - (s.acu.baselines[e]).backward).toNat
        (dF + dB ≤ 250 → t.acu.sections[k] =
          r.change (if plus then (dF : Int) - dB else (dB : Int) - dF)) ∧
        (250 < dF + dB → t.acu.sections[k] = r.latched { r with state := .disturbed })

/-- What an accepted STATUS without HALT settles. From a neighbour that was not ALIVE: each
UNCONFIRMED record to it that the STATUS confirms is GRANTED, and each other one is removed without
a release, by which a route in SETTING fails setting, one in LOCKED is released where its approach
is clear and APPROACH_HELD where it is not, and any other stays; a route in SETTING that has only
confirmed records among them makes its completion test (R84, R87, R112, R157). Each orphaned hosted
record of the neighbour that its held-offer list names loses its orphan flag; one it does not name
is released: a grant is free, a portion in SETTING or PROVEN is IDLE with its sections free, one in
IN_USE or OVERLAP_HELD has the requester-released mark (R158). From a neighbour that was ALIVE, in
RUN: each stray portion entry is answered by a PORTION_RELEASE and then each stray grant entry by a
FLANK_RELEASE, at the tail of the class-1 queue; outside RUN none is (R147). That portions come
before grants is log 32. -/
def Obligations.StatusSettlesTheRecords : Prop :=
  ∀ (s : State) (f : Frame) (n : Fin 4) (cfg : NeighbourCfg) (c : StatusContent),
    Accepts s kindStatus f (.neighbour n) (.status c) → s.config.neighbours[n] = some cfg →
    c.station ≠ StationState.halt.code →
    let own := fun (a : Byte) => s.sld.ownAddress = some a
    let marked := fun (k : Fin 8) (o : Offer) =>
      s.hou.offers[k] = some o ∧ o.neighbour = n ∧ o.state = .unconfirmed
    let confirmed := fun (o : Offer) =>
      match o.kind with
      | .portion => ∃ e, e ∈ c.portions ∧ e.number = o.target ∧ own e.requester ∧
          e.offerId = o.id ∧ bit7 e.info = false
      | .flank => ∃ e, e ∈ c.grants ∧ own e.requester ∧ e.offerId = o.id
    let lost := fun (r : Fin 64) => ∃ k o, marked k o ∧ ¬confirmed o ∧ o.route = r
    let kept := fun (r : Fin 64) => ∃ k o, marked k o ∧ confirmed o ∧ o.route = r
    let held := fun (kind target id : Byte) => ∃ e, e ∈ c.offers ∧ own e.neighbour ∧
      e.offerId = id ∧ e.kind = kind ∧ (kind = 0 → e.target = target)
    ∃ t, exec (.status f) s = .next t ∧
      ((s.hou.neighbours[n]).state ≠ .alive →
        (∀ k o, marked k o → ¬confirmed o → t.hou.offers[k] = none) ∧
        (∀ k o, marked k o → confirmed o → (∀ r, lost r → k ∉ (s.lku.routes[r]).offers) →
          t.hou.offers[k] = some { o with state := .granted, reply := .stopped }) ∧
        (∀ r : Fin 64, lost r →
          let was := (s.lku.routes[r]).state
          let now := (t.lku.routes[r]).state
          (was = .setting → now = .idle) ∧
          (was = .locked → ∀ x, s.config.routes[r] = some x →
            ((∀ j, j ∈ x.approach → t.proves j = true ∧ (t.acu.sections[j]).occ = false) →
              now = .idle) ∧
            ((∃ j, j ∈ x.approach ∧ ¬(t.proves j = true ∧ (t.acu.sections[j]).occ = false)) →
              now = .approachHeld)) ∧
          (was ≠ .setting → was ≠ .locked → now = was)) ∧
        (∀ r : Fin 64, ¬lost r →
          let was := (s.lku.routes[r]).state
          let now := (t.lku.routes[r]).state
          (kept r → was = .setting → now = if t.complete r then .locked else .setting) ∧
          (¬kept r ∨ was ≠ .setting → now = was)) ∧
        (∀ (p : Fin 16) (id : Byte), (s.hou.portions[p]).requester = some (n, id) →
          (s.hou.portions[p]).orphan = true →
          let old := s.hou.portions[p]
          let new := t.hou.portions[p]
          (held 0 (byteOf p.val) id → new = { old with orphan := false, state := new.state } ∧
            (old.state.provable → new.state.provable) ∧
            (¬old.state.provable → new.state = old.state)) ∧
          (¬held 0 (byteOf p.val) id → old.state.provable →
            new = PortionRec.idle (idleOverlap s.config (.portion p)) ∧
            ∀ (k : Fin 32) (role : Role), (t.lku.sections[k]).holder ≠ some ⟨.portion p, role⟩) ∧
          (¬held 0 (byteOf p.val) id → old.state = .inUse ∨ old.state = .overlapHeld →
            new = { old with released := true, orphan := false })) ∧
        ∀ (k : Fin 8) (g : Grant), s.hou.grants[k] = some g → g.orphan = true → g.requester = n →
          (held 1 0 g.offerId → ∃ x, t.hou.grants[k] = some x ∧
            { x with proven := g.proven } = { g with orphan := false }) ∧
          (¬held 1 0 g.offerId → t.hou.grants[k] = none)) ∧
      ((s.hou.neighbours[n]).state = .alive →
        let unknown := fun (kind : OfferKind) (id : Byte) => (List.finRange 8).all fun k =>
          (s.hou.offers[k]).all fun o => o.neighbour != n || o.kind != kind || o.id != id
        let strays : List Payload :=
          (c.portions.filter fun e => some e.requester == s.sld.ownAddress && !bit7 e.info &&
              unknown .portion e.offerId).map (fun e => .portionRelease e.number e.offerId) ++
            (c.grants.filter fun e => some e.requester == s.sld.ownAddress &&
              unknown .flank e.offerId).map (fun e => .flankRelease e.offerId)
        (s.sld.station = .run → s.slu.classOne.length + strays.length ≤ 16 →
          ∃ new, t.slu.classOne = s.slu.classOne ++ new ∧
            new.map (·.telegram.payload) = strays ∧
            ∀ i, i ∈ new → i.telegram.dest = cfg.address) ∧
        (s.sld.station ≠ .run → t.slu.classOne = s.slu.classOne))

/-- The silence of a neighbour, by the expiry of its silence timer and by an accepted STATUS that
carries HALT: the silence event of R156 with those of R38 and R87. The record is SILENT without a
view; each SENT record to it is removed with a release and its route fails setting, its claims and
holds given back; each GRANTED one becomes UNCONFIRMED; its sections are DISTURBED and its baselines
invalid; its hosted records are orphaned; its window is empty; the portions that its remote heads
bear on make their proving test; nothing else changes but what follows within every event (R38, R71,
R87, R126, R141, R145, R151, R154, R156). The order of the releases is the model's choice, logs 12
and 44. -/
def Obligations.SilenceOfANeighbour : Prop :=
  ∀ (s : State) (n : Fin 4),
    ((s.hou.neighbours[n]).silence.due = true → s.OffersOwned →
      ∃ t, exec (.silenceTimerExpiry n) s = .next t ∧ Silenced n s t ∧
        RestOfEvent s (s.silenceEvent n) t ∧ LeftAlone s (s.silenceEvent n)) ∧
    ∀ (f : Frame) (c : StatusContent), Accepts s kindStatus f (.neighbour n) (.status c) →
      c.station = StationState.halt.code → s.OffersOwned →
      let u := s.received (.neighbour n) f
      ∃ t, exec (.status f) s = .next t ∧ Silenced n u t ∧ RestOfEvent s (u.silenceEvent n) t ∧
        LeftAlone u (u.silenceEvent n)

/-- PORTION_REQUEST: ignored outside RUN; in RUN each case of R153: refusals UNKNOWN_ELEMENT,
WRONG_REQUESTER and NOT_IDLE; the grant repeated for the record it was given to; and the setting
event of R83. In it each path section, each path and overlap point, each overlap section is tested
in that order, and the first that fails gives the reason of its first test: CONFLICT for any holder,
BLOCKED for a section with its block flag or a point with it that needs a move, FLANK_HELD,
POINT_OCCUPIED; then the flank search, FLANK_UNAVAILABLE; a refusal takes nothing. Where all pass,
the portion holds its sections and points, PATH or OVERLAP, and no other element changes its holder;
its held-flank set is the entries chosen, their claims and holds counted once more, its move
requests made; it is in SETTING or, where its proving test passes, PROVEN for the requester, and the
grant is placed (R71, R83, R125, R153, R154). -/
def Obligations.PortionRequestIsAnswered : Prop :=
  ∀ (s : State) (f : Frame) (n : Fin 4) (number id : Byte),
    Accepts s kindPortionRequest f (.neighbour n) (.portionRequest number id) →
    let u := s.received (.neighbour n) f
    let run := s.sld.station = .run
    let answers := fun (v : State) => ∃ t, exec (.portionRequest f) s = .next t ∧ RestOfEvent s v t
    let replies := fun (p : Payload) => ∃ t, exec (.portionRequest f) s = .next t ∧
      RestOfEvent s (u.toNeighbour n p) t ∧ Queued s t (addressed s.config n p)
    let refuses := fun (why : Reason) => replies (.portionRefuse number id why.code)
    (¬run → answers u) ∧
    (run → configured s.config.portions number = none → refuses .unknownElement) ∧
    ∀ (p : Fin 16) (c : PortionCfg), run → configured s.config.portions number = some (p, c) →
      let r := s.hou.portions[p]
      let again := r.requester = some (n, id) ∧ r.orphan = false ∧ r.released = false
      let sectionFails := fun (k : Fin 32) (why : Reason) =>
        let lock := s.lku.sections[k]
        (why = .conflict ∧ lock.holder ≠ none) ∨
          (why = .blocked ∧ lock.holder = none ∧ lock.blocked = true)
      let pointFails := fun (q : Fin 16 × Position) (why : Reason) =>
        let lock := s.lku.points[q.1]
        let moves := (s.pcu.points[q.1]).detected ≠ detectedAt q.2 ∨
          (s.pcu.points[q.1]).controller = .moving q.2.other
        let claimed := (if q.2 = .normal then lock.claimsR else lock.claimsN) ≠ 0
        let clear := ∃ x, s.config.points[q.1] = some x ∧
          (s.acu.sections[x.track]).state = .clear ∧ (s.acu.sections[x.track]).occ = false
        (why = .conflict ∧ lock.holder ≠ none) ∨
          (lock.holder = none ∧
            ((why = .blocked ∧ lock.blocked = true ∧ moves) ∨
            (¬(lock.blocked = true ∧ moves) ∧
              ((why = .flankHeld ∧ claimed) ∨
              (why = .pointOccupied ∧ ¬claimed ∧ moves ∧ ¬clear)))))
      let fails := fun (x : Fin 32 ⊕ Fin 16 × Position) (why : Reason) =>
        match x with
        | .inl k => sectionFails k why
        | .inr q => pointFails q why
      let elements : List (Fin 32 ⊕ Fin 16 × Position) :=
        c.plan.path.map Sum.inl ++ ((c.plan.points ++ c.plan.overlapPoints).map Sum.inr ++
          c.plan.overlap.map Sum.inl)
      let free := ∀ x, x ∈ elements → ∀ why, ¬fails x why
      (c.requester ≠ n → refuses .wrongRequester) ∧
      (c.requester = n → r.state ≠ .idle → again →
        replies (.portionGrant number id)) ∧
      (c.requester = n → r.state ≠ .idle → ¬again → refuses .notIdle) ∧
      (c.requester = n → r.state = .idle →
        (∀ before x after why, elements = before ++ x :: after →
          (∀ y, y ∈ before → ∀ w, ¬fails y w) → fails x why → refuses why) ∧
        (free → s.flankSearch c.plan.flank = none → refuses .flankUnavailable) ∧
        ∀ chosen, free → s.flankSearch c.plan.flank = some chosen →
          let taken := u.takePlan (.portion p) c.plan chosen
          let flank := (distinct (chosen.filterMap (elementOf s.config))).filterMap fun x =>
            match x with
            | .point p q => some (p, q)
            | _ => none
          ∃ t, exec (.portionRequest f) s = .next t ∧
            RestOfEvent s ((taken.updPortion p fun x =>
              { x with
                state := if taken.portionProves p then .proven else .setting
                requester := some (n, id)
                orphan := (s.hou.neighbours[n]).state != .alive }).toNeighbour n
                  (.portionGrant number id)) t ∧
            Queued s t (addressed s.config n (.portionGrant number id)) ∧
            ((t.hou.portions[p]).state = .proven ∨ (t.hou.portions[p]).state = .setting) ∧
            ((t.hou.portions[p]).state = .proven ↔ t.portionProves p = true) ∧
            (t.hou.portions[p]).requester = some (n, id) ∧
            (t.hou.portions[p]).hold = ⟨Vector.replicate 8 .locked,
              if c.plan.overlap = [] ∧ c.plan.overlapPoints = [] then .none else .held,
              chosen.map fun e => ⟨e, none⟩⟩ ∧
            (∀ k : Fin 32,
              (k ∈ c.plan.overlap → (t.lku.sections[k]).holder = some ⟨.portion p, .overlap⟩) ∧
              (k ∈ c.plan.path → k ∉ c.plan.overlap →
                (t.lku.sections[k]).holder = some ⟨.portion p, .path⟩) ∧
              (k ∉ c.plan.path → k ∉ c.plan.overlap → t.lku.sections[k] = s.lku.sections[k])) ∧
            (∀ x : Fin 16,
              (x ∈ c.plan.overlapPoints.map (·.1) →
                (t.lku.points[x]).holder = some ⟨.portion p, .overlap⟩) ∧
              (x ∈ c.plan.points.map (·.1) → x ∉ c.plan.overlapPoints.map (·.1) →
                (t.lku.points[x]).holder = some ⟨.portion p, .path⟩) ∧
              (x ∉ c.plan.points.map (·.1) → x ∉ c.plan.overlapPoints.map (·.1) →
                (t.lku.points[x]).holder = (s.lku.points[x]).holder)) ∧
            FlankAdded chosen s t ∧
            MovesRequested (c.plan.points ++ c.plan.overlapPoints ++ flank) s t)

/-- The answers of R149, for portions and for flank grants. An answer matches a record of its
neighbour, kind and offer id, and, for a portion answer, of its target number; of two, which no run
reaches, the first counts. Ignored outside RUN; in RUN a GRANT for a SENT record makes it GRANTED
with its timer stopped and makes the completion test; one for a GRANTED or UNCONFIRMED record is
ignored; one for no record is answered with a release; a REFUSE for a SENT record removes it without
a release and its route fails setting; any other is ignored (R87, R149). The order of the releases
of the route that fails is the model's choice, log 12. -/
def Obligations.AnswersSettleTheOffer : Prop :=
  ∀ (s : State) (f : Frame) (n : Fin 4) (kind : OfferKind) (id : Byte) (target : Option Byte),
    let u := s.received (.neighbour n) f
    let run := s.sld.station = .run
    let names := fun (k : Fin 8) (o : Offer) => s.hou.offers[k] = some o ∧ o.neighbour = n ∧
      o.kind = kind ∧ o.id = id ∧ ∀ x, target = some x → o.target = x
    let none' := ∀ k o, ¬names k o
    let matches' := fun (k : Fin 8) (o : Offer) => names k o ∧ ∀ j q, names j q → k ≤ j
    let granted := fun (i : Instr) (release : Payload) =>
      (¬run → ∃ t, exec i s = .next t ∧ RestOfEvent s u t) ∧
      (run → none' → ∃ t, exec i s = .next t ∧ RestOfEvent s (u.toNeighbour n release) t ∧
        Queued s t (addressed s.config n release)) ∧
      ∀ k o, run → matches' k o →
        (o.state = .sent → ∃ t, exec i s = .next t ∧
          RestOfEvent s ((u.updOffer k fun _ =>
            some { o with state := .granted, reply := .stopped }).completionTest o.route) t) ∧
        (o.state ≠ .sent → ∃ t, exec i s = .next t ∧ RestOfEvent s u t)
    let refused := fun (i : Instr) =>
      (¬run ∨ none' → ∃ t, exec i s = .next t ∧ RestOfEvent s u t) ∧
      ∀ k o, run → matches' k o →
        (o.state = .sent → ∃ t, exec i s = .next t ∧
          RestOfEvent s ((u.removeOffer k).failSetting o.route) t ∧ t.hou.offers[k] = none ∧
          ((s.lku.routes[o.route]).state = .setting →
            (t.lku.routes[o.route]).state = .idle)) ∧
        (o.state ≠ .sent → ∃ t, exec i s = .next t ∧ RestOfEvent s u t)
    (∀ x, kind = .portion → target = some x →
      (Accepts s kindPortionGrant f (.neighbour n) (.portionGrant x id) →
        granted (.portionGrant f) (.portionRelease x id)) ∧
      ∀ why, Accepts s kindPortionRefuse f (.neighbour n) (.portionRefuse x id why) →
        refused (.portionRefuse f)) ∧
    (kind = .flank → target = none →
      (Accepts s kindFlankGrant f (.neighbour n) (.flankGrant id) →
        granted (.flankGrant f) (.flankRelease id)) ∧
      ∀ why, Accepts s kindFlankRefuse f (.neighbour n) (.flankRefuse id why) →
        refused (.flankRefuse f))

/-- The releases of hosted records, ignored outside RUN: in RUN PORTION_RELEASE for the record of
its number, requester and offer id, whose requester-released mark is clear, frees a portion in
SETTING or PROVEN whole, each distinct claim and hold of its set subtracted, and marks one in IN_USE
or OVERLAP_HELD; FLANK_RELEASE frees the grant in use with its requester and offer id, the claim or
hold of the entry used subtracted; of two such grants, which no run reaches, the first counts; any
other is ignored (R71, R126, R130, R155). -/
def Obligations.HostedRecordsAreReleased : Prop :=
  ∀ (s : State) (f : Frame) (n : Fin 4) (id : Byte),
    let u := s.received (.neighbour n) f
    let run := s.sld.station = .run
    (∀ p : Fin 16, Accepts s kindPortionRelease f (.neighbour n)
        (.portionRelease (byteOf p.val) id) →
      let answers := fun (v : State) => ∃ t, exec (.portionRelease f) s = .next t ∧
      RestOfEvent s v t
      let r := s.hou.portions[p]
      let mine := run ∧ r.requester = some (n, id) ∧ r.released = false
      (¬mine ∨ r.state = .idle → answers u) ∧
      (mine → r.state = .setting ∨ r.state = .proven →
        ∃ t, exec (.portionRelease f) s = .next t ∧ RestOfEvent s (u.releasePortion p) t ∧
          t.hou.portions[p] = PortionRec.idle (idleOverlap s.config (.portion p)) ∧
          FlankRemoved r.hold.entries s t ∧ t.pcu = s.pcu ∧
          let left := fun (h : Option Holder) =>
            if h.map (·.owner) = some (.portion p) then none else h
          (∀ k : Fin 32, t.lku.sections[k] =
            { s.lku.sections[k] with holder := left (s.lku.sections[k]).holder }) ∧
          (∀ q : Fin 16, (t.lku.points[q]).holder = left (s.lku.points[q]).holder) ∧
          ∀ g : Fin 16, (t.lku.signals[g]).holder = left (s.lku.signals[g]).holder) ∧
      (mine → r.state = .inUse ∨ r.state = .overlapHeld →
        answers (u.updPortion p fun x => { x with released := true, orphan := false }))) ∧
    (∀ number : Byte, 16 ≤ number.toNat →
      Accepts s kindPortionRelease f (.neighbour n) (.portionRelease number id) →
      ∃ t, exec (.portionRelease f) s = .next t ∧ RestOfEvent s u t) ∧
    (Accepts s kindFlankRelease f (.neighbour n) (.flankRelease id) →
      let names := fun (k : Fin 8) (g : Grant) =>
        s.hou.grants[k] = some g ∧ g.requester = n ∧ g.offerId = id
      (¬run ∨ (∀ k g, ¬names k g) →
        ∃ t, exec (.flankRelease f) s = .next t ∧ RestOfEvent s u t) ∧
      ∀ k g, run → names k g → (∀ j h, names j h → k ≤ j) →
        ∃ t, exec (.flankRelease f) s = .next t ∧
          RestOfEvent s ((u.releaseFlank [⟨g.used, none⟩]).updGrant k fun _ => none) t ∧
          t.hou.grants[k] = none ∧ FlankRemoved [g.used] s t ∧ t.pcu = s.pcu)

/-- FLANK_REQUEST: ignored outside RUN; in RUN each case of R128: the grant repeated for the record
of the same requester, id and entry; refusals NOT_IDLE, UNKNOWN_ELEMENT, NO_GRANT_SLOT and
FLANK_UNAVAILABLE with nothing taken; and the lowest free record made in use, the claim or hold of
the entry used counted once more, a move request to its point where that is not at rest in position,
and its proven state set. A request names the requestable entry with its point and position, codes 0
and 1, or its signal, code 2; of two such entries or records, which no accepted image and no run
gives, the first counts (R71, R119, R125, R128, R129). -/
def Obligations.FlankRequestIsAnswered : Prop :=
  ∀ (s : State) (f : Frame) (n : Fin 4) (id code element : Byte),
    Accepts s kindFlankRequest f (.neighbour n) (.flankRequest id code element) →
    let u := s.received (.neighbour n) f
    let asks := fun (e : Fin 48) => ∃ c, s.config.flank[e] = some c ∧ c.requestable = true ∧
      match c.element with
      | .point p q => element = byteOf p.val ∧ code = (if q = .normal then 0 else 1)
      | .signal g => element = byteOf g.val ∧ code = 2
      | _ => False
    let asked := fun (e : Fin 48) => asks e ∧ ∀ j, asks j → e ≤ j
    let names := fun (k : Fin 8) (g : Grant) =>
      s.hou.grants[k] = some g ∧ g.requester = n ∧ g.offerId = id
    let answers := fun (v : State) => ∃ t, exec (.flankRequest f) s = .next t ∧ RestOfEvent s v t
    let replies := fun (p : Payload) => ∃ t, exec (.flankRequest f) s = .next t ∧
      RestOfEvent s (u.toNeighbour n p) t ∧ Queued s t (addressed s.config n p)
    let refuses := fun (why : Reason) => replies (.flankRefuse id why.code)
    (s.sld.station ≠ .run → answers u) ∧
    (∀ k g, s.sld.station = .run → names k g → (∀ j h, names j h → k ≤ j) →
      (asked g.requested → replies (.flankGrant id)) ∧
      (¬asked g.requested → refuses .notIdle)) ∧
    (s.sld.station = .run → (∀ k g, ¬names k g) →
      ((∀ e, ¬asks e) → refuses .unknownElement) ∧
      ∀ e, asked e →
        ((∀ k : Fin 8, s.hou.grants[k] ≠ none) → refuses .noGrantSlot) ∧
        ∀ k : Fin 8, s.hou.grants[k] = none → (∀ j : Fin 8, j < k → s.hou.grants[j] ≠ none) →
          (u.flankSearch [e] = none → refuses .flankUnavailable) ∧
          ∀ used, u.flankSearch [e] = some [used] →
            let claimed := (u.claimFlank [⟨used, none⟩]).requestMoves
              (flankPoints s.config [⟨used, none⟩])
            ∃ t, exec (.flankRequest f) s = .next t ∧
              RestOfEvent s ((claimed.updGrant k fun _ =>
                some ⟨n, id, e, used, claimed.entryProven used,
                  (s.hou.neighbours[n]).state != .alive⟩).toNeighbour n (.flankGrant id)) t ∧
              Queued s t (addressed s.config n (.flankGrant id)) ∧
              (∃ g, t.hou.grants[k] = some g ∧ g.requester = n ∧ g.offerId = id ∧
                g.requested = e ∧ g.used = used ∧ g.proven = t.entryProven used) ∧
              FlankAdded [used] s t ∧
              MovesRequested ((elementOf s.config used).toList.filterMap fun x =>
                match x with
                | .point p q => some (p, q)
                | _ => none) s t)

/-- SECTION_RESET: in RUN, for a configured section bounded by a remote head of the sender,
DISTURBED, PREPARED or SWEEPING and not locked, the count becomes 0, the state PREPARED and CHG is
set; in every other case no record changes (R45, R50). -/
def Obligations.SectionResetPreparesOrIsIgnored : Prop :=
  ∀ (s : State) (f : Frame) (n : Fin 4) (number : Byte),
    Accepts s kindSectionReset f (.neighbour n) (.sectionReset number) →
    let u := s.received (.neighbour n) f
    let answers := fun (v : State) => ∃ t, exec (.sectionReset f) s = .next t ∧ RestOfEvent s v t
    (s.sld.station ≠ .run → answers u) ∧ (32 ≤ number.toNat → answers u) ∧
    ∀ k : Fin 32, number = byteOf k.val →
      let r := s.acu.sections[k]
      let takes := s.sld.station = .run ∧ namesRemoteOf s.config n k = true ∧
        (r.state = .disturbed ∨ r.state = .prepared ∨ r.state = .sweeping) ∧
        s.sectionLocked k = false
      (takes → answers (u.updSection k fun x =>
        { x with count := 0, state := .prepared, chg := true })) ∧
      (¬takes → answers u)

/-- The reply timer of a SENT record by the policy of its neighbour: WAIT stops the timer; RESEND
below 3 places the same request again with the timer afresh; RESEND at 3 and DROP remove the record
with a release, the route failing setting; BLOCK does that for every SENT record to that neighbour,
each with its release placed and its route failing setting, and sets the BLOCKED flag with
NEIGHBOUR_BLOCKED; no other record, route or condition changes (R86, R87, R150, R151). The order of
the releases is the model's choice, logs 12 and 44. -/
def Obligations.ReplyExpiryFollowsThePolicy : Prop :=
  ∀ (s : State) (k : Fin 8) (o : Offer) (c : NeighbourCfg), s.hou.offers[k] = some o →
    s.config.neighbours[o.neighbour] = some c → o.state = .sent → o.reply.due = true →
    let answers := fun (v : State) => ∃ t, exec (.replyTimerExpiry k) s = .next t ∧
    RestOfEvent s v t
    let dropped := ((s.removeOffer k).toNeighbour o.neighbour o.release).failSetting o.route
    (c.policy = .wait →
      answers (s.updOffer k fun _ => some { o with reply := .stopped })) ∧
    (c.policy = .resend → o.resends < 3 → answers ((s.updOffer k fun _ =>
      some { o with resends := o.resends + 1, reply := .start c.replyTime }).toNeighbour o.neighbour
        o.request)) ∧
    (c.policy = .resend → 3 ≤ o.resends → answers dropped) ∧
    (c.policy = .drop → answers dropped) ∧
    (c.policy = .block → s.OffersOwned → ∃ t, exec (.replyTimerExpiry k) s = .next t ∧
      SentDropped o.neighbour s t ∧
      t.hou.neighbours[o.neighbour] = { s.hou.neighbours[o.neighbour] with blocked := true } ∧
      (∀ m : Fin 4, m ≠ o.neighbour → t.hou.neighbours[m] = s.hou.neighbours[m]) ∧
      (∀ (j : Fin 8) (q : Offer), s.hou.offers[j] = some q → ¬s.Sent o.neighbour j q →
        (∀ r, s.FailsWith o.neighbour r → j ∉ (s.lku.routes[r]).offers) →
        t.hou.offers[j] = some q) ∧
      (∀ x : Condition, x.kind ≠ .lampFailed → (x ∈ t.cmu.faults ↔
        x ∈ s.cmu.faults ∨ x = ⟨.neighbourBlocked, byteOf o.neighbour.val⟩)) ∧
      t.acu = s.acu ∧ t.pcu = s.pcu ∧ t.sld = s.sld ∧ t.cmu.queue = s.cmu.queue ∧
      t.OutputsFollow)

/-! ## Lines and periods -/

/-- The window timer's expiry discards the pending reset record without a telegram; the panel
silence timer empties the panel's window and stops; the expiry of a line's health timer sets its
LINE_FAULT where the other line's timer has time left, and no fault where the other has expired as
well (R43, R141, R142; that a timer with no time left does not count as running is log 29). -/
def Obligations.WindowSilenceAndHealthTimersExpire : Prop :=
  ∀ s : State,
    (∀ r : PendingReset, s.cmu.pendingReset = some r → r.window.due = true →
      ∃ t, exec .resetWindowExpiry s = .next t ∧
        RestOfEvent s { s with cmu := { s.cmu with pendingReset := none } } t) ∧
    (∀ p : Fin 2, (s.slu.panelSilence[p]).due = true →
      ∃ t, exec (.panelSilenceTimerExpiry p) s = .next t ∧
        RestOfEvent s { s with slu := { s.slu with
          panelSilence := upd s.slu.panelSilence p fun _ => .stopped
          panelWindows := upd s.slu.panelWindows p fun _ => [] } } t) ∧
    ∀ l : Line, (s.line l).health.due = true →
      let u := s.updLine l fun r => { r with health := .expired }
      ((s.line (otherLine l)).health.hasTime = true →
        ∃ t, exec (.lineHealthTimerExpiry l) s = .next t ∧
          RestOfEvent s (u.setFault .lineFault (lineElement l)) t) ∧
      ((s.line (otherLine l)).health.hasTime = false →
        ∃ t, exec (.lineHealthTimerExpiry l) s = .next t ∧ RestOfEvent s u t)

/-- The content of a STATUS: the station state and the fault code; the reported heads, boundary
sections and reported signals; every hosted portion not in IDLE with its requester's address, its
offer id, its state and the requester-released mark; every hosted flank grant in use with the
requester's address, the offer id, the element of the requested entry and its proven state; every
offer record with the neighbour's address, its id, kind and target number; each list by rising
number, log 17 (R146, R171). The content of the pages: page 0 holds the station state, each
configured neighbour with its state and BLOCKED flag, each configured route with its state and
PASSED_AT_DANGER note, each configured signal with its shown aspect, block flag and the six lamp
flags; page 1 holds each configured section with its state, block flag and count, each configured
point with its detected position, controller state and block flag, the first 32 conditions of the
fault list, and "more" where the list is longer; all with the codes of 12.2 (R165, R171). The STATUS
period in RUN and HALT places a STATUS of the state as it stands, addressed to 31 with the next
number, and restarts with the 50 ms; the DISPLAY period places page 0 and then page 1 and restarts;
nothing else changes (R133, R134, R146, R165). That these pages also answer a change that waited for
the 100 ms is the model's choice, log 42. The end of the 50 ms after a STATUS, and of the 100 ms
after a page: in RUN one telegram is placed where a change waits, with the content as it then
stands; where none waits, and outside RUN, nothing is placed; nothing else changes (R146, R165). -/
def Obligations.PeriodsAndPacingsPlaceTheirTelegrams : Prop :=
  ∀ s : State,
    (let address := fun (n : Fin 4) => ((s.config.neighbours[n]).map (·.address)).getD 0
     let number := fun (m : Fin 32) => ((s.config.boundary[m]).map (·.number)).getD 0
     let worth := fun (mark : Bool) (value : Nat) => if mark then value else 0
     let bits := fun (code : Nat) (mark : Bool) => byteOf (code + worth mark 128)
     let element : Fin 48 → Byte × Nat := fun e =>
       match elementOf s.config e with
       | some (.point p q) => (byteOf p.val, if q = .normal then 0 else 1)
       | some (.signal g) => (byteOf g.val, 2)
       | some (.remotePoint m q) => (number m, if q = .normal then 0 else 1)
       | some (.remoteSignal m) => (number m, 2)
       | none => (0, 0)
     s.statusContent.station = s.sld.station.code ∧
     s.statusContent.faultCode = s.sld.faultCode ∧
     s.statusContent.heads = ((List.finRange 24).filter fun h =>
       s.config.heads[h] = some true).map (fun h => ⟨byteOf h.val, (s.acu.heads[h]).forward,
         (s.acu.heads[h]).backward, if (s.acu.heads[h]).seqFault then 1 else 0⟩) ∧
     s.statusContent.sections = ((List.finRange 32).filter fun k =>
       (boundaryNeighbour s.config k).isSome).map (fun k =>
         ⟨byteOf k.val, (s.acu.sections[k]).state.code⟩) ∧
     s.statusContent.signals = ((List.finRange 16).filter fun g =>
       s.config.signals[g] = some true).map (fun g => ⟨byteOf g.val,
         bits (s.shown g).code.toNat (s.lampRec g .red).failed⟩) ∧
     s.statusContent.portions = ((List.finRange 16).filter fun p =>
       (s.hou.portions[p]).state ≠ .idle).flatMap (fun p =>
         (s.hou.portions[p]).requester.toList.map fun q => ⟨byteOf p.val, address q.1, q.2,
           bits (s.hou.portions[p]).state.code.toNat (s.hou.portions[p]).released⟩) ∧
     s.statusContent.grants = (List.finRange 8).flatMap (fun k =>
       (s.hou.grants[k]).toList.map fun g => ⟨address g.requester, g.offerId,
         (element g.requested).1, bits (element g.requested).2 g.proven⟩) ∧
     s.statusContent.offers = (List.finRange 8).flatMap (fun k =>
       (s.hou.offers[k]).toList.map fun o =>
         ⟨address o.neighbour, o.id, if o.kind = .portion then 0 else 1, o.target⟩) ∧
     s.pageZeroContent.station = s.sld.station.code ∧
     s.pageZeroContent.neighbours = ((List.finRange 4).filter fun n =>
       (s.config.neighbours[n]).isSome).map (fun n => (byteOf n.val,
         bits (s.hou.neighbours[n]).state.code.toNat (s.hou.neighbours[n]).blocked)) ∧
     s.pageZeroContent.routes = ((List.finRange 64).filter fun r =>
       (s.config.routes[r]).isSome).map (fun r => (byteOf r.val,
         bits (s.lku.routes[r]).state.code.toNat (s.lku.routes[r]).note)) ∧
     s.pageZeroContent.signals = ((List.finRange 16).filter fun g =>
       (s.config.signals[g]).isSome).map (fun g => (byteOf g.val,
         bits (s.shown g).code.toNat (s.lku.signals[g]).blocked, byteOf (
           worth (s.lampRec g .red).failed 1 + worth (s.lampRec g .yellow).failed 2 +
           worth (s.lampRec g .green).failed 4 + worth (s.lampRec g .red).stray 8 +
           worth (s.lampRec g .yellow).stray 16 + worth (s.lampRec g .green).stray 32))) ∧
     s.pageOneContent.sections = ((List.finRange 32).filter fun k =>
       (s.config.sections[k]).isSome).map (fun k => (byteOf k.val,
         bits (s.acu.sections[k]).state.code.toNat (s.lku.sections[k]).blocked,
         BitVec.ofNat 16 (s.acu.sections[k]).count)) ∧
     s.pageOneContent.points = ((List.finRange 16).filter fun p =>
       (s.config.points[p]).isSome).map (fun p => (byteOf p.val,
         bits ((s.pcu.points[p]).detected.code.toNat +
           4 * (s.pcu.points[p]).controller.code.toNat) (s.lku.points[p]).blocked)) ∧
     s.pageOneContent.faults = (s.cmu.faults.take 32).map (fun c => (c.kind.code, c.element)) ∧
     (s.pageOneContent.more = true ↔ 32 < s.cmu.faults.length)) ∧
    ([StationState.config, .quiet, .run, .halt].map (·.code) = [0, 1, 2, 3] ∧
     [NeighbourState.neverHeard, .alive, .silent].map (·.code) = [0, 1, 2] ∧
     [RouteState.idle, .setting, .locked, .inUse, .approachHeld, .overlapHeld].map (·.code) =
       [0, 1, 2, 3, 4, 5] ∧
     [PortionState.idle, .setting, .proven, .inUse, .overlapHeld].map (·.code) = [0, 1, 2, 3, 4] ∧
     [SectionState.clear, .occupied, .disturbed, .prepared, .sweeping].map (·.code) =
       [0, 1, 2, 3, 4] ∧
     [Aspect.danger, .callOn, .caution, .proceed].map (·.code) = [0, 1, 2, 3] ∧
     [Detected.normal, .reverse, .none, .both].map (·.code) = [0, 1, 2, 3] ∧
     [Controller.rest, .movingN, .movingR, .failed].map (·.code) = [0, 1, 2, 3] ∧
     [FaultKind.configFault, .stopped, .headSequence, .remoteImplausible, .pointTimeout, .trailed,
       .pointLost, .pointContradiction, .settingFailed, .passedAtDanger, .lampFailed,
       .strayProving, .pairingMismatch, .lineFault, .neighbourBlocked].map (·.code) =
       [1, 2, 3, 4, 5, 6, 7, 8, 9, 10, 11, 12, 13, 14, 15]) ∧
    (s.sld.station = .run ∨ s.sld.station = .halt →
      (s.hou.statusPeriod.due = true → s.sld.ownAddress ≠ none →
        ∃ t i, exec .statusPeriodExpiry s = .next t ∧
          t = { s with
            slu := { s.slu with
              counter := s.slu.counter + 1, placings := s.slu.placings + 1, statusSlot := some i }
            hou := { s.hou with
              statusPeriod := .startMs s.config.statusPeriod, statusPacing := .startMs 50,
              statusChange := false } } ∧
          i.telegram.payload = .status s.statusContent ∧ i.telegram.dest = 31 ∧
          i.telegram.seq = s.slu.counter ∧ some i.telegram.source = s.sld.ownAddress ∧
          (s.sld.check ≠ .accepted → i.telegram.code = 0)) ∧
      (s.cmu.displayPeriod.due = true →
        ∃ t i j, exec .displayPeriodExpiry s = .next t ∧
          t = { s with
            slu := { s.slu with
              counter := s.slu.counter + 2, placings := s.slu.placings + 2,
              displayZero := some i, displayOne := some j }
            cmu := { s.cmu with
              displayPeriod := .startMs s.config.displayPeriod
              pageZero := ⟨.startMs 100, false⟩, pageOne := ⟨.startMs 100, false⟩ } } ∧
          i.telegram.payload = .displayZero s.pageZeroContent ∧ i.telegram.seq = s.slu.counter ∧
          j.telegram.payload = .displayOne s.pageOneContent ∧
          j.telegram.seq = s.slu.counter + 1 ∧ i.telegram.dest = 31 ∧ j.telegram.dest = 31)) ∧
    (s.hou.statusPacing.due = true →
      (s.hou.statusChange = false ∨ s.sld.station ≠ .run → exec .statusPacingEnd s =
        .next { s with hou := { s.hou with statusPacing := .stopped, statusChange := false } }) ∧
      (s.hou.statusChange = true → s.sld.station = .run → s.sld.ownAddress ≠ none →
        ∃ t i, exec .statusPacingEnd s = .next t ∧
          t = { s with
            slu := { s.slu with
              counter := s.slu.counter + 1, placings := s.slu.placings + 1, statusSlot := some i }
            hou := { s.hou with
              statusPeriod := .startMs s.config.statusPeriod, statusPacing := .startMs 50,
              statusChange := false } } ∧
          i.telegram.payload = .status s.statusContent ∧ i.telegram.dest = 31 ∧
          i.telegram.seq = s.slu.counter ∧ some i.telegram.source = s.sld.ownAddress)) ∧
    ∀ page : Page, (s.pageTimes page).pacing.due = true →
      ((s.pageTimes page).change = false ∨ s.sld.station ≠ .run →
        exec (.displayPacingEnd page) s = .next (s.setPageTimes page ⟨.stopped, false⟩)) ∧
      ((s.pageTimes page).change = true → s.sld.station = .run →
        ∃ t i, exec (.displayPacingEnd page) s = .next t ∧
          t = { s with slu := { s.slu with
              counter := s.slu.counter + 1, placings := s.slu.placings + 1
              displayZero := if page = Page.zero then some i else s.slu.displayZero
              displayOne := if page = Page.one then some i else s.slu.displayOne } }.setPageTimes
            page ⟨.startMs 100, false⟩ ∧
          i.telegram.payload = s.pagePayload page ∧ i.telegram.dest = 31 ∧
          i.telegram.seq = s.slu.counter)

/-- A line without an attempt begins its current telegram exactly where the station is in RUN or
HALT, the line has not finished two telegrams that the other has not, and it has been idle for the
access gap of the telegram's class; the current telegram is, of those not finished on the line, the
oldest class-1 telegram, else the STATUS, else the DISPLAY placed earlier; where there is none
nothing begins. A telegram finished on both lines leaves its place. The attempt is noted and one of
the telegram's attempts used (R135, R136, R137; that an attempt counts when it begins is log 21).
The end of an attempt: an echo equal to the telegram's bytes finishes it on the line; an echo that
differs at its last byte fails the attempt, and the telegram is given up on the line on the fourth
attempt or where its 100 ms ran out meanwhile; the give-up at 100 ms finishes it at once where no
attempt at it is in progress, and is noted where one is (R134, R136; which telegram a give-up names
is log 20). -/
def Obligations.AttemptsBeginAndEnd : Prop :=
  ∀ (s : State) (l : Line),
    let line := fun (i : TxItem) => match l with | .a => i.onA | .b => i.onB
    let other := fun (i : TxItem) => match l with | .a => i.onB | .b => i.onA
    let due := fun (i : TxItem) => !(line i).finished
    let current : Option (TxClass × TxItem) :=
      match s.slu.classOne.filter due, s.slu.statusSlot.filter due,
        s.slu.displayZero.filter due, s.slu.displayOne.filter due with
      | i :: _, _, _, _ => some (.classOne, i)
      | [], some i, _, _ => some (.status, i)
      | [], none, some i, some j => some (.display, if i.serial ≤ j.serial then i else j)
      | [], none, some i, none => some (.display, i)
      | [], none, none, some j => some (.display, j)
      | [], none, none, none => none
    let waiting := s.slu.classOne ++ s.slu.statusSlot.toList ++ s.slu.displayZero.toList ++
      s.slu.displayOne.toList
    let ahead := (waiting.filter fun i => (line i).finished && !(other i).finished).length
    let progress := fun (u : StationLine) (serial : Nat) (f : LineProgress → LineProgress) =>
      let step := fun (i : TxItem) =>
        if i.serial = serial then
          match l with | .a => { i with onA := f i.onA } | .b => { i with onB := f i.onB }
        else i
      let stays := fun (i : TxItem) => !(i.onA.finished && i.onB.finished)
      { u with
        classOne := (u.classOne.map step).filter stays
        statusSlot := (u.statusSlot.map step).filter stays
        displayZero := (u.displayZero.map step).filter stays
        displayOne := (u.displayOne.map step).filter stays }
    (∀ (idle : Nat) (own : Byte), (s.line l).attempt = none → s.sld.ownAddress = some own →
      (current = none → exec (.transmitAttempt l idle) s = .next s) ∧
      ∀ (cls : TxClass) (i : TxItem), current = some (cls, i) →
        let gap := (match cls with | .classOne => 24 | .status => 64 | .display => 104) +
          8 * own.toNat
        let may := (s.sld.station = .run ∨ s.sld.station = .halt) ∧ ahead < 2 ∧ gap ≤ idle
        (may → ∃ t, exec (.transmitAttempt l idle) s = .next t ∧
          (t.line l).attempt = some ⟨i.serial, i.telegram⟩ ∧
          t.slu = progress (s.updLine l fun r =>
            { r with attempt := some ⟨i.serial, i.telegram⟩ }).slu i.serial
              (fun p => { p with attempts := p.attempts + 1 }) ∧
          { t with slu := s.slu } = s) ∧
        (¬may → exec (.transmitAttempt l idle) s = .next s)) ∧
    (∀ a : Attempt, (s.line l).attempt = some a →
      let ended := s.updLine l fun r => { r with attempt := none }
      exec (.telegramSent l a.telegram.bytes) s = .next { ended with
        slu := progress ended.slu a.serial fun p => { p with finished := true } } ∧
      ∀ echo : List Byte, echoDiffers a.telegram.bytes echo = true →
        exec (.attemptFailed l echo) s = .next { ended with
          slu := progress ended.slu a.serial fun p =>
            if 4 ≤ p.attempts ∨ p.late = true then { p with finished := true } else p }) ∧
    ∀ (seq : Byte) (i : TxItem), (waiting.find? fun x =>
        x.telegram.seq == seq && due x && x.life.due) = some i →
      ((∀ a, (s.line l).attempt = some a → a.serial ≠ i.serial) →
        exec (.transmitGiveUp l seq) s = .next { s with
          slu := progress s.slu i.serial fun p => { p with finished := true } }) ∧
      (∀ a, (s.line l).attempt = some a → a.serial = i.serial →
        exec (.transmitGiveUp l seq) s = .next { s with
          slu := progress s.slu i.serial fun p => { p with late := true } })

/-! ## Rules of the whole machine -/

/-- Every law of the device named in Safety.lean holds at reset. -/
def Obligations.ResetKeepsEveryLaw : Prop :=
  State.reset.SectionsTied ∧ State.reset.FaultsOrdered ∧ State.reset.QueuesBounded ∧
    State.reset.PoolFullWhileWaiting ∧ State.reset.OffersLawful ∧ State.reset.OffersOwned ∧
    State.reset.NothingOutsideRun ∧ State.reset.OffersHeld ∧ State.reset.FlankCounted ∧
    State.reset.OutputsFollow ∧ State.reset.LampTimersFollow ∧ State.reset.FaultsMirrorRecords ∧
    State.reset.ShownKept ∧ State.reset.NoLitRedFailed

/-- Every step keeps state and count of every section tied together, the queues and windows within
their sizes, the fault set a set in the order of the fault list, and the law that a route waits in
the timer queue only while all 16 pool timers are in use (R25, R115, R134, R139, R160, R164). -/
def Obligations.CountsQueuesAndFaultSetStayLawful : Prop :=
  ∀ s t : State, step s = .next t → (s.SectionsTied → t.SectionsTied) ∧
    (s.QueuesBounded → t.QueuesBounded) ∧ (s.FaultsOrdered → t.FaultsOrdered) ∧
    (s.PoolFullWhileWaiting → t.PoolFullWhileWaiting)

/-- Every step keeps the laws of the offer table: distinct ids, no SENT record to a neighbour that
is BLOCKED or not ALIVE, no GRANTED record of one that is not ALIVE; every offer reference of a
route names a record of that route; and every record belongs to a route that is not IDLE, once among
its references (R81, R106, R148, R150, R156). -/
def Obligations.OfferTableStaysLawful : Prop :=
  ∀ s t : State, step s = .next t →
    (s.OffersLawful → t.OffersLawful) ∧ (s.OffersOwned → t.OffersOwned) ∧
    (s.OffersOwned → s.OffersHeld → t.OffersHeld)

/-- Every step keeps the law of the flank counts: the claim count of a point in a position and the
hold count of a signal are the numbers of held-flank sets of routes, hosted portions and hosted
flank grants that name them, each 0 to 15, no point is claimed in both positions, and the set of a
route or portion that is IDLE or past the end of its path is empty. The law that nothing stands
outside RUN, whose own statement is NothingStandsOutsideRun, is a premise: an image is accepted
while nothing is claimed (R71, R120, R125, R126). -/
def Obligations.FlankCountsFollowTheHeldFlankSets : Prop :=
  ∀ s t : State, step s = .next t → s.NothingOutsideRun → s.FlankCounted → t.FlankCounted

/-- Every step keeps the law that outside RUN nothing is set, held, claimed, hosted, offered or
timed by the pool (R74, R114, R159). -/
def Obligations.NothingStandsOutsideRun : Prop :=
  ∀ s t : State, s.NothingOutsideRun → step s = .next t → t.NothingOutsideRun

/-- Every step keeps every output at the level its role calls for, its safe state outside RUN
included (R10, R13, R15, R57, R98), and the shown aspect of every signal as the last event left it
(R97; the kept aspect, log 36). -/
def Obligations.OutputsStayAtTheirLevels : Prop :=
  ∀ s t : State, step s = .next t →
    (s.OutputsFollow → t.OutputsFollow) ∧ (s.ShownKept → t.ShownKept)

/-- Every step keeps the proving timers running exactly while their conditions hold, the fault
conditions that follow their cause standing exactly while the record says so, and, with these
timers, every red lamp that is energised and lit without its lamp-failed flag (R22, R99, R100, R101,
R102, R103, R150, R163). -/
def Obligations.SupervisionFollowsTheRecords : Prop :=
  ∀ s t : State, step s = .next t → (s.LampTimersFollow → t.LampTimersFollow) ∧
    (s.FaultsMirrorRecords → t.FaultsMirrorRecords) ∧
    (s.LampTimersFollow → s.NoLitRedFailed → t.NoLitRedFailed)

/-- A signal shows other than DANGER only in RUN, with a presented aspect other than DANGER and a
LOCKED route from it: the signal not blocked and not held at danger, its yellow and green lamps
without a flag, every path point detected at its position, every offer of the route GRANTED, and
every path section proved: for a MAIN route CLEAR without OCC, and reported CLEAR by the neighbour
of a boundary section; for a CALL_ON route not DISTURBED, and it shows CALL_ON alone (R52, R53, R93,
R95, R96, R97). -/
def Obligations.PermissiveAspectHasAProvedRoute : Prop :=
  ∀ (s : State) (g : Fin 16), s.shown g ≠ .danger →
    s.sld.station = .run ∧ (s.asu.signals[g]).presented ≠ .danger ∧
    (s.lku.signals[g]).blocked = false ∧ (s.lku.signals[g]).holds = 0 ∧
    (∀ l : Lamp, l ≠ .red → (s.lampRec g l).failed = false ∧ (s.lampRec g l).stray = false) ∧
    ∃ (r : Fin 64) (c : RouteCfg), s.config.routes[r] = some c ∧ c.entry = g ∧
      (s.lku.routes[r]).state = .locked ∧
      (∀ q, q ∈ c.plan.points → (s.pcu.points[q.1]).detected = detectedAt q.2) ∧
      (∀ k, k ∈ (s.lku.routes[r]).offers → ∃ o, s.hou.offers[k] = some o ∧ o.state = .granted) ∧
      (c.cls = .main → ∀ k, k ∈ c.plan.path → (s.acu.sections[k]).state = .clear ∧
        (s.acu.sections[k]).occ = false ∧
        ∀ n, boundaryNeighbour s.config k = some n → s.neighbourView n k = some .clear) ∧
      (c.cls = .callOn → s.shown g = .callOn ∧
        ∀ k, k ∈ c.plan.path → (s.acu.sections[k]).state ≠ .disturbed)

/-- Across every command but RESET: the station state moves as 11.5 says, so HALT is left by reset
alone, and each change has its command: CONFIG becomes QUIET by CONFIG_READ_END, QUIET becomes RUN
by QUIET_TIMER_EXPIRY, and HALT is entered by STOP, or from CONFIG by CONFIG_READ_END or
CONFIG_READ_TIMEOUT; the presented aspects change at flash boundaries alone; the block flags change
by BLOCK alone; and, but for the acceptance of an image, the configuration stays (R12, R72, R97,
R166 to R169). That no command changes the pins, the clock or the commands that wait is the model's
choice, log 5, log 2 and log 31. -/
def Obligations.OnlyTheNamedEventsChangeThese : Prop :=
  ∀ (i : Instr) (s t : State), exec i s = .next t → i ≠ .reset →
    s.sld.station.mayBecome t.sld.station = true ∧
    (t.sld.station ≠ s.sld.station →
      (t.sld.station = .quiet → s.sld.station = .config ∧ ∃ delivered,
        i = .configReadEnd delivered) ∧
      (t.sld.station = .run → s.sld.station = .quiet ∧ i = .quietTimerExpiry) ∧
      (t.sld.station = .halt → (∃ delivered, i = .stop delivered) ∨
        (s.sld.station = .config ∧ ∃ delivered,
          i = .configReadEnd delivered ∨ i = .configReadTimeout delivered))) ∧
    (i ≠ .flashBoundary → t.fsu.onHalf = s.fsu.onHalf ∧
      ∀ g : Fin 16, (t.asu.signals[g]).presented = (s.asu.signals[g]).presented) ∧
    (i ≠ .block →
      (∀ k : Fin 32, (t.lku.sections[k]).blocked = (s.lku.sections[k]).blocked) ∧
      (∀ p : Fin 16, (t.lku.points[p]).blocked = (s.lku.points[p]).blocked) ∧
      ∀ g : Fin 16, (t.lku.signals[g]).blocked = (s.lku.signals[g]).blocked) ∧
    t.pins = s.pins ∧ t.ticks = s.ticks ∧ t.pending = s.pending ∧
    ((∀ delivered, i ≠ .configReadEnd delivered) → t.config = s.config)

/-- A DISTURBED section leaves DISTURBED on two events alone, the execution of a reset by
CONFIRM_RESET and an accepted SECTION_RESET, and becomes PREPARED (R40). -/
def Obligations.DisturbedIsLeftByAResetAlone : Prop :=
  ∀ (i : Instr) (s t : State) (k : Fin 32), exec i s = .next t →
    (s.acu.sections[k]).state = .disturbed → (t.acu.sections[k]).state ≠ .disturbed →
    (t.acu.sections[k]).state = .prepared ∧
      (i = .confirmReset ∨ ∃ f, telegramRow i = some (kindSectionReset, f))
end

