-- ==== Sys2Proof/Laws/Tables.lean ====
section
/-! SUPPORT. What `upd` and `mapTab` do at each entry of a table, and what `distinct` keeps. -/

namespace Sys2Proof

variable {α β : Type} {n : Nat}

@[simp] theorem upd_same (v : Vector α n) (i : Fin n) (f : α → α) : (upd v i f)[i] = f v[i] := by
  simp [upd]

theorem upd_other (v : Vector α n) (i j : Fin n) (f : α → α) (h : i ≠ j) :
    (upd v i f)[j] = v[j] := by
  simp [upd, Fin.val_inj, h]

/-- An entry of an updated table, in both cases. -/
theorem upd_get (v : Vector α n) (i j : Fin n) (f : α → α) :
    (upd v i f)[j] = if i = j then f v[j] else v[j] := by
  split
  · next h => subst h; exact upd_same v i f
  · next h => exact upd_other v i j f h

@[simp] theorem mapTab_get (f : Fin n → α → β) (v : Vector α n) (i : Fin n) :
    (mapTab f v)[i] = f i v[i] := by
  simp [mapTab]

/-- The same at a natural index, the form in which `simp` states an entry. -/
@[simp] theorem mapTab_getNat (f : Fin n → α → β) (v : Vector α n) (i : Nat) (h : i < n) :
    (mapTab f v)[i] = f ⟨i, h⟩ v[i] := by
  simp [mapTab]

/-- An entry of an updated table at a natural index. -/
theorem upd_getNat (v : Vector α n) (i : Fin n) (j : Nat) (h : j < n) (f : α → α) :
    (upd v i f)[j] = if i.val = j then f v[j] else v[j] := by
  have e := upd_get v i ⟨j, h⟩ f
  simpa [Fin.ext_iff] using e

@[simp] theorem mem_distinct [DecidableEq α] (x : α) (xs : List α) : x ∈ distinct xs ↔ x ∈ xs := by
  induction xs with
  | nil => simp [distinct]
  | cons y ys ih =>
    by_cases h : x = y
    · simp [distinct, h]
    · simp [distinct, h, ih]

theorem nodup_distinct [DecidableEq α] (xs : List α) : (distinct xs).Nodup := by
  induction xs with
  | nil => simp [distinct]
  | cons y ys ih => simp [distinct, ih.filter]

end Sys2Proof
end

