-- ==== Sys2Proof/Laws/State.lean ====
section
/-! SUPPORT. One lemma for each update of a record: every field it leaves as it was, and the field
it writes. -/

namespace Sys2Proof.Machine

open Sys2Proof

@[simp] theorem State.updHead_keeps (s : State) (h : Fin 24) (f : HeadRec → HeadRec) :
    (s.updHead h f).pending = s.pending ∧ (s.updHead h f).ticks = s.ticks ∧
    (s.updHead h f).pins = s.pins ∧ (s.updHead h f).config = s.config ∧
    (s.updHead h f).fsu = s.fsu ∧ (s.updHead h f).acu.sections = s.acu.sections ∧
    (s.updHead h f).acu.baselines = s.acu.baselines ∧ (s.updHead h f).pcu = s.pcu ∧
    (s.updHead h f).lku = s.lku ∧ (s.updHead h f).asu = s.asu ∧ (s.updHead h f).rtp = s.rtp ∧
    (s.updHead h f).slu = s.slu ∧ (s.updHead h f).hou = s.hou ∧ (s.updHead h f).cmu = s.cmu ∧
    (s.updHead h f).sld = s.sld :=
  ⟨rfl, rfl, rfl, rfl, rfl, rfl, rfl, rfl, rfl, rfl, rfl, rfl, rfl, rfl, rfl⟩

@[simp] theorem State.updHead_heads (s : State) (h : Fin 24) (f : HeadRec → HeadRec) :
    (s.updHead h f).acu.heads = upd s.acu.heads h f := rfl

@[simp] theorem State.updSection_keeps (s : State) (k : Fin 32) (f : SectionRec → SectionRec) :
    (s.updSection k f).pending = s.pending ∧ (s.updSection k f).ticks = s.ticks ∧
    (s.updSection k f).pins = s.pins ∧ (s.updSection k f).config = s.config ∧
    (s.updSection k f).fsu = s.fsu ∧ (s.updSection k f).acu.heads = s.acu.heads ∧
    (s.updSection k f).acu.baselines = s.acu.baselines ∧ (s.updSection k f).pcu = s.pcu ∧
    (s.updSection k f).lku = s.lku ∧ (s.updSection k f).asu = s.asu ∧
    (s.updSection k f).rtp = s.rtp ∧ (s.updSection k f).slu = s.slu ∧
    (s.updSection k f).hou = s.hou ∧ (s.updSection k f).cmu = s.cmu ∧ (s.updSection k f).sld = s.sld :=
  ⟨rfl, rfl, rfl, rfl, rfl, rfl, rfl, rfl, rfl, rfl, rfl, rfl, rfl, rfl, rfl⟩

@[simp] theorem State.updSection_sections (s : State) (k : Fin 32) (f : SectionRec → SectionRec) :
    (s.updSection k f).acu.sections = upd s.acu.sections k f := rfl

@[simp] theorem State.updPoint_keeps (s : State) (p : Fin 16) (f : PointRec → PointRec) :
    (s.updPoint p f).pending = s.pending ∧ (s.updPoint p f).ticks = s.ticks ∧
    (s.updPoint p f).pins = s.pins ∧ (s.updPoint p f).config = s.config ∧
    (s.updPoint p f).fsu = s.fsu ∧ (s.updPoint p f).acu = s.acu ∧ (s.updPoint p f).lku = s.lku ∧
    (s.updPoint p f).asu = s.asu ∧ (s.updPoint p f).rtp = s.rtp ∧ (s.updPoint p f).slu = s.slu ∧
    (s.updPoint p f).hou = s.hou ∧ (s.updPoint p f).cmu = s.cmu ∧ (s.updPoint p f).sld = s.sld :=
  ⟨rfl, rfl, rfl, rfl, rfl, rfl, rfl, rfl, rfl, rfl, rfl, rfl, rfl⟩

@[simp] theorem State.updPoint_points (s : State) (p : Fin 16) (f : PointRec → PointRec) :
    (s.updPoint p f).pcu.points = upd s.pcu.points p f := rfl

@[simp] theorem State.updSectionLock_keeps (s : State) (k : Fin 32) (f
    : SectionLock → SectionLock) :
    (s.updSectionLock k f).pending = s.pending ∧ (s.updSectionLock k f).ticks = s.ticks ∧
    (s.updSectionLock k f).pins = s.pins ∧ (s.updSectionLock k f).config = s.config ∧
    (s.updSectionLock k f).fsu = s.fsu ∧ (s.updSectionLock k f).acu = s.acu ∧
    (s.updSectionLock k f).pcu = s.pcu ∧ (s.updSectionLock k f).lku.points = s.lku.points ∧
    (s.updSectionLock k f).lku.signals = s.lku.signals ∧
    (s.updSectionLock k f).lku.routes = s.lku.routes ∧ (s.updSectionLock k f).asu = s.asu ∧
    (s.updSectionLock k f).rtp = s.rtp ∧ (s.updSectionLock k f).slu = s.slu ∧
    (s.updSectionLock k f).hou = s.hou ∧ (s.updSectionLock k f).cmu = s.cmu ∧
    (s.updSectionLock k f).sld = s.sld :=
  ⟨rfl, rfl, rfl, rfl, rfl, rfl, rfl, rfl, rfl, rfl, rfl, rfl, rfl, rfl, rfl, rfl⟩

@[simp] theorem State.updSectionLock_sections (s : State) (k : Fin 32) (f
    : SectionLock → SectionLock) :
    (s.updSectionLock k f).lku.sections = upd s.lku.sections k f := rfl

@[simp] theorem State.updPointLock_keeps (s : State) (p : Fin 16) (f : PointLock → PointLock) :
    (s.updPointLock p f).pending = s.pending ∧ (s.updPointLock p f).ticks = s.ticks ∧
    (s.updPointLock p f).pins = s.pins ∧ (s.updPointLock p f).config = s.config ∧
    (s.updPointLock p f).fsu = s.fsu ∧ (s.updPointLock p f).acu = s.acu ∧
    (s.updPointLock p f).pcu = s.pcu ∧ (s.updPointLock p f).lku.sections = s.lku.sections ∧
    (s.updPointLock p f).lku.signals = s.lku.signals ∧
    (s.updPointLock p f).lku.routes = s.lku.routes ∧ (s.updPointLock p f).asu = s.asu ∧
    (s.updPointLock p f).rtp = s.rtp ∧ (s.updPointLock p f).slu = s.slu ∧
    (s.updPointLock p f).hou = s.hou ∧ (s.updPointLock p f).cmu = s.cmu ∧
    (s.updPointLock p f).sld = s.sld :=
  ⟨rfl, rfl, rfl, rfl, rfl, rfl, rfl, rfl, rfl, rfl, rfl, rfl, rfl, rfl, rfl, rfl⟩

@[simp] theorem State.updPointLock_points (s : State) (p : Fin 16) (f : PointLock → PointLock) :
    (s.updPointLock p f).lku.points = upd s.lku.points p f := rfl

@[simp] theorem State.updSignalLock_keeps (s : State) (g : Fin 16) (f : SignalLock → SignalLock) :
    (s.updSignalLock g f).pending = s.pending ∧ (s.updSignalLock g f).ticks = s.ticks ∧
    (s.updSignalLock g f).pins = s.pins ∧ (s.updSignalLock g f).config = s.config ∧
    (s.updSignalLock g f).fsu = s.fsu ∧ (s.updSignalLock g f).acu = s.acu ∧
    (s.updSignalLock g f).pcu = s.pcu ∧ (s.updSignalLock g f).lku.sections = s.lku.sections ∧
    (s.updSignalLock g f).lku.points = s.lku.points ∧
    (s.updSignalLock g f).lku.routes = s.lku.routes ∧ (s.updSignalLock g f).asu = s.asu ∧
    (s.updSignalLock g f).rtp = s.rtp ∧ (s.updSignalLock g f).slu = s.slu ∧
    (s.updSignalLock g f).hou = s.hou ∧ (s.updSignalLock g f).cmu = s.cmu ∧
    (s.updSignalLock g f).sld = s.sld :=
  ⟨rfl, rfl, rfl, rfl, rfl, rfl, rfl, rfl, rfl, rfl, rfl, rfl, rfl, rfl, rfl, rfl⟩

@[simp] theorem State.updSignalLock_signals (s : State) (g : Fin 16) (f : SignalLock → SignalLock) :
    (s.updSignalLock g f).lku.signals = upd s.lku.signals g f := rfl

@[simp] theorem State.updRoute_keeps (s : State) (r : Fin 64) (f : RouteRec → RouteRec) :
    (s.updRoute r f).pending = s.pending ∧ (s.updRoute r f).ticks = s.ticks ∧
    (s.updRoute r f).pins = s.pins ∧ (s.updRoute r f).config = s.config ∧
    (s.updRoute r f).fsu = s.fsu ∧ (s.updRoute r f).acu = s.acu ∧ (s.updRoute r f).pcu = s.pcu ∧
    (s.updRoute r f).lku.sections = s.lku.sections ∧ (s.updRoute r f).lku.points = s.lku.points ∧
    (s.updRoute r f).lku.signals = s.lku.signals ∧ (s.updRoute r f).asu = s.asu ∧
    (s.updRoute r f).rtp = s.rtp ∧ (s.updRoute r f).slu = s.slu ∧ (s.updRoute r f).hou = s.hou ∧
    (s.updRoute r f).cmu = s.cmu ∧ (s.updRoute r f).sld = s.sld :=
  ⟨rfl, rfl, rfl, rfl, rfl, rfl, rfl, rfl, rfl, rfl, rfl, rfl, rfl, rfl, rfl, rfl⟩

@[simp] theorem State.updRoute_routes (s : State) (r : Fin 64) (f : RouteRec → RouteRec) :
    (s.updRoute r f).lku.routes = upd s.lku.routes r f := rfl

@[simp] theorem State.updSignal_keeps (s : State) (g : Fin 16) (f : SignalRec → SignalRec) :
    (s.updSignal g f).pending = s.pending ∧ (s.updSignal g f).ticks = s.ticks ∧
    (s.updSignal g f).pins = s.pins ∧ (s.updSignal g f).config = s.config ∧
    (s.updSignal g f).fsu = s.fsu ∧ (s.updSignal g f).acu = s.acu ∧ (s.updSignal g f).pcu = s.pcu ∧
    (s.updSignal g f).lku = s.lku ∧ (s.updSignal g f).rtp = s.rtp ∧ (s.updSignal g f).slu = s.slu ∧
    (s.updSignal g f).hou = s.hou ∧ (s.updSignal g f).cmu = s.cmu ∧ (s.updSignal g f).sld = s.sld :=
  ⟨rfl, rfl, rfl, rfl, rfl, rfl, rfl, rfl, rfl, rfl, rfl, rfl, rfl⟩

@[simp] theorem State.updSignal_signals (s : State) (g : Fin 16) (f : SignalRec → SignalRec) :
    (s.updSignal g f).asu.signals = upd s.asu.signals g f := rfl

@[simp] theorem State.updNeighbour_keeps (s : State) (n : Fin 4) (f : NeighbourRec → NeighbourRec) :
    (s.updNeighbour n f).pending = s.pending ∧ (s.updNeighbour n f).ticks = s.ticks ∧
    (s.updNeighbour n f).pins = s.pins ∧ (s.updNeighbour n f).config = s.config ∧
    (s.updNeighbour n f).fsu = s.fsu ∧ (s.updNeighbour n f).acu = s.acu ∧
    (s.updNeighbour n f).pcu = s.pcu ∧ (s.updNeighbour n f).lku = s.lku ∧
    (s.updNeighbour n f).asu = s.asu ∧ (s.updNeighbour n f).rtp = s.rtp ∧
    (s.updNeighbour n f).slu = s.slu ∧ (s.updNeighbour n f).hou.offers = s.hou.offers ∧
    (s.updNeighbour n f).hou.lastId = s.hou.lastId ∧
    (s.updNeighbour n f).hou.portions = s.hou.portions ∧
    (s.updNeighbour n f).hou.grants = s.hou.grants ∧
    (s.updNeighbour n f).hou.statusPeriod = s.hou.statusPeriod ∧
    (s.updNeighbour n f).hou.statusPacing = s.hou.statusPacing ∧
    (s.updNeighbour n f).hou.statusChange = s.hou.statusChange ∧ (s.updNeighbour n f).cmu = s.cmu ∧
    (s.updNeighbour n f).sld = s.sld :=
  ⟨rfl, rfl, rfl, rfl, rfl, rfl, rfl, rfl, rfl, rfl, 
    rfl, rfl, rfl, rfl, rfl, rfl, rfl, rfl, rfl, rfl⟩

@[simp] theorem State.updNeighbour_neighbours (s : State) (n : Fin 4) (f
    : NeighbourRec → NeighbourRec) :
    (s.updNeighbour n f).hou.neighbours = upd s.hou.neighbours n f := rfl

@[simp] theorem State.updOffer_keeps (s : State) (k : Fin 8) (f : Option Offer → Option Offer) :
    (s.updOffer k f).pending = s.pending ∧ (s.updOffer k f).ticks = s.ticks ∧
    (s.updOffer k f).pins = s.pins ∧ (s.updOffer k f).config = s.config ∧
    (s.updOffer k f).fsu = s.fsu ∧ (s.updOffer k f).acu = s.acu ∧ (s.updOffer k f).pcu = s.pcu ∧
    (s.updOffer k f).lku = s.lku ∧ (s.updOffer k f).asu = s.asu ∧ (s.updOffer k f).rtp = s.rtp ∧
    (s.updOffer k f).slu = s.slu ∧ (s.updOffer k f).hou.neighbours = s.hou.neighbours ∧
    (s.updOffer k f).hou.lastId = s.hou.lastId ∧ (s.updOffer k f).hou.portions = s.hou.portions ∧
    (s.updOffer k f).hou.grants = s.hou.grants ∧
    (s.updOffer k f).hou.statusPeriod = s.hou.statusPeriod ∧
    (s.updOffer k f).hou.statusPacing = s.hou.statusPacing ∧
    (s.updOffer k f).hou.statusChange = s.hou.statusChange ∧ (s.updOffer k f).cmu = s.cmu ∧
    (s.updOffer k f).sld = s.sld :=
  ⟨rfl, rfl, rfl, rfl, rfl, rfl, rfl, rfl, rfl, rfl, 
    rfl, rfl, rfl, rfl, rfl, rfl, rfl, rfl, rfl, rfl⟩

@[simp] theorem State.updOffer_offers (s : State) (k : Fin 8) (f : Option Offer → Option Offer) :
    (s.updOffer k f).hou.offers = upd s.hou.offers k f := rfl

@[simp] theorem State.updPortion_keeps (s : State) (p : Fin 16) (f : PortionRec → PortionRec) :
    (s.updPortion p f).pending = s.pending ∧ (s.updPortion p f).ticks = s.ticks ∧
    (s.updPortion p f).pins = s.pins ∧ (s.updPortion p f).config = s.config ∧
    (s.updPortion p f).fsu = s.fsu ∧ (s.updPortion p f).acu = s.acu ∧
    (s.updPortion p f).pcu = s.pcu ∧ (s.updPortion p f).lku = s.lku ∧
    (s.updPortion p f).asu = s.asu ∧ (s.updPortion p f).rtp = s.rtp ∧
    (s.updPortion p f).slu = s.slu ∧ (s.updPortion p f).hou.neighbours = s.hou.neighbours ∧
    (s.updPortion p f).hou.offers = s.hou.offers ∧ (s.updPortion p f).hou.lastId = s.hou.lastId ∧
    (s.updPortion p f).hou.grants = s.hou.grants ∧
    (s.updPortion p f).hou.statusPeriod = s.hou.statusPeriod ∧
    (s.updPortion p f).hou.statusPacing = s.hou.statusPacing ∧
    (s.updPortion p f).hou.statusChange = s.hou.statusChange ∧ (s.updPortion p f).cmu = s.cmu ∧
    (s.updPortion p f).sld = s.sld :=
  ⟨rfl, rfl, rfl, rfl, rfl, rfl, rfl, rfl, rfl, rfl, 
    rfl, rfl, rfl, rfl, rfl, rfl, rfl, rfl, rfl, rfl⟩

@[simp] theorem State.updPortion_portions (s : State) (p : Fin 16) (f : PortionRec → PortionRec) :
    (s.updPortion p f).hou.portions = upd s.hou.portions p f := rfl

@[simp] theorem State.updGrant_keeps (s : State) (k : Fin 8) (f : Option Grant → Option Grant) :
    (s.updGrant k f).pending = s.pending ∧ (s.updGrant k f).ticks = s.ticks ∧
    (s.updGrant k f).pins = s.pins ∧ (s.updGrant k f).config = s.config ∧
    (s.updGrant k f).fsu = s.fsu ∧ (s.updGrant k f).acu = s.acu ∧ (s.updGrant k f).pcu = s.pcu ∧
    (s.updGrant k f).lku = s.lku ∧ (s.updGrant k f).asu = s.asu ∧ (s.updGrant k f).rtp = s.rtp ∧
    (s.updGrant k f).slu = s.slu ∧ (s.updGrant k f).hou.neighbours = s.hou.neighbours ∧
    (s.updGrant k f).hou.offers = s.hou.offers ∧ (s.updGrant k f).hou.lastId = s.hou.lastId ∧
    (s.updGrant k f).hou.portions = s.hou.portions ∧
    (s.updGrant k f).hou.statusPeriod = s.hou.statusPeriod ∧
    (s.updGrant k f).hou.statusPacing = s.hou.statusPacing ∧
    (s.updGrant k f).hou.statusChange = s.hou.statusChange ∧ (s.updGrant k f).cmu = s.cmu ∧
    (s.updGrant k f).sld = s.sld :=
  ⟨rfl, rfl, rfl, rfl, rfl, rfl, rfl, rfl, rfl, rfl, 
    rfl, rfl, rfl, rfl, rfl, rfl, rfl, rfl, rfl, rfl⟩

@[simp] theorem State.updGrant_grants (s : State) (k : Fin 8) (f : Option Grant → Option Grant) :
    (s.updGrant k f).hou.grants = upd s.hou.grants k f := rfl

@[simp] theorem State.mapSections_keeps (s : State) (f : Fin 32 → SectionRec → SectionRec) :
    (s.mapSections f).pending = s.pending ∧ (s.mapSections f).ticks = s.ticks ∧
    (s.mapSections f).pins = s.pins ∧ (s.mapSections f).config = s.config ∧
    (s.mapSections f).fsu = s.fsu ∧ (s.mapSections f).acu.heads = s.acu.heads ∧
    (s.mapSections f).acu.baselines = s.acu.baselines ∧ (s.mapSections f).pcu = s.pcu ∧
    (s.mapSections f).lku = s.lku ∧ (s.mapSections f).asu = s.asu ∧ (s.mapSections f).rtp = s.rtp ∧
    (s.mapSections f).slu = s.slu ∧ (s.mapSections f).hou = s.hou ∧ (s.mapSections f).cmu = s.cmu ∧
    (s.mapSections f).sld = s.sld :=
  ⟨rfl, rfl, rfl, rfl, rfl, rfl, rfl, rfl, rfl, rfl, rfl, rfl, rfl, rfl, rfl⟩

@[simp] theorem State.mapSections_sections (s : State) (f : Fin 32 → SectionRec → SectionRec) :
    (s.mapSections f).acu.sections = mapTab f s.acu.sections := rfl

@[simp] theorem State.mapBaselines_keeps (s : State) (f : Fin 8 → Baseline → Baseline) :
    (s.mapBaselines f).pending = s.pending ∧ (s.mapBaselines f).ticks = s.ticks ∧
    (s.mapBaselines f).pins = s.pins ∧ (s.mapBaselines f).config = s.config ∧
    (s.mapBaselines f).fsu = s.fsu ∧ (s.mapBaselines f).acu.heads = s.acu.heads ∧
    (s.mapBaselines f).acu.sections = s.acu.sections ∧ (s.mapBaselines f).pcu = s.pcu ∧
    (s.mapBaselines f).lku = s.lku ∧ (s.mapBaselines f).asu = s.asu ∧
    (s.mapBaselines f).rtp = s.rtp ∧ (s.mapBaselines f).slu = s.slu ∧
    (s.mapBaselines f).hou = s.hou ∧ (s.mapBaselines f).cmu = s.cmu ∧ (s.mapBaselines f).sld = s.sld :=
  ⟨rfl, rfl, rfl, rfl, rfl, rfl, rfl, rfl, rfl, rfl, rfl, rfl, rfl, rfl, rfl⟩

@[simp] theorem State.mapBaselines_baselines (s : State) (f : Fin 8 → Baseline → Baseline) :
    (s.mapBaselines f).acu.baselines = mapTab f s.acu.baselines := rfl

@[simp] theorem State.mapPoints_keeps (s : State) (f : Fin 16 → PointRec → PointRec) :
    (s.mapPoints f).pending = s.pending ∧ (s.mapPoints f).ticks = s.ticks ∧
    (s.mapPoints f).pins = s.pins ∧ (s.mapPoints f).config = s.config ∧
    (s.mapPoints f).fsu = s.fsu ∧ (s.mapPoints f).acu = s.acu ∧ (s.mapPoints f).lku = s.lku ∧
    (s.mapPoints f).asu = s.asu ∧ (s.mapPoints f).rtp = s.rtp ∧ (s.mapPoints f).slu = s.slu ∧
    (s.mapPoints f).hou = s.hou ∧ (s.mapPoints f).cmu = s.cmu ∧ (s.mapPoints f).sld = s.sld :=
  ⟨rfl, rfl, rfl, rfl, rfl, rfl, rfl, rfl, rfl, rfl, rfl, rfl, rfl⟩

@[simp] theorem State.mapPoints_points (s : State) (f : Fin 16 → PointRec → PointRec) :
    (s.mapPoints f).pcu.points = mapTab f s.pcu.points := rfl

@[simp] theorem State.mapSignals_keeps (s : State) (f : Fin 16 → SignalRec → SignalRec) :
    (s.mapSignals f).pending = s.pending ∧ (s.mapSignals f).ticks = s.ticks ∧
    (s.mapSignals f).pins = s.pins ∧ (s.mapSignals f).config = s.config ∧
    (s.mapSignals f).fsu = s.fsu ∧ (s.mapSignals f).acu = s.acu ∧ (s.mapSignals f).pcu = s.pcu ∧
    (s.mapSignals f).lku = s.lku ∧ (s.mapSignals f).rtp = s.rtp ∧ (s.mapSignals f).slu = s.slu ∧
    (s.mapSignals f).hou = s.hou ∧ (s.mapSignals f).cmu = s.cmu ∧ (s.mapSignals f).sld = s.sld :=
  ⟨rfl, rfl, rfl, rfl, rfl, rfl, rfl, rfl, rfl, rfl, rfl, rfl, rfl⟩

@[simp] theorem State.mapSignals_signals (s : State) (f : Fin 16 → SignalRec → SignalRec) :
    (s.mapSignals f).asu.signals = mapTab f s.asu.signals := rfl

@[simp] theorem State.mapPortions_keeps (s : State) (f : Fin 16 → PortionRec → PortionRec) :
    (s.mapPortions f).pending = s.pending ∧ (s.mapPortions f).ticks = s.ticks ∧
    (s.mapPortions f).pins = s.pins ∧ (s.mapPortions f).config = s.config ∧
    (s.mapPortions f).fsu = s.fsu ∧ (s.mapPortions f).acu = s.acu ∧ (s.mapPortions f).pcu = s.pcu ∧
    (s.mapPortions f).lku = s.lku ∧ (s.mapPortions f).asu = s.asu ∧ (s.mapPortions f).rtp = s.rtp ∧
    (s.mapPortions f).slu = s.slu ∧ (s.mapPortions f).hou.neighbours = s.hou.neighbours ∧
    (s.mapPortions f).hou.offers = s.hou.offers ∧ (s.mapPortions f).hou.lastId = s.hou.lastId ∧
    (s.mapPortions f).hou.grants = s.hou.grants ∧
    (s.mapPortions f).hou.statusPeriod = s.hou.statusPeriod ∧
    (s.mapPortions f).hou.statusPacing = s.hou.statusPacing ∧
    (s.mapPortions f).hou.statusChange = s.hou.statusChange ∧ (s.mapPortions f).cmu = s.cmu ∧
    (s.mapPortions f).sld = s.sld :=
  ⟨rfl, rfl, rfl, rfl, rfl, rfl, rfl, rfl, rfl, rfl, 
    rfl, rfl, rfl, rfl, rfl, rfl, rfl, rfl, rfl, rfl⟩

@[simp] theorem State.mapPortions_portions (s : State) (f : Fin 16 → PortionRec → PortionRec) :
    (s.mapPortions f).hou.portions = mapTab f s.hou.portions := rfl

@[simp] theorem State.mapGrants_keeps (s : State) (f : Fin 8 → Option Grant → Option Grant) :
    (s.mapGrants f).pending = s.pending ∧ (s.mapGrants f).ticks = s.ticks ∧
    (s.mapGrants f).pins = s.pins ∧ (s.mapGrants f).config = s.config ∧
    (s.mapGrants f).fsu = s.fsu ∧ (s.mapGrants f).acu = s.acu ∧ (s.mapGrants f).pcu = s.pcu ∧
    (s.mapGrants f).lku = s.lku ∧ (s.mapGrants f).asu = s.asu ∧ (s.mapGrants f).rtp = s.rtp ∧
    (s.mapGrants f).slu = s.slu ∧ (s.mapGrants f).hou.neighbours = s.hou.neighbours ∧
    (s.mapGrants f).hou.offers = s.hou.offers ∧ (s.mapGrants f).hou.lastId = s.hou.lastId ∧
    (s.mapGrants f).hou.portions = s.hou.portions ∧
    (s.mapGrants f).hou.statusPeriod = s.hou.statusPeriod ∧
    (s.mapGrants f).hou.statusPacing = s.hou.statusPacing ∧
    (s.mapGrants f).hou.statusChange = s.hou.statusChange ∧ (s.mapGrants f).cmu = s.cmu ∧
    (s.mapGrants f).sld = s.sld :=
  ⟨rfl, rfl, rfl, rfl, rfl, rfl, rfl, rfl, rfl, rfl, 
    rfl, rfl, rfl, rfl, rfl, rfl, rfl, rfl, rfl, rfl⟩

@[simp] theorem State.mapGrants_grants (s : State) (f : Fin 8 → Option Grant → Option Grant) :
    (s.mapGrants f).hou.grants = mapTab f s.hou.grants := rfl

@[simp] theorem State.updPoolTimer_keeps (s : State) (k : Fin 16) (v : Option PoolTimer) :
    (s.updPoolTimer k v).pending = s.pending ∧ (s.updPoolTimer k v).ticks = s.ticks ∧
    (s.updPoolTimer k v).pins = s.pins ∧ (s.updPoolTimer k v).config = s.config ∧
    (s.updPoolTimer k v).fsu = s.fsu ∧ (s.updPoolTimer k v).acu = s.acu ∧
    (s.updPoolTimer k v).pcu = s.pcu ∧ (s.updPoolTimer k v).lku = s.lku ∧
    (s.updPoolTimer k v).asu = s.asu ∧ (s.updPoolTimer k v).rtp.queue = s.rtp.queue ∧
    (s.updPoolTimer k v).slu = s.slu ∧ (s.updPoolTimer k v).hou = s.hou ∧
    (s.updPoolTimer k v).cmu = s.cmu ∧ (s.updPoolTimer k v).sld = s.sld :=
  ⟨rfl, rfl, rfl, rfl, rfl, rfl, rfl, rfl, rfl, rfl, rfl, rfl, rfl, rfl⟩

@[simp] theorem State.updPoolTimer_timers (s : State) (k : Fin 16) (v : Option PoolTimer) :
    (s.updPoolTimer k v).rtp.timers = upd s.rtp.timers k fun _ => v := rfl

@[simp] theorem State.setPoolQueue_keeps (s : State) (q : List (Fin 64)) :
    (s.setPoolQueue q).pending = s.pending ∧ (s.setPoolQueue q).ticks = s.ticks ∧
    (s.setPoolQueue q).pins = s.pins ∧ (s.setPoolQueue q).config = s.config ∧
    (s.setPoolQueue q).fsu = s.fsu ∧ (s.setPoolQueue q).acu = s.acu ∧
    (s.setPoolQueue q).pcu = s.pcu ∧ (s.setPoolQueue q).lku = s.lku ∧
    (s.setPoolQueue q).asu = s.asu ∧ (s.setPoolQueue q).rtp.timers = s.rtp.timers ∧
    (s.setPoolQueue q).slu = s.slu ∧ (s.setPoolQueue q).hou = s.hou ∧
    (s.setPoolQueue q).cmu = s.cmu ∧ (s.setPoolQueue q).sld = s.sld :=
  ⟨rfl, rfl, rfl, rfl, rfl, rfl, rfl, rfl, rfl, rfl, rfl, rfl, rfl, rfl⟩

@[simp] theorem State.setPoolQueue_queue (s : State) (q : List (Fin 64)) :
    (s.setPoolQueue q).rtp.queue = q := rfl

@[simp] theorem State.updFaults_keeps (s : State) (f : List Condition → List Condition) :
    (s.updFaults f).pending = s.pending ∧ (s.updFaults f).ticks = s.ticks ∧
    (s.updFaults f).pins = s.pins ∧ (s.updFaults f).config = s.config ∧
    (s.updFaults f).fsu = s.fsu ∧ (s.updFaults f).acu = s.acu ∧ (s.updFaults f).pcu = s.pcu ∧
    (s.updFaults f).lku = s.lku ∧ (s.updFaults f).asu = s.asu ∧ (s.updFaults f).rtp = s.rtp ∧
    (s.updFaults f).slu = s.slu ∧ (s.updFaults f).hou = s.hou ∧
    (s.updFaults f).cmu.queue = s.cmu.queue ∧
    (s.updFaults f).cmu.pendingReset = s.cmu.pendingReset ∧
    (s.updFaults f).cmu.displayPeriod = s.cmu.displayPeriod ∧
    (s.updFaults f).cmu.pageZero = s.cmu.pageZero ∧ (s.updFaults f).cmu.pageOne = s.cmu.pageOne ∧
    (s.updFaults f).sld = s.sld :=
  ⟨rfl, rfl, rfl, rfl, rfl, rfl, rfl, rfl, rfl, 
    rfl, rfl, rfl, rfl, rfl, rfl, rfl, rfl, rfl⟩

@[simp] theorem State.updFaults_faults (s : State) (f : List Condition → List Condition) :
    (s.updFaults f).cmu.faults = f s.cmu.faults := rfl

@[simp] theorem State.setFault_keeps (s : State) (kind : FaultKind) (e : Byte) :
    (s.setFault kind e).pending = s.pending ∧ (s.setFault kind e).ticks = s.ticks ∧
    (s.setFault kind e).pins = s.pins ∧ (s.setFault kind e).config = s.config ∧
    (s.setFault kind e).fsu = s.fsu ∧ (s.setFault kind e).acu = s.acu ∧
    (s.setFault kind e).pcu = s.pcu ∧ (s.setFault kind e).lku = s.lku ∧
    (s.setFault kind e).asu = s.asu ∧ (s.setFault kind e).rtp = s.rtp ∧
    (s.setFault kind e).slu = s.slu ∧ (s.setFault kind e).hou = s.hou ∧
    (s.setFault kind e).cmu.queue = s.cmu.queue ∧
    (s.setFault kind e).cmu.pendingReset = s.cmu.pendingReset ∧
    (s.setFault kind e).cmu.displayPeriod = s.cmu.displayPeriod ∧
    (s.setFault kind e).cmu.pageZero = s.cmu.pageZero ∧
    (s.setFault kind e).cmu.pageOne = s.cmu.pageOne ∧ (s.setFault kind e).sld = s.sld :=
  ⟨rfl, rfl, rfl, rfl, rfl, rfl, rfl, rfl, rfl, 
    rfl, rfl, rfl, rfl, rfl, rfl, rfl, rfl, rfl⟩

@[simp] theorem State.setFault_faults (s : State) (kind : FaultKind) (e : Byte) :
    (s.setFault kind e).cmu.faults = setCondition ⟨kind, e⟩ s.cmu.faults := rfl

@[simp] theorem State.clearFault_keeps (s : State) (kind : FaultKind) (e : Byte) :
    (s.clearFault kind e).pending = s.pending ∧ (s.clearFault kind e).ticks = s.ticks ∧
    (s.clearFault kind e).pins = s.pins ∧ (s.clearFault kind e).config = s.config ∧
    (s.clearFault kind e).fsu = s.fsu ∧ (s.clearFault kind e).acu = s.acu ∧
    (s.clearFault kind e).pcu = s.pcu ∧ (s.clearFault kind e).lku = s.lku ∧
    (s.clearFault kind e).asu = s.asu ∧ (s.clearFault kind e).rtp = s.rtp ∧
    (s.clearFault kind e).slu = s.slu ∧ (s.clearFault kind e).hou = s.hou ∧
    (s.clearFault kind e).cmu.queue = s.cmu.queue ∧
    (s.clearFault kind e).cmu.pendingReset = s.cmu.pendingReset ∧
    (s.clearFault kind e).cmu.displayPeriod = s.cmu.displayPeriod ∧
    (s.clearFault kind e).cmu.pageZero = s.cmu.pageZero ∧
    (s.clearFault kind e).cmu.pageOne = s.cmu.pageOne ∧ (s.clearFault kind e).sld = s.sld :=
  ⟨rfl, rfl, rfl, rfl, rfl, rfl, rfl, rfl, rfl, 
    rfl, rfl, rfl, rfl, rfl, rfl, rfl, rfl, rfl⟩

@[simp] theorem State.clearFault_faults (s : State) (kind : FaultKind) (e : Byte) :
    (s.clearFault kind e).cmu.faults = clearCondition ⟨kind, e⟩ s.cmu.faults := rfl

/-- What every update of a list leaves as it was, all of them leave as it was. -/
theorem State.forEach_keeps {α β : Type} (π : State → β) (f : State → α → State)
    (h : ∀ s x, π (f s x) = π s) (s : State) (xs : List α) : π (s.forEach xs f) = π s := by
  unfold State.forEach
  induction xs generalizing s with
  | nil => rfl
  | cons x xs ih => exact (ih (f s x)).trans (h s x)

/-- A property that every update of a list keeps, all of them keep. -/
theorem State.forEach_induct {α : Type} (P : State → Prop) (f : State → α → State)
    (h : ∀ s x, P s → P (f s x)) (s : State) (xs : List α) (hs : P s) : P (s.forEach xs f) := by
  unfold State.forEach
  induction xs generalizing s with
  | nil => exact hs
  | cons x xs ih => exact ih (f s x) (h s x hs)

@[simp] theorem State.forEach_nil {α : Type} (s : State) (f : State → α → State) :
    s.forEach [] f = s := by simp [State.forEach]

@[simp] theorem State.forEach_cons {α : Type} (s : State) (x : α) (xs : List α)
    (f : State → α → State) : s.forEach (x :: xs) f = (f s x).forEach xs f := by
  simp [State.forEach]

@[simp] theorem State.updHold_keeps (s : State) (o : Owner) (f : Hold → Hold) :
    (s.updHold o f).pending = s.pending ∧ (s.updHold o f).ticks = s.ticks ∧
    (s.updHold o f).pins = s.pins ∧ (s.updHold o f).config = s.config ∧
    (s.updHold o f).fsu = s.fsu ∧ (s.updHold o f).acu = s.acu ∧ (s.updHold o f).pcu = s.pcu ∧
    (s.updHold o f).lku.sections = s.lku.sections ∧ (s.updHold o f).lku.points = s.lku.points ∧
    (s.updHold o f).lku.signals = s.lku.signals ∧ (s.updHold o f).asu = s.asu ∧
    (s.updHold o f).rtp = s.rtp ∧ (s.updHold o f).slu = s.slu ∧
    (s.updHold o f).hou.neighbours = s.hou.neighbours ∧ (s.updHold o f).hou.offers = s.hou.offers ∧
    (s.updHold o f).hou.lastId = s.hou.lastId ∧ (s.updHold o f).hou.grants = s.hou.grants ∧
    (s.updHold o f).hou.statusPeriod = s.hou.statusPeriod ∧
    (s.updHold o f).hou.statusPacing = s.hou.statusPacing ∧
    (s.updHold o f).hou.statusChange = s.hou.statusChange ∧ (s.updHold o f).cmu = s.cmu ∧
    (s.updHold o f).sld = s.sld := by
  cases o <;> simp [State.updHold]

end Sys2Proof.Machine
end

