-- ==== Sys2Proof/Laws/Lines.lean ====
section
/-! SUPPORT. What the operations of the station line leave as it was. -/

namespace Sys2Proof.Machine

open Sys2Proof

@[simp] theorem State.placeClassOne_keeps (s : State) (dest : Byte) (code : Word) (p : Payload) :
    (s.placeClassOne dest code p).pending = s.pending ∧
    (s.placeClassOne dest code p).ticks = s.ticks ∧ (s.placeClassOne dest code p).pins = s.pins ∧
    (s.placeClassOne dest code p).config = s.config ∧ (s.placeClassOne dest code p).fsu = s.fsu ∧
    (s.placeClassOne dest code p).acu = s.acu ∧ (s.placeClassOne dest code p).pcu = s.pcu ∧
    (s.placeClassOne dest code p).lku = s.lku ∧ (s.placeClassOne dest code p).asu = s.asu ∧
    (s.placeClassOne dest code p).rtp = s.rtp ∧
    (s.placeClassOne dest code p).slu.statusSlot = s.slu.statusSlot ∧
    (s.placeClassOne dest code p).slu.displayZero = s.slu.displayZero ∧
    (s.placeClassOne dest code p).slu.displayOne = s.slu.displayOne ∧
    (s.placeClassOne dest code p).slu.lineA = s.slu.lineA ∧
    (s.placeClassOne dest code p).slu.lineB = s.slu.lineB ∧
    (s.placeClassOne dest code p).slu.neighbourWindows = s.slu.neighbourWindows ∧
    (s.placeClassOne dest code p).slu.panelWindows = s.slu.panelWindows ∧
    (s.placeClassOne dest code p).slu.panelSilence = s.slu.panelSilence ∧
    (s.placeClassOne dest code p).hou = s.hou ∧ (s.placeClassOne dest code p).cmu = s.cmu ∧
    (s.placeClassOne dest code p).sld = s.sld := by
  unfold State.placeClassOne
  split <;> simp [StationLine.counted]

@[simp] theorem State.toNeighbour_keeps (s : State) (n : Fin 4) (p : Payload) :
    (s.toNeighbour n p).pending = s.pending ∧ (s.toNeighbour n p).ticks = s.ticks ∧
    (s.toNeighbour n p).pins = s.pins ∧ (s.toNeighbour n p).config = s.config ∧
    (s.toNeighbour n p).fsu = s.fsu ∧ (s.toNeighbour n p).acu = s.acu ∧
    (s.toNeighbour n p).pcu = s.pcu ∧ (s.toNeighbour n p).lku = s.lku ∧
    (s.toNeighbour n p).asu = s.asu ∧ (s.toNeighbour n p).rtp = s.rtp ∧
    (s.toNeighbour n p).slu.statusSlot = s.slu.statusSlot ∧
    (s.toNeighbour n p).slu.displayZero = s.slu.displayZero ∧
    (s.toNeighbour n p).slu.displayOne = s.slu.displayOne ∧
    (s.toNeighbour n p).slu.lineA = s.slu.lineA ∧ (s.toNeighbour n p).slu.lineB = s.slu.lineB ∧
    (s.toNeighbour n p).slu.neighbourWindows = s.slu.neighbourWindows ∧
    (s.toNeighbour n p).slu.panelWindows = s.slu.panelWindows ∧
    (s.toNeighbour n p).slu.panelSilence = s.slu.panelSilence ∧ (s.toNeighbour n p).hou = s.hou ∧
    (s.toNeighbour n p).cmu = s.cmu ∧ (s.toNeighbour n p).sld = s.sld := by
  unfold State.toNeighbour
  repeat' split
  all_goals simp

@[simp] theorem State.toPanel_keeps (s : State) (n : Fin 2) (p : Payload) :
    (s.toPanel n p).pending = s.pending ∧ (s.toPanel n p).ticks = s.ticks ∧
    (s.toPanel n p).pins = s.pins ∧ (s.toPanel n p).config = s.config ∧
    (s.toPanel n p).fsu = s.fsu ∧ (s.toPanel n p).acu = s.acu ∧ (s.toPanel n p).pcu = s.pcu ∧
    (s.toPanel n p).lku = s.lku ∧ (s.toPanel n p).asu = s.asu ∧ (s.toPanel n p).rtp = s.rtp ∧
    (s.toPanel n p).slu.statusSlot = s.slu.statusSlot ∧
    (s.toPanel n p).slu.displayZero = s.slu.displayZero ∧
    (s.toPanel n p).slu.displayOne = s.slu.displayOne ∧ (s.toPanel n p).slu.lineA = s.slu.lineA ∧
    (s.toPanel n p).slu.lineB = s.slu.lineB ∧
    (s.toPanel n p).slu.neighbourWindows = s.slu.neighbourWindows ∧
    (s.toPanel n p).slu.panelWindows = s.slu.panelWindows ∧
    (s.toPanel n p).slu.panelSilence = s.slu.panelSilence ∧ (s.toPanel n p).hou = s.hou ∧
    (s.toPanel n p).cmu = s.cmu ∧ (s.toPanel n p).sld = s.sld := by
  unfold State.toPanel
  repeat' split
  all_goals simp

@[simp] theorem State.placeStatusSlot_keeps (s : State) (code : Word) (p : Payload) :
    (s.placeStatusSlot code p).pending = s.pending ∧ (s.placeStatusSlot code p).ticks = s.ticks ∧
    (s.placeStatusSlot code p).pins = s.pins ∧ (s.placeStatusSlot code p).config = s.config ∧
    (s.placeStatusSlot code p).fsu = s.fsu ∧ (s.placeStatusSlot code p).acu = s.acu ∧
    (s.placeStatusSlot code p).pcu = s.pcu ∧ (s.placeStatusSlot code p).lku = s.lku ∧
    (s.placeStatusSlot code p).asu = s.asu ∧ (s.placeStatusSlot code p).rtp = s.rtp ∧
    (s.placeStatusSlot code p).slu.classOne = s.slu.classOne ∧
    (s.placeStatusSlot code p).slu.displayZero = s.slu.displayZero ∧
    (s.placeStatusSlot code p).slu.displayOne = s.slu.displayOne ∧
    (s.placeStatusSlot code p).slu.lineA = s.slu.lineA ∧
    (s.placeStatusSlot code p).slu.lineB = s.slu.lineB ∧
    (s.placeStatusSlot code p).slu.neighbourWindows = s.slu.neighbourWindows ∧
    (s.placeStatusSlot code p).slu.panelWindows = s.slu.panelWindows ∧
    (s.placeStatusSlot code p).slu.panelSilence = s.slu.panelSilence ∧
    (s.placeStatusSlot code p).hou = s.hou ∧ (s.placeStatusSlot code p).cmu = s.cmu ∧
    (s.placeStatusSlot code p).sld = s.sld := by
  simp [State.placeStatusSlot, StationLine.counted]

@[simp] theorem State.placeDisplaySlot_keeps (s : State) (page : Page) (p : Payload) :
    (s.placeDisplaySlot page p).pending = s.pending ∧ (s.placeDisplaySlot page p).ticks = s.ticks ∧
    (s.placeDisplaySlot page p).pins = s.pins ∧ (s.placeDisplaySlot page p).config = s.config ∧
    (s.placeDisplaySlot page p).fsu = s.fsu ∧ (s.placeDisplaySlot page p).acu = s.acu ∧
    (s.placeDisplaySlot page p).pcu = s.pcu ∧ (s.placeDisplaySlot page p).lku = s.lku ∧
    (s.placeDisplaySlot page p).asu = s.asu ∧ (s.placeDisplaySlot page p).rtp = s.rtp ∧
    (s.placeDisplaySlot page p).slu.classOne = s.slu.classOne ∧
    (s.placeDisplaySlot page p).slu.statusSlot = s.slu.statusSlot ∧
    (s.placeDisplaySlot page p).slu.lineA = s.slu.lineA ∧
    (s.placeDisplaySlot page p).slu.lineB = s.slu.lineB ∧
    (s.placeDisplaySlot page p).slu.neighbourWindows = s.slu.neighbourWindows ∧
    (s.placeDisplaySlot page p).slu.panelWindows = s.slu.panelWindows ∧
    (s.placeDisplaySlot page p).slu.panelSilence = s.slu.panelSilence ∧
    (s.placeDisplaySlot page p).hou = s.hou ∧ (s.placeDisplaySlot page p).cmu = s.cmu ∧
    (s.placeDisplaySlot page p).sld = s.sld := by
  cases page <;> simp [State.placeDisplaySlot, StationLine.counted]

@[simp] theorem State.updLine_keeps (s : State) (l : Line) (f : LineRec → LineRec) :
    (s.updLine l f).pending = s.pending ∧ (s.updLine l f).ticks = s.ticks ∧
    (s.updLine l f).pins = s.pins ∧ (s.updLine l f).config = s.config ∧
    (s.updLine l f).fsu = s.fsu ∧ (s.updLine l f).acu = s.acu ∧ (s.updLine l f).pcu = s.pcu ∧
    (s.updLine l f).lku = s.lku ∧ (s.updLine l f).asu = s.asu ∧ (s.updLine l f).rtp = s.rtp ∧
    (s.updLine l f).slu.counter = s.slu.counter ∧ (s.updLine l f).slu.placings = s.slu.placings ∧
    (s.updLine l f).slu.classOne = s.slu.classOne ∧
    (s.updLine l f).slu.statusSlot = s.slu.statusSlot ∧
    (s.updLine l f).slu.displayZero = s.slu.displayZero ∧
    (s.updLine l f).slu.displayOne = s.slu.displayOne ∧
    (s.updLine l f).slu.neighbourWindows = s.slu.neighbourWindows ∧
    (s.updLine l f).slu.panelWindows = s.slu.panelWindows ∧
    (s.updLine l f).slu.panelSilence = s.slu.panelSilence ∧ (s.updLine l f).hou = s.hou ∧
    (s.updLine l f).cmu = s.cmu ∧ (s.updLine l f).sld = s.sld := by
  cases l <;> simp [State.updLine]

@[simp] theorem State.updWindow_keeps (s : State) (src : Source) (f : List Byte → List Byte) :
    (s.updWindow src f).pending = s.pending ∧ (s.updWindow src f).ticks = s.ticks ∧
    (s.updWindow src f).pins = s.pins ∧ (s.updWindow src f).config = s.config ∧
    (s.updWindow src f).fsu = s.fsu ∧ (s.updWindow src f).acu = s.acu ∧
    (s.updWindow src f).pcu = s.pcu ∧ (s.updWindow src f).lku = s.lku ∧
    (s.updWindow src f).asu = s.asu ∧ (s.updWindow src f).rtp = s.rtp ∧
    (s.updWindow src f).slu.counter = s.slu.counter ∧
    (s.updWindow src f).slu.placings = s.slu.placings ∧
    (s.updWindow src f).slu.classOne = s.slu.classOne ∧
    (s.updWindow src f).slu.statusSlot = s.slu.statusSlot ∧
    (s.updWindow src f).slu.displayZero = s.slu.displayZero ∧
    (s.updWindow src f).slu.displayOne = s.slu.displayOne ∧
    (s.updWindow src f).slu.lineA = s.slu.lineA ∧ (s.updWindow src f).slu.lineB = s.slu.lineB ∧
    (s.updWindow src f).slu.panelSilence = s.slu.panelSilence ∧ (s.updWindow src f).hou = s.hou ∧
    (s.updWindow src f).cmu = s.cmu ∧ (s.updWindow src f).sld = s.sld := by
  cases src <;> simp [State.updWindow]

@[simp] theorem State.judgeLines_keeps (s : State) :
    (s.judgeLines).pending = s.pending ∧ (s.judgeLines).ticks = s.ticks ∧
    (s.judgeLines).pins = s.pins ∧ (s.judgeLines).config = s.config ∧ (s.judgeLines).fsu = s.fsu ∧
    (s.judgeLines).acu = s.acu ∧ (s.judgeLines).pcu = s.pcu ∧ (s.judgeLines).lku = s.lku ∧
    (s.judgeLines).asu = s.asu ∧ (s.judgeLines).rtp = s.rtp ∧ (s.judgeLines).slu = s.slu ∧
    (s.judgeLines).hou = s.hou ∧ (s.judgeLines).cmu.queue = s.cmu.queue ∧
    (s.judgeLines).cmu.pendingReset = s.cmu.pendingReset ∧
    (s.judgeLines).cmu.displayPeriod = s.cmu.displayPeriod ∧
    (s.judgeLines).cmu.pageZero = s.cmu.pageZero ∧ (s.judgeLines).cmu.pageOne = s.cmu.pageOne ∧
    (s.judgeLines).sld = s.sld := by
  simp only [State.judgeLines]
  repeat' split
  all_goals simp

@[simp] theorem State.goodTelegram_keeps (s : State) (l : Line) :
    (s.goodTelegram l).pending = s.pending ∧ (s.goodTelegram l).ticks = s.ticks ∧
    (s.goodTelegram l).pins = s.pins ∧ (s.goodTelegram l).config = s.config ∧
    (s.goodTelegram l).fsu = s.fsu ∧ (s.goodTelegram l).acu = s.acu ∧
    (s.goodTelegram l).pcu = s.pcu ∧ (s.goodTelegram l).lku = s.lku ∧
    (s.goodTelegram l).asu = s.asu ∧ (s.goodTelegram l).rtp = s.rtp ∧
    (s.goodTelegram l).slu.counter = s.slu.counter ∧
    (s.goodTelegram l).slu.placings = s.slu.placings ∧
    (s.goodTelegram l).slu.classOne = s.slu.classOne ∧
    (s.goodTelegram l).slu.statusSlot = s.slu.statusSlot ∧
    (s.goodTelegram l).slu.displayZero = s.slu.displayZero ∧
    (s.goodTelegram l).slu.displayOne = s.slu.displayOne ∧
    (s.goodTelegram l).slu.neighbourWindows = s.slu.neighbourWindows ∧
    (s.goodTelegram l).slu.panelWindows = s.slu.panelWindows ∧
    (s.goodTelegram l).slu.panelSilence = s.slu.panelSilence ∧ (s.goodTelegram l).hou = s.hou ∧
    (s.goodTelegram l).cmu.queue = s.cmu.queue ∧
    (s.goodTelegram l).cmu.pendingReset = s.cmu.pendingReset ∧
    (s.goodTelegram l).cmu.displayPeriod = s.cmu.displayPeriod ∧
    (s.goodTelegram l).cmu.pageZero = s.cmu.pageZero ∧
    (s.goodTelegram l).cmu.pageOne = s.cmu.pageOne ∧ (s.goodTelegram l).sld = s.sld := by
  simp [State.goodTelegram]

@[simp] theorem State.hearFrom_keeps (s : State) (src : Source) :
    (s.hearFrom src).pending = s.pending ∧ (s.hearFrom src).ticks = s.ticks ∧
    (s.hearFrom src).pins = s.pins ∧ (s.hearFrom src).config = s.config ∧
    (s.hearFrom src).fsu = s.fsu ∧ (s.hearFrom src).acu = s.acu ∧
    (s.hearFrom src).pcu = s.pcu ∧ (s.hearFrom src).lku = s.lku ∧
    (s.hearFrom src).asu = s.asu ∧ (s.hearFrom src).rtp = s.rtp ∧
    (s.hearFrom src).slu.counter = s.slu.counter ∧
    (s.hearFrom src).slu.placings = s.slu.placings ∧
    (s.hearFrom src).slu.classOne = s.slu.classOne ∧
    (s.hearFrom src).slu.statusSlot = s.slu.statusSlot ∧
    (s.hearFrom src).slu.displayZero = s.slu.displayZero ∧
    (s.hearFrom src).slu.displayOne = s.slu.displayOne ∧
    (s.hearFrom src).slu.lineA = s.slu.lineA ∧ (s.hearFrom src).slu.lineB = s.slu.lineB ∧
    (s.hearFrom src).slu.neighbourWindows = s.slu.neighbourWindows ∧
    (s.hearFrom src).slu.panelWindows = s.slu.panelWindows ∧
    (s.hearFrom src).hou = s.hou ∧ (s.hearFrom src).cmu = s.cmu ∧
    (s.hearFrom src).sld = s.sld := by
  unfold State.hearFrom
  split <;> simp

/-- The hearing of a panel changes no window (R139, R141). -/
@[simp] theorem State.hearFrom_window (s : State) (src other : Source) :
    (s.hearFrom src).window other = s.window other := by
  cases other <;> simp [State.window]

@[simp] theorem State.acceptFrom_keeps (s : State) (src : Source) (f : Frame) :
    (s.acceptFrom src f).pending = s.pending ∧ (s.acceptFrom src f).ticks = s.ticks ∧
    (s.acceptFrom src f).pins = s.pins ∧ (s.acceptFrom src f).config = s.config ∧
    (s.acceptFrom src f).fsu = s.fsu ∧ (s.acceptFrom src f).acu = s.acu ∧
    (s.acceptFrom src f).pcu = s.pcu ∧ (s.acceptFrom src f).lku = s.lku ∧
    (s.acceptFrom src f).asu = s.asu ∧ (s.acceptFrom src f).rtp = s.rtp ∧
    (s.acceptFrom src f).slu.counter = s.slu.counter ∧
    (s.acceptFrom src f).slu.placings = s.slu.placings ∧
    (s.acceptFrom src f).slu.classOne = s.slu.classOne ∧
    (s.acceptFrom src f).slu.statusSlot = s.slu.statusSlot ∧
    (s.acceptFrom src f).slu.displayZero = s.slu.displayZero ∧
    (s.acceptFrom src f).slu.displayOne = s.slu.displayOne ∧
    (s.acceptFrom src f).slu.lineA = s.slu.lineA ∧ (s.acceptFrom src f).slu.lineB = s.slu.lineB ∧
    (s.acceptFrom src f).slu.panelSilence = s.slu.panelSilence ∧
    (s.acceptFrom src f).hou = s.hou ∧ (s.acceptFrom src f).cmu.queue = s.cmu.queue ∧
    (s.acceptFrom src f).cmu.pendingReset = s.cmu.pendingReset ∧
    (s.acceptFrom src f).cmu.displayPeriod = s.cmu.displayPeriod ∧
    (s.acceptFrom src f).cmu.pageZero = s.cmu.pageZero ∧
    (s.acceptFrom src f).cmu.pageOne = s.cmu.pageOne ∧ (s.acceptFrom src f).sld = s.sld := by
  simp [State.acceptFrom]

end Sys2Proof.Machine
end

