-- ==== Sys2Proof/Laws/Release.lean ====
section
/-! SUPPORT. What flank counting, offers, the timer pool and the releases leave as it was. -/

namespace Sys2Proof.Machine

open Sys2Proof

@[simp] theorem State.countPoints_keeps (s : State) (f : Nat → Nat) (ps : List
    (Fin 16 × Position)) :
    (s.countPoints f ps).pending = s.pending ∧ (s.countPoints f ps).ticks = s.ticks ∧
    (s.countPoints f ps).pins = s.pins ∧ (s.countPoints f ps).config = s.config ∧
    (s.countPoints f ps).fsu = s.fsu ∧ (s.countPoints f ps).acu = s.acu ∧
    (s.countPoints f ps).pcu = s.pcu ∧ (s.countPoints f ps).lku.sections = s.lku.sections ∧
    (s.countPoints f ps).lku.signals = s.lku.signals ∧
    (s.countPoints f ps).lku.routes = s.lku.routes ∧ (s.countPoints f ps).asu = s.asu ∧
    (s.countPoints f ps).rtp = s.rtp ∧ (s.countPoints f ps).slu = s.slu ∧
    (s.countPoints f ps).hou = s.hou ∧ (s.countPoints f ps).cmu = s.cmu ∧
    (s.countPoints f ps).sld = s.sld := by
  unfold State.countPoints
  induction ps generalizing s with
  | nil => simp
  | cons x xs ih =>
    simp only [State.forEach_cons, ih]
    all_goals simp

@[simp] theorem State.countSignals_keeps (s : State) (f : Nat → Nat) (gs : List (Fin 16)) :
    (s.countSignals f gs).pending = s.pending ∧ (s.countSignals f gs).ticks = s.ticks ∧
    (s.countSignals f gs).pins = s.pins ∧ (s.countSignals f gs).config = s.config ∧
    (s.countSignals f gs).fsu = s.fsu ∧ (s.countSignals f gs).acu = s.acu ∧
    (s.countSignals f gs).pcu = s.pcu ∧ (s.countSignals f gs).lku.sections = s.lku.sections ∧
    (s.countSignals f gs).lku.points = s.lku.points ∧
    (s.countSignals f gs).lku.routes = s.lku.routes ∧ (s.countSignals f gs).asu = s.asu ∧
    (s.countSignals f gs).rtp = s.rtp ∧ (s.countSignals f gs).slu = s.slu ∧
    (s.countSignals f gs).hou = s.hou ∧ (s.countSignals f gs).cmu = s.cmu ∧
    (s.countSignals f gs).sld = s.sld := by
  unfold State.countSignals
  induction gs generalizing s with
  | nil => simp
  | cons x xs ih =>
    simp only [State.forEach_cons, ih]
    all_goals simp

@[simp] theorem State.countFlank_keeps (s : State) (f : Nat → Nat) (is : List FlankItem) :
    (s.countFlank f is).pending = s.pending ∧ (s.countFlank f is).ticks = s.ticks ∧
    (s.countFlank f is).pins = s.pins ∧ (s.countFlank f is).config = s.config ∧
    (s.countFlank f is).fsu = s.fsu ∧ (s.countFlank f is).acu = s.acu ∧
    (s.countFlank f is).pcu = s.pcu ∧ (s.countFlank f is).lku.sections = s.lku.sections ∧
    (s.countFlank f is).lku.routes = s.lku.routes ∧ (s.countFlank f is).asu = s.asu ∧
    (s.countFlank f is).rtp = s.rtp ∧ (s.countFlank f is).slu = s.slu ∧
    (s.countFlank f is).hou = s.hou ∧ (s.countFlank f is).cmu = s.cmu ∧
    (s.countFlank f is).sld = s.sld := by
  simp [State.countFlank]

@[simp] theorem State.claimFlank_keeps (s : State) (is : List FlankItem) :
    (s.claimFlank is).pending = s.pending ∧ (s.claimFlank is).ticks = s.ticks ∧
    (s.claimFlank is).pins = s.pins ∧ (s.claimFlank is).config = s.config ∧
    (s.claimFlank is).fsu = s.fsu ∧ (s.claimFlank is).acu = s.acu ∧ (s.claimFlank is).pcu = s.pcu ∧
    (s.claimFlank is).lku.sections = s.lku.sections ∧ (s.claimFlank is).lku.routes = s.lku.routes ∧
    (s.claimFlank is).asu = s.asu ∧ (s.claimFlank is).rtp = s.rtp ∧ (s.claimFlank is).slu = s.slu ∧
    (s.claimFlank is).hou = s.hou ∧ (s.claimFlank is).cmu = s.cmu ∧
    (s.claimFlank is).sld = s.sld := by
  simp [State.claimFlank]

@[simp] theorem State.releaseFlank_keeps (s : State) (is : List FlankItem) :
    (s.releaseFlank is).pending = s.pending ∧ (s.releaseFlank is).ticks = s.ticks ∧
    (s.releaseFlank is).pins = s.pins ∧ (s.releaseFlank is).config = s.config ∧
    (s.releaseFlank is).fsu = s.fsu ∧ (s.releaseFlank is).acu = s.acu ∧
    (s.releaseFlank is).pcu = s.pcu ∧ (s.releaseFlank is).lku.sections = s.lku.sections ∧
    (s.releaseFlank is).lku.routes = s.lku.routes ∧ (s.releaseFlank is).asu = s.asu ∧
    (s.releaseFlank is).rtp = s.rtp ∧ (s.releaseFlank is).slu = s.slu ∧
    (s.releaseFlank is).hou = s.hou ∧ (s.releaseFlank is).cmu = s.cmu ∧
    (s.releaseFlank is).sld = s.sld := by
  simp [State.releaseFlank]

@[simp] theorem State.requestMove_keeps (s : State) (p : Fin 16) (t : Position) :
    (s.requestMove p t).pending = s.pending ∧ (s.requestMove p t).ticks = s.ticks ∧
    (s.requestMove p t).pins = s.pins ∧ (s.requestMove p t).config = s.config ∧
    (s.requestMove p t).fsu = s.fsu ∧ (s.requestMove p t).acu = s.acu ∧
    (s.requestMove p t).lku = s.lku ∧ (s.requestMove p t).asu = s.asu ∧
    (s.requestMove p t).rtp = s.rtp ∧ (s.requestMove p t).slu = s.slu ∧
    (s.requestMove p t).hou = s.hou ∧ (s.requestMove p t).cmu = s.cmu ∧
    (s.requestMove p t).sld = s.sld := by
  simp [State.requestMove]

@[simp] theorem State.requestMoves_keeps (s : State) (ps : List (Fin 16 × Position)) :
    (s.requestMoves ps).pending = s.pending ∧ (s.requestMoves ps).ticks = s.ticks ∧
    (s.requestMoves ps).pins = s.pins ∧ (s.requestMoves ps).config = s.config ∧
    (s.requestMoves ps).fsu = s.fsu ∧ (s.requestMoves ps).acu = s.acu ∧
    (s.requestMoves ps).lku = s.lku ∧ (s.requestMoves ps).asu = s.asu ∧
    (s.requestMoves ps).rtp = s.rtp ∧ (s.requestMoves ps).slu = s.slu ∧
    (s.requestMoves ps).hou = s.hou ∧ (s.requestMoves ps).cmu = s.cmu ∧
    (s.requestMoves ps).sld = s.sld := by
  unfold State.requestMoves
  induction ps generalizing s with
  | nil => simp
  | cons x xs ih =>
    simp only [State.forEach_cons, ih]
    repeat' split
    all_goals simp

@[simp] theorem State.removeOffer_keeps (s : State) (k : Fin 8) :
    (s.removeOffer k).pending = s.pending ∧ (s.removeOffer k).ticks = s.ticks ∧
    (s.removeOffer k).pins = s.pins ∧ (s.removeOffer k).config = s.config ∧
    (s.removeOffer k).fsu = s.fsu ∧ (s.removeOffer k).acu = s.acu ∧ (s.removeOffer k).pcu = s.pcu ∧
    (s.removeOffer k).lku.sections = s.lku.sections ∧ (s.removeOffer k).lku.points = s.lku.points ∧
    (s.removeOffer k).lku.signals = s.lku.signals ∧ (s.removeOffer k).asu = s.asu ∧
    (s.removeOffer k).rtp = s.rtp ∧ (s.removeOffer k).slu = s.slu ∧
    (s.removeOffer k).hou.neighbours = s.hou.neighbours ∧
    (s.removeOffer k).hou.lastId = s.hou.lastId ∧ (s.removeOffer k).hou.portions = s.hou.portions ∧
    (s.removeOffer k).hou.grants = s.hou.grants ∧
    (s.removeOffer k).hou.statusPeriod = s.hou.statusPeriod ∧
    (s.removeOffer k).hou.statusPacing = s.hou.statusPacing ∧
    (s.removeOffer k).hou.statusChange = s.hou.statusChange ∧ (s.removeOffer k).cmu = s.cmu ∧
    (s.removeOffer k).sld = s.sld := by
  unfold State.removeOffer
  repeat' split
  all_goals simp

@[simp] theorem State.handBack_keeps (s : State) (k : Fin 8) :
    (s.handBack k).pending = s.pending ∧ (s.handBack k).ticks = s.ticks ∧
    (s.handBack k).pins = s.pins ∧ (s.handBack k).config = s.config ∧ (s.handBack k).fsu = s.fsu ∧
    (s.handBack k).acu = s.acu ∧ (s.handBack k).pcu = s.pcu ∧
    (s.handBack k).lku.sections = s.lku.sections ∧ (s.handBack k).lku.points = s.lku.points ∧
    (s.handBack k).lku.signals = s.lku.signals ∧ (s.handBack k).asu = s.asu ∧
    (s.handBack k).rtp = s.rtp ∧ (s.handBack k).slu.statusSlot = s.slu.statusSlot ∧
    (s.handBack k).slu.displayZero = s.slu.displayZero ∧
    (s.handBack k).slu.displayOne = s.slu.displayOne ∧ (s.handBack k).slu.lineA = s.slu.lineA ∧
    (s.handBack k).slu.lineB = s.slu.lineB ∧
    (s.handBack k).slu.neighbourWindows = s.slu.neighbourWindows ∧
    (s.handBack k).slu.panelWindows = s.slu.panelWindows ∧
    (s.handBack k).slu.panelSilence = s.slu.panelSilence ∧
    (s.handBack k).hou.neighbours = s.hou.neighbours ∧ (s.handBack k).hou.lastId = s.hou.lastId ∧
    (s.handBack k).hou.portions = s.hou.portions ∧ (s.handBack k).hou.grants = s.hou.grants ∧
    (s.handBack k).hou.statusPeriod = s.hou.statusPeriod ∧
    (s.handBack k).hou.statusPacing = s.hou.statusPacing ∧
    (s.handBack k).hou.statusChange = s.hou.statusChange ∧ (s.handBack k).cmu = s.cmu ∧
    (s.handBack k).sld = s.sld := by
  unfold State.handBack
  repeat' split
  all_goals simp

@[simp] theorem State.handBackAll_keeps (s : State) (r : Fin 64) :
    (s.handBackAll r).pending = s.pending ∧ (s.handBackAll r).ticks = s.ticks ∧
    (s.handBackAll r).pins = s.pins ∧ (s.handBackAll r).config = s.config ∧
    (s.handBackAll r).fsu = s.fsu ∧ (s.handBackAll r).acu = s.acu ∧ (s.handBackAll r).pcu = s.pcu ∧
    (s.handBackAll r).lku.sections = s.lku.sections ∧ (s.handBackAll r).lku.points = s.lku.points ∧
    (s.handBackAll r).lku.signals = s.lku.signals ∧ (s.handBackAll r).asu = s.asu ∧
    (s.handBackAll r).rtp = s.rtp ∧ (s.handBackAll r).slu.statusSlot = s.slu.statusSlot ∧
    (s.handBackAll r).slu.displayZero = s.slu.displayZero ∧
    (s.handBackAll r).slu.displayOne = s.slu.displayOne ∧
    (s.handBackAll r).slu.lineA = s.slu.lineA ∧ (s.handBackAll r).slu.lineB = s.slu.lineB ∧
    (s.handBackAll r).slu.neighbourWindows = s.slu.neighbourWindows ∧
    (s.handBackAll r).slu.panelWindows = s.slu.panelWindows ∧
    (s.handBackAll r).slu.panelSilence = s.slu.panelSilence ∧
    (s.handBackAll r).hou.neighbours = s.hou.neighbours ∧
    (s.handBackAll r).hou.lastId = s.hou.lastId ∧ (s.handBackAll r).hou.portions = s.hou.portions ∧
    (s.handBackAll r).hou.grants = s.hou.grants ∧
    (s.handBackAll r).hou.statusPeriod = s.hou.statusPeriod ∧
    (s.handBackAll r).hou.statusPacing = s.hou.statusPacing ∧
    (s.handBackAll r).hou.statusChange = s.hou.statusChange ∧ (s.handBackAll r).cmu = s.cmu ∧
    (s.handBackAll r).sld = s.sld := by
  unfold State.handBackAll
  generalize s.lku.routes[r].offers = ks
  induction ks generalizing s with
  | nil => simp
  | cons x xs ih => simp [ih]

@[simp] theorem State.makeOffer_keeps (s : State) (r : Fin 64) (q : RemoteRequest) :
    (s.makeOffer r q).pending = s.pending ∧ (s.makeOffer r q).ticks = s.ticks ∧
    (s.makeOffer r q).pins = s.pins ∧ (s.makeOffer r q).config = s.config ∧
    (s.makeOffer r q).fsu = s.fsu ∧ (s.makeOffer r q).acu = s.acu ∧ (s.makeOffer r q).pcu = s.pcu ∧
    (s.makeOffer r q).lku.sections = s.lku.sections ∧ (s.makeOffer r q).lku.points = s.lku.points ∧
    (s.makeOffer r q).lku.signals = s.lku.signals ∧ (s.makeOffer r q).asu = s.asu ∧
    (s.makeOffer r q).rtp = s.rtp ∧ (s.makeOffer r q).slu.statusSlot = s.slu.statusSlot ∧
    (s.makeOffer r q).slu.displayZero = s.slu.displayZero ∧
    (s.makeOffer r q).slu.displayOne = s.slu.displayOne ∧
    (s.makeOffer r q).slu.lineA = s.slu.lineA ∧ (s.makeOffer r q).slu.lineB = s.slu.lineB ∧
    (s.makeOffer r q).slu.neighbourWindows = s.slu.neighbourWindows ∧
    (s.makeOffer r q).slu.panelWindows = s.slu.panelWindows ∧
    (s.makeOffer r q).slu.panelSilence = s.slu.panelSilence ∧
    (s.makeOffer r q).hou.neighbours = s.hou.neighbours ∧
    (s.makeOffer r q).hou.portions = s.hou.portions ∧ (s.makeOffer r q).hou.grants = s.hou.grants ∧
    (s.makeOffer r q).hou.statusPeriod = s.hou.statusPeriod ∧
    (s.makeOffer r q).hou.statusPacing = s.hou.statusPacing ∧
    (s.makeOffer r q).hou.statusChange = s.hou.statusChange ∧ (s.makeOffer r q).cmu = s.cmu ∧
    (s.makeOffer r q).sld = s.sld := by
  unfold State.makeOffer
  repeat' split
  all_goals simp

@[simp] theorem State.grantTimer_keeps (s : State) (k : Fin 16) (r : Fin 64) :
    (s.grantTimer k r).pending = s.pending ∧ (s.grantTimer k r).ticks = s.ticks ∧
    (s.grantTimer k r).pins = s.pins ∧ (s.grantTimer k r).config = s.config ∧
    (s.grantTimer k r).fsu = s.fsu ∧ (s.grantTimer k r).acu = s.acu ∧
    (s.grantTimer k r).pcu = s.pcu ∧ (s.grantTimer k r).lku.sections = s.lku.sections ∧
    (s.grantTimer k r).lku.points = s.lku.points ∧ (s.grantTimer k r).lku.signals = s.lku.signals ∧
    (s.grantTimer k r).asu = s.asu ∧ (s.grantTimer k r).rtp.queue = s.rtp.queue ∧
    (s.grantTimer k r).slu = s.slu ∧ (s.grantTimer k r).hou = s.hou ∧
    (s.grantTimer k r).cmu = s.cmu ∧ (s.grantTimer k r).sld = s.sld := by
  simp [State.grantTimer]

@[simp] theorem State.grantHead_keeps (s : State) (k : Fin 16) :
    (s.grantHead k).pending = s.pending ∧ (s.grantHead k).ticks = s.ticks ∧
    (s.grantHead k).pins = s.pins ∧ (s.grantHead k).config = s.config ∧
    (s.grantHead k).fsu = s.fsu ∧ (s.grantHead k).acu = s.acu ∧ (s.grantHead k).pcu = s.pcu ∧
    (s.grantHead k).lku.sections = s.lku.sections ∧ (s.grantHead k).lku.points = s.lku.points ∧
    (s.grantHead k).lku.signals = s.lku.signals ∧ (s.grantHead k).asu = s.asu ∧
    (s.grantHead k).slu = s.slu ∧ (s.grantHead k).hou = s.hou ∧ (s.grantHead k).cmu = s.cmu ∧
    (s.grantHead k).sld = s.sld := by
  unfold State.grantHead
  repeat' split
  all_goals simp

@[simp] theorem State.requestTimer_keeps (s : State) (r : Fin 64) :
    (s.requestTimer r).pending = s.pending ∧ (s.requestTimer r).ticks = s.ticks ∧
    (s.requestTimer r).pins = s.pins ∧ (s.requestTimer r).config = s.config ∧
    (s.requestTimer r).fsu = s.fsu ∧ (s.requestTimer r).acu = s.acu ∧
    (s.requestTimer r).pcu = s.pcu ∧ (s.requestTimer r).lku.sections = s.lku.sections ∧
    (s.requestTimer r).lku.points = s.lku.points ∧ (s.requestTimer r).lku.signals = s.lku.signals ∧
    (s.requestTimer r).asu = s.asu ∧ (s.requestTimer r).slu = s.slu ∧
    (s.requestTimer r).hou = s.hou ∧ (s.requestTimer r).cmu = s.cmu ∧
    (s.requestTimer r).sld = s.sld := by
  unfold State.requestTimer
  repeat' split
  all_goals simp

@[simp] theorem State.giveUpTimer_keeps (s : State) (r : Fin 64) :
    (s.giveUpTimer r).pending = s.pending ∧ (s.giveUpTimer r).ticks = s.ticks ∧
    (s.giveUpTimer r).pins = s.pins ∧ (s.giveUpTimer r).config = s.config ∧
    (s.giveUpTimer r).fsu = s.fsu ∧ (s.giveUpTimer r).acu = s.acu ∧ (s.giveUpTimer r).pcu = s.pcu ∧
    (s.giveUpTimer r).lku.sections = s.lku.sections ∧ (s.giveUpTimer r).lku.points = s.lku.points ∧
    (s.giveUpTimer r).lku.signals = s.lku.signals ∧ (s.giveUpTimer r).asu = s.asu ∧
    (s.giveUpTimer r).slu = s.slu ∧ (s.giveUpTimer r).hou = s.hou ∧ (s.giveUpTimer r).cmu = s.cmu ∧
    (s.giveUpTimer r).sld = s.sld := by
  simp only [State.giveUpTimer]
  repeat' split
  all_goals simp

@[simp] theorem State.freeElements_keeps (s : State) (o : Owner) (f : Role → Bool) :
    (s.freeElements o f).pending = s.pending ∧ (s.freeElements o f).ticks = s.ticks ∧
    (s.freeElements o f).pins = s.pins ∧ (s.freeElements o f).config = s.config ∧
    (s.freeElements o f).fsu = s.fsu ∧ (s.freeElements o f).acu = s.acu ∧
    (s.freeElements o f).pcu = s.pcu ∧ (s.freeElements o f).lku.routes = s.lku.routes ∧
    (s.freeElements o f).asu = s.asu ∧ (s.freeElements o f).rtp = s.rtp ∧
    (s.freeElements o f).slu = s.slu ∧ (s.freeElements o f).hou = s.hou ∧
    (s.freeElements o f).cmu = s.cmu ∧ (s.freeElements o f).sld = s.sld := by
  simp [State.freeElements]

@[simp] theorem State.idleRoute_keeps (s : State) (r : Fin 64) :
    (s.idleRoute r).pending = s.pending ∧ (s.idleRoute r).ticks = s.ticks ∧
    (s.idleRoute r).pins = s.pins ∧ (s.idleRoute r).config = s.config ∧
    (s.idleRoute r).fsu = s.fsu ∧ (s.idleRoute r).acu = s.acu ∧ (s.idleRoute r).pcu = s.pcu ∧
    (s.idleRoute r).lku.sections = s.lku.sections ∧ (s.idleRoute r).lku.points = s.lku.points ∧
    (s.idleRoute r).lku.signals = s.lku.signals ∧ (s.idleRoute r).asu = s.asu ∧
    (s.idleRoute r).rtp = s.rtp ∧ (s.idleRoute r).slu = s.slu ∧ (s.idleRoute r).hou = s.hou ∧
    (s.idleRoute r).cmu = s.cmu ∧ (s.idleRoute r).sld = s.sld := by
  simp [State.idleRoute]

@[simp] theorem State.idlePortion_keeps (s : State) (p : Fin 16) :
    (s.idlePortion p).pending = s.pending ∧ (s.idlePortion p).ticks = s.ticks ∧
    (s.idlePortion p).pins = s.pins ∧ (s.idlePortion p).config = s.config ∧
    (s.idlePortion p).fsu = s.fsu ∧ (s.idlePortion p).acu = s.acu ∧ (s.idlePortion p).pcu = s.pcu ∧
    (s.idlePortion p).lku = s.lku ∧ (s.idlePortion p).asu = s.asu ∧ (s.idlePortion p).rtp = s.rtp ∧
    (s.idlePortion p).slu = s.slu ∧ (s.idlePortion p).hou.neighbours = s.hou.neighbours ∧
    (s.idlePortion p).hou.offers = s.hou.offers ∧ (s.idlePortion p).hou.lastId = s.hou.lastId ∧
    (s.idlePortion p).hou.grants = s.hou.grants ∧
    (s.idlePortion p).hou.statusPeriod = s.hou.statusPeriod ∧
    (s.idlePortion p).hou.statusPacing = s.hou.statusPacing ∧
    (s.idlePortion p).hou.statusChange = s.hou.statusChange ∧ (s.idlePortion p).cmu = s.cmu ∧
    (s.idlePortion p).sld = s.sld := by
  simp [State.idlePortion]

@[simp] theorem State.dropFlank_keeps (s : State) (o : Owner) :
    (s.dropFlank o).pending = s.pending ∧ (s.dropFlank o).ticks = s.ticks ∧
    (s.dropFlank o).pins = s.pins ∧ (s.dropFlank o).config = s.config ∧
    (s.dropFlank o).fsu = s.fsu ∧ (s.dropFlank o).acu = s.acu ∧ (s.dropFlank o).pcu = s.pcu ∧
    (s.dropFlank o).lku.sections = s.lku.sections ∧ (s.dropFlank o).asu = s.asu ∧
    (s.dropFlank o).rtp = s.rtp ∧ (s.dropFlank o).slu = s.slu ∧
    (s.dropFlank o).hou.neighbours = s.hou.neighbours ∧ (s.dropFlank o).hou.offers = s.hou.offers ∧
    (s.dropFlank o).hou.lastId = s.hou.lastId ∧ (s.dropFlank o).hou.grants = s.hou.grants ∧
    (s.dropFlank o).hou.statusPeriod = s.hou.statusPeriod ∧
    (s.dropFlank o).hou.statusPacing = s.hou.statusPacing ∧
    (s.dropFlank o).hou.statusChange = s.hou.statusChange ∧ (s.dropFlank o).cmu = s.cmu ∧
    (s.dropFlank o).sld = s.sld := by
  simp [State.dropFlank]

@[simp] theorem State.fullRelease_keeps (s : State) (r : Fin 64) :
    (s.fullRelease r).pending = s.pending ∧ (s.fullRelease r).ticks = s.ticks ∧
    (s.fullRelease r).pins = s.pins ∧ (s.fullRelease r).config = s.config ∧
    (s.fullRelease r).fsu = s.fsu ∧ (s.fullRelease r).acu = s.acu ∧ (s.fullRelease r).pcu = s.pcu ∧
    (s.fullRelease r).asu = s.asu ∧ (s.fullRelease r).slu.statusSlot = s.slu.statusSlot ∧
    (s.fullRelease r).slu.displayZero = s.slu.displayZero ∧
    (s.fullRelease r).slu.displayOne = s.slu.displayOne ∧
    (s.fullRelease r).slu.lineA = s.slu.lineA ∧ (s.fullRelease r).slu.lineB = s.slu.lineB ∧
    (s.fullRelease r).slu.neighbourWindows = s.slu.neighbourWindows ∧
    (s.fullRelease r).slu.panelWindows = s.slu.panelWindows ∧
    (s.fullRelease r).slu.panelSilence = s.slu.panelSilence ∧
    (s.fullRelease r).hou.neighbours = s.hou.neighbours ∧
    (s.fullRelease r).hou.lastId = s.hou.lastId ∧ (s.fullRelease r).hou.grants = s.hou.grants ∧
    (s.fullRelease r).hou.statusPeriod = s.hou.statusPeriod ∧
    (s.fullRelease r).hou.statusPacing = s.hou.statusPacing ∧
    (s.fullRelease r).hou.statusChange = s.hou.statusChange ∧ (s.fullRelease r).cmu = s.cmu ∧
    (s.fullRelease r).sld = s.sld := by
  simp [State.fullRelease]

@[simp] theorem State.failSetting_keeps (s : State) (r : Fin 64) :
    (s.failSetting r).pending = s.pending ∧ (s.failSetting r).ticks = s.ticks ∧
    (s.failSetting r).pins = s.pins ∧ (s.failSetting r).config = s.config ∧
    (s.failSetting r).fsu = s.fsu ∧ (s.failSetting r).acu = s.acu ∧ (s.failSetting r).pcu = s.pcu ∧
    (s.failSetting r).asu = s.asu ∧ (s.failSetting r).slu.statusSlot = s.slu.statusSlot ∧
    (s.failSetting r).slu.displayZero = s.slu.displayZero ∧
    (s.failSetting r).slu.displayOne = s.slu.displayOne ∧
    (s.failSetting r).slu.lineA = s.slu.lineA ∧ (s.failSetting r).slu.lineB = s.slu.lineB ∧
    (s.failSetting r).slu.neighbourWindows = s.slu.neighbourWindows ∧
    (s.failSetting r).slu.panelWindows = s.slu.panelWindows ∧
    (s.failSetting r).slu.panelSilence = s.slu.panelSilence ∧
    (s.failSetting r).hou.neighbours = s.hou.neighbours ∧
    (s.failSetting r).hou.lastId = s.hou.lastId ∧ (s.failSetting r).hou.grants = s.hou.grants ∧
    (s.failSetting r).hou.statusPeriod = s.hou.statusPeriod ∧
    (s.failSetting r).hou.statusPacing = s.hou.statusPacing ∧
    (s.failSetting r).hou.statusChange = s.hou.statusChange ∧ (s.failSetting r).cmu = s.cmu ∧
    (s.failSetting r).sld = s.sld := by
  unfold State.failSetting
  repeat' split
  all_goals simp

@[simp] theorem State.releasePortion_keeps (s : State) (p : Fin 16) :
    (s.releasePortion p).pending = s.pending ∧ (s.releasePortion p).ticks = s.ticks ∧
    (s.releasePortion p).pins = s.pins ∧ (s.releasePortion p).config = s.config ∧
    (s.releasePortion p).fsu = s.fsu ∧ (s.releasePortion p).acu = s.acu ∧
    (s.releasePortion p).pcu = s.pcu ∧ (s.releasePortion p).asu = s.asu ∧
    (s.releasePortion p).rtp = s.rtp ∧ (s.releasePortion p).slu = s.slu ∧
    (s.releasePortion p).hou.neighbours = s.hou.neighbours ∧
    (s.releasePortion p).hou.offers = s.hou.offers ∧
    (s.releasePortion p).hou.lastId = s.hou.lastId ∧
    (s.releasePortion p).hou.grants = s.hou.grants ∧
    (s.releasePortion p).hou.statusPeriod = s.hou.statusPeriod ∧
    (s.releasePortion p).hou.statusPacing = s.hou.statusPacing ∧
    (s.releasePortion p).hou.statusChange = s.hou.statusChange ∧ (s.releasePortion p).cmu = s.cmu ∧
    (s.releasePortion p).sld = s.sld := by
  simp [State.releasePortion]

@[simp] theorem State.releaseOverlap_keeps (s : State) (o : Owner) :
    (s.releaseOverlap o).pending = s.pending ∧ (s.releaseOverlap o).ticks = s.ticks ∧
    (s.releaseOverlap o).pins = s.pins ∧ (s.releaseOverlap o).config = s.config ∧
    (s.releaseOverlap o).fsu = s.fsu ∧ (s.releaseOverlap o).acu = s.acu ∧
    (s.releaseOverlap o).pcu = s.pcu ∧ (s.releaseOverlap o).asu = s.asu ∧
    (s.releaseOverlap o).rtp = s.rtp ∧ (s.releaseOverlap o).slu = s.slu ∧
    (s.releaseOverlap o).hou.neighbours = s.hou.neighbours ∧
    (s.releaseOverlap o).hou.offers = s.hou.offers ∧
    (s.releaseOverlap o).hou.lastId = s.hou.lastId ∧
    (s.releaseOverlap o).hou.grants = s.hou.grants ∧
    (s.releaseOverlap o).hou.statusPeriod = s.hou.statusPeriod ∧
    (s.releaseOverlap o).hou.statusPacing = s.hou.statusPacing ∧
    (s.releaseOverlap o).hou.statusChange = s.hou.statusChange ∧ (s.releaseOverlap o).cmu = s.cmu ∧
    (s.releaseOverlap o).sld = s.sld := by
  cases o <;> simp [State.releaseOverlap]

@[simp] theorem State.tryOverlap_keeps (s : State) (o : Owner) :
    (s.tryOverlap o).pending = s.pending ∧ (s.tryOverlap o).ticks = s.ticks ∧
    (s.tryOverlap o).pins = s.pins ∧ (s.tryOverlap o).config = s.config ∧
    (s.tryOverlap o).fsu = s.fsu ∧ (s.tryOverlap o).acu = s.acu ∧ (s.tryOverlap o).pcu = s.pcu ∧
    (s.tryOverlap o).asu = s.asu ∧ (s.tryOverlap o).rtp = s.rtp ∧ (s.tryOverlap o).slu = s.slu ∧
    (s.tryOverlap o).hou.neighbours = s.hou.neighbours ∧
    (s.tryOverlap o).hou.offers = s.hou.offers ∧ (s.tryOverlap o).hou.lastId = s.hou.lastId ∧
    (s.tryOverlap o).hou.grants = s.hou.grants ∧
    (s.tryOverlap o).hou.statusPeriod = s.hou.statusPeriod ∧
    (s.tryOverlap o).hou.statusPacing = s.hou.statusPacing ∧
    (s.tryOverlap o).hou.statusChange = s.hou.statusChange ∧ (s.tryOverlap o).cmu = s.cmu ∧
    (s.tryOverlap o).sld = s.sld := by
  unfold State.tryOverlap
  repeat' split
  all_goals simp

@[simp] theorem State.enterOverlapHeld_keeps (s : State) (r : Fin 64) :
    (s.enterOverlapHeld r).pending = s.pending ∧ (s.enterOverlapHeld r).ticks = s.ticks ∧
    (s.enterOverlapHeld r).pins = s.pins ∧ (s.enterOverlapHeld r).config = s.config ∧
    (s.enterOverlapHeld r).fsu = s.fsu ∧ (s.enterOverlapHeld r).acu = s.acu ∧
    (s.enterOverlapHeld r).pcu = s.pcu ∧ (s.enterOverlapHeld r).asu = s.asu ∧
    (s.enterOverlapHeld r).slu = s.slu ∧ (s.enterOverlapHeld r).hou.neighbours = s.hou.neighbours ∧
    (s.enterOverlapHeld r).hou.offers = s.hou.offers ∧
    (s.enterOverlapHeld r).hou.lastId = s.hou.lastId ∧
    (s.enterOverlapHeld r).hou.grants = s.hou.grants ∧
    (s.enterOverlapHeld r).hou.statusPeriod = s.hou.statusPeriod ∧
    (s.enterOverlapHeld r).hou.statusPacing = s.hou.statusPacing ∧
    (s.enterOverlapHeld r).hou.statusChange = s.hou.statusChange ∧
    (s.enterOverlapHeld r).cmu = s.cmu ∧ (s.enterOverlapHeld r).sld = s.sld := by
  simp only [State.enterOverlapHeld]
  repeat' split
  all_goals simp

@[simp] theorem State.markPath_keeps (s : State) (o : Owner) (k : Fin 32) (occ : Bool) :
    (s.markPath o k occ).pending = s.pending ∧ (s.markPath o k occ).ticks = s.ticks ∧
    (s.markPath o k occ).pins = s.pins ∧ (s.markPath o k occ).config = s.config ∧
    (s.markPath o k occ).fsu = s.fsu ∧ (s.markPath o k occ).acu = s.acu ∧
    (s.markPath o k occ).pcu = s.pcu ∧ (s.markPath o k occ).lku.sections = s.lku.sections ∧
    (s.markPath o k occ).lku.points = s.lku.points ∧
    (s.markPath o k occ).lku.signals = s.lku.signals ∧ (s.markPath o k occ).asu = s.asu ∧
    (s.markPath o k occ).rtp = s.rtp ∧ (s.markPath o k occ).slu = s.slu ∧
    (s.markPath o k occ).hou.neighbours = s.hou.neighbours ∧
    (s.markPath o k occ).hou.offers = s.hou.offers ∧
    (s.markPath o k occ).hou.lastId = s.hou.lastId ∧
    (s.markPath o k occ).hou.grants = s.hou.grants ∧
    (s.markPath o k occ).hou.statusPeriod = s.hou.statusPeriod ∧
    (s.markPath o k occ).hou.statusPacing = s.hou.statusPacing ∧
    (s.markPath o k occ).hou.statusChange = s.hou.statusChange ∧ (s.markPath o k occ).cmu = s.cmu ∧
    (s.markPath o k occ).sld = s.sld := by
  simp [State.markPath]

@[simp] theorem State.freePoints_keeps (s : State) (o : Owner) (k : Fin 32) (ps : List
    (Fin 16 × Position)) :
    (s.freePoints o k ps).pending = s.pending ∧ (s.freePoints o k ps).ticks = s.ticks ∧
    (s.freePoints o k ps).pins = s.pins ∧ (s.freePoints o k ps).config = s.config ∧
    (s.freePoints o k ps).fsu = s.fsu ∧ (s.freePoints o k ps).acu = s.acu ∧
    (s.freePoints o k ps).pcu = s.pcu ∧ (s.freePoints o k ps).lku.sections = s.lku.sections ∧
    (s.freePoints o k ps).lku.signals = s.lku.signals ∧
    (s.freePoints o k ps).lku.routes = s.lku.routes ∧ (s.freePoints o k ps).asu = s.asu ∧
    (s.freePoints o k ps).rtp = s.rtp ∧ (s.freePoints o k ps).slu = s.slu ∧
    (s.freePoints o k ps).hou = s.hou ∧ (s.freePoints o k ps).cmu = s.cmu ∧
    (s.freePoints o k ps).sld = s.sld := by
  unfold State.freePoints
  induction ps generalizing s with
  | nil => simp
  | cons x xs ih =>
    simp only [State.forEach_cons, ih]
    repeat' split
    all_goals simp

@[simp] theorem State.freeEntry_keeps (s : State) (o : Owner) :
    (s.freeEntry o).pending = s.pending ∧ (s.freeEntry o).ticks = s.ticks ∧
    (s.freeEntry o).pins = s.pins ∧ (s.freeEntry o).config = s.config ∧
    (s.freeEntry o).fsu = s.fsu ∧ (s.freeEntry o).acu = s.acu ∧ (s.freeEntry o).pcu = s.pcu ∧
    (s.freeEntry o).lku.sections = s.lku.sections ∧ (s.freeEntry o).lku.points = s.lku.points ∧
    (s.freeEntry o).lku.routes = s.lku.routes ∧ (s.freeEntry o).asu = s.asu ∧
    (s.freeEntry o).rtp = s.rtp ∧ (s.freeEntry o).slu = s.slu ∧ (s.freeEntry o).hou = s.hou ∧
    (s.freeEntry o).cmu = s.cmu ∧ (s.freeEntry o).sld = s.sld := by
  unfold State.freeEntry
  repeat' split
  all_goals simp

@[simp] theorem State.releaseSection_keeps (s : State) (o : Owner) (i : Fin 8) (k : Fin 32) :
    (s.releaseSection o i k).pending = s.pending ∧ (s.releaseSection o i k).ticks = s.ticks ∧
    (s.releaseSection o i k).pins = s.pins ∧ (s.releaseSection o i k).config = s.config ∧
    (s.releaseSection o i k).fsu = s.fsu ∧ (s.releaseSection o i k).acu = s.acu ∧
    (s.releaseSection o i k).pcu = s.pcu ∧ (s.releaseSection o i k).asu = s.asu ∧
    (s.releaseSection o i k).rtp = s.rtp ∧ (s.releaseSection o i k).slu = s.slu ∧
    (s.releaseSection o i k).hou.neighbours = s.hou.neighbours ∧
    (s.releaseSection o i k).hou.offers = s.hou.offers ∧
    (s.releaseSection o i k).hou.lastId = s.hou.lastId ∧
    (s.releaseSection o i k).hou.grants = s.hou.grants ∧
    (s.releaseSection o i k).hou.statusPeriod = s.hou.statusPeriod ∧
    (s.releaseSection o i k).hou.statusPacing = s.hou.statusPacing ∧
    (s.releaseSection o i k).hou.statusChange = s.hou.statusChange ∧
    (s.releaseSection o i k).cmu = s.cmu ∧ (s.releaseSection o i k).sld = s.sld := by
  simp only [State.releaseSection]
  repeat' split
  all_goals simp

@[simp] theorem State.releaseFrom_keeps (s : State) (o : Owner) (qs : List (Fin 8 × Fin 32)) :
    (s.releaseFrom o qs).pending = s.pending ∧ (s.releaseFrom o qs).ticks = s.ticks ∧
    (s.releaseFrom o qs).pins = s.pins ∧ (s.releaseFrom o qs).config = s.config ∧
    (s.releaseFrom o qs).fsu = s.fsu ∧ (s.releaseFrom o qs).acu = s.acu ∧
    (s.releaseFrom o qs).pcu = s.pcu ∧ (s.releaseFrom o qs).asu = s.asu ∧
    (s.releaseFrom o qs).rtp = s.rtp ∧ (s.releaseFrom o qs).slu = s.slu ∧
    (s.releaseFrom o qs).hou.neighbours = s.hou.neighbours ∧
    (s.releaseFrom o qs).hou.offers = s.hou.offers ∧
    (s.releaseFrom o qs).hou.lastId = s.hou.lastId ∧
    (s.releaseFrom o qs).hou.grants = s.hou.grants ∧
    (s.releaseFrom o qs).hou.statusPeriod = s.hou.statusPeriod ∧
    (s.releaseFrom o qs).hou.statusPacing = s.hou.statusPacing ∧
    (s.releaseFrom o qs).hou.statusChange = s.hou.statusChange ∧ (s.releaseFrom o qs).cmu = s.cmu ∧
    (s.releaseFrom o qs).sld = s.sld := by
  induction qs generalizing s with
  | nil => simp [State.releaseFrom]
  | cons x xs ih =>
    obtain ⟨i, k⟩ := x
    simp only [State.releaseFrom]
    repeat' split
    all_goals simp [ih]

@[simp] theorem State.endPath_keeps (s : State) (o : Owner) :
    (s.endPath o).pending = s.pending ∧ (s.endPath o).ticks = s.ticks ∧
    (s.endPath o).pins = s.pins ∧ (s.endPath o).config = s.config ∧ (s.endPath o).fsu = s.fsu ∧
    (s.endPath o).acu = s.acu ∧ (s.endPath o).pcu = s.pcu ∧ (s.endPath o).asu = s.asu ∧
    (s.endPath o).slu.statusSlot = s.slu.statusSlot ∧
    (s.endPath o).slu.displayZero = s.slu.displayZero ∧
    (s.endPath o).slu.displayOne = s.slu.displayOne ∧ (s.endPath o).slu.lineA = s.slu.lineA ∧
    (s.endPath o).slu.lineB = s.slu.lineB ∧
    (s.endPath o).slu.neighbourWindows = s.slu.neighbourWindows ∧
    (s.endPath o).slu.panelWindows = s.slu.panelWindows ∧
    (s.endPath o).slu.panelSilence = s.slu.panelSilence ∧
    (s.endPath o).hou.neighbours = s.hou.neighbours ∧ (s.endPath o).hou.lastId = s.hou.lastId ∧
    (s.endPath o).hou.grants = s.hou.grants ∧ (s.endPath o).hou.statusPeriod = s.hou.statusPeriod ∧
    (s.endPath o).hou.statusPacing = s.hou.statusPacing ∧
    (s.endPath o).hou.statusChange = s.hou.statusChange ∧ (s.endPath o).cmu = s.cmu ∧
    (s.endPath o).sld = s.sld := by
  simp only [State.endPath]
  repeat' split
  all_goals simp

@[simp] theorem State.followTrain_keeps (s : State) (o : Owner) (k : Fin 32) (occ : Bool) :
    (s.followTrain o k occ).pending = s.pending ∧ (s.followTrain o k occ).ticks = s.ticks ∧
    (s.followTrain o k occ).pins = s.pins ∧ (s.followTrain o k occ).config = s.config ∧
    (s.followTrain o k occ).fsu = s.fsu ∧ (s.followTrain o k occ).acu = s.acu ∧
    (s.followTrain o k occ).pcu = s.pcu ∧ (s.followTrain o k occ).asu = s.asu ∧
    (s.followTrain o k occ).slu.statusSlot = s.slu.statusSlot ∧
    (s.followTrain o k occ).slu.displayZero = s.slu.displayZero ∧
    (s.followTrain o k occ).slu.displayOne = s.slu.displayOne ∧
    (s.followTrain o k occ).slu.lineA = s.slu.lineA ∧
    (s.followTrain o k occ).slu.lineB = s.slu.lineB ∧
    (s.followTrain o k occ).slu.neighbourWindows = s.slu.neighbourWindows ∧
    (s.followTrain o k occ).slu.panelWindows = s.slu.panelWindows ∧
    (s.followTrain o k occ).slu.panelSilence = s.slu.panelSilence ∧
    (s.followTrain o k occ).hou.neighbours = s.hou.neighbours ∧
    (s.followTrain o k occ).hou.lastId = s.hou.lastId ∧
    (s.followTrain o k occ).hou.grants = s.hou.grants ∧
    (s.followTrain o k occ).hou.statusPeriod = s.hou.statusPeriod ∧
    (s.followTrain o k occ).hou.statusPacing = s.hou.statusPacing ∧
    (s.followTrain o k occ).hou.statusChange = s.hou.statusChange ∧
    (s.followTrain o k occ).cmu = s.cmu ∧ (s.followTrain o k occ).sld = s.sld := by
  simp only [State.followTrain]
  repeat' split
  all_goals simp

@[simp] theorem State.cancelLocked_keeps (s : State) (r : Fin 64) :
    (s.cancelLocked r).pending = s.pending ∧ (s.cancelLocked r).ticks = s.ticks ∧
    (s.cancelLocked r).pins = s.pins ∧ (s.cancelLocked r).config = s.config ∧
    (s.cancelLocked r).fsu = s.fsu ∧ (s.cancelLocked r).acu = s.acu ∧
    (s.cancelLocked r).pcu = s.pcu ∧ (s.cancelLocked r).asu = s.asu ∧
    (s.cancelLocked r).slu.statusSlot = s.slu.statusSlot ∧
    (s.cancelLocked r).slu.displayZero = s.slu.displayZero ∧
    (s.cancelLocked r).slu.displayOne = s.slu.displayOne ∧
    (s.cancelLocked r).slu.lineA = s.slu.lineA ∧ (s.cancelLocked r).slu.lineB = s.slu.lineB ∧
    (s.cancelLocked r).slu.neighbourWindows = s.slu.neighbourWindows ∧
    (s.cancelLocked r).slu.panelWindows = s.slu.panelWindows ∧
    (s.cancelLocked r).slu.panelSilence = s.slu.panelSilence ∧
    (s.cancelLocked r).hou.neighbours = s.hou.neighbours ∧
    (s.cancelLocked r).hou.lastId = s.hou.lastId ∧ (s.cancelLocked r).hou.grants = s.hou.grants ∧
    (s.cancelLocked r).hou.statusPeriod = s.hou.statusPeriod ∧
    (s.cancelLocked r).hou.statusPacing = s.hou.statusPacing ∧
    (s.cancelLocked r).hou.statusChange = s.hou.statusChange ∧ (s.cancelLocked r).cmu = s.cmu ∧
    (s.cancelLocked r).sld = s.sld := by
  unfold State.cancelLocked
  repeat' split
  all_goals simp

end Sys2Proof.Machine
end

