-- ==== Sys2Proof/Laws/Setting.lean ====
section
/-! SUPPORT. What the tests and the taking of a setting event leave as it was. -/

namespace Sys2Proof.Machine

open Sys2Proof

@[simp] theorem State.completionTest_keeps (s : State) (r : Fin 64) :
    (s.completionTest r).pending = s.pending ∧ (s.completionTest r).ticks = s.ticks ∧
    (s.completionTest r).pins = s.pins ∧ (s.completionTest r).config = s.config ∧
    (s.completionTest r).fsu = s.fsu ∧ (s.completionTest r).acu = s.acu ∧
    (s.completionTest r).pcu = s.pcu ∧ (s.completionTest r).lku.sections = s.lku.sections ∧
    (s.completionTest r).lku.points = s.lku.points ∧
    (s.completionTest r).lku.signals = s.lku.signals ∧ (s.completionTest r).asu = s.asu ∧
    (s.completionTest r).rtp = s.rtp ∧ (s.completionTest r).slu = s.slu ∧
    (s.completionTest r).hou = s.hou ∧ (s.completionTest r).cmu.queue = s.cmu.queue ∧
    (s.completionTest r).cmu.pendingReset = s.cmu.pendingReset ∧
    (s.completionTest r).cmu.displayPeriod = s.cmu.displayPeriod ∧
    (s.completionTest r).cmu.pageZero = s.cmu.pageZero ∧
    (s.completionTest r).cmu.pageOne = s.cmu.pageOne ∧ (s.completionTest r).sld = s.sld := by
  unfold State.completionTest
  repeat' split
  all_goals simp

@[simp] theorem State.completionTests_keeps (s : State) (rs : List (Fin 64)) :
    (s.completionTests rs).pending = s.pending ∧ (s.completionTests rs).ticks = s.ticks ∧
    (s.completionTests rs).pins = s.pins ∧ (s.completionTests rs).config = s.config ∧
    (s.completionTests rs).fsu = s.fsu ∧ (s.completionTests rs).acu = s.acu ∧
    (s.completionTests rs).pcu = s.pcu ∧ (s.completionTests rs).lku.sections = s.lku.sections ∧
    (s.completionTests rs).lku.points = s.lku.points ∧
    (s.completionTests rs).lku.signals = s.lku.signals ∧ (s.completionTests rs).asu = s.asu ∧
    (s.completionTests rs).rtp = s.rtp ∧ (s.completionTests rs).slu = s.slu ∧
    (s.completionTests rs).hou = s.hou ∧ (s.completionTests rs).cmu.queue = s.cmu.queue ∧
    (s.completionTests rs).cmu.pendingReset = s.cmu.pendingReset ∧
    (s.completionTests rs).cmu.displayPeriod = s.cmu.displayPeriod ∧
    (s.completionTests rs).cmu.pageZero = s.cmu.pageZero ∧
    (s.completionTests rs).cmu.pageOne = s.cmu.pageOne ∧ (s.completionTests rs).sld = s.sld := by
  unfold State.completionTests
  induction rs generalizing s with
  | nil => simp
  | cons x xs ih =>
    simp only [State.forEach_cons, ih]
    all_goals simp

@[simp] theorem State.provingTest_keeps (s : State) (p : Fin 16) :
    (s.provingTest p).pending = s.pending ∧ (s.provingTest p).ticks = s.ticks ∧
    (s.provingTest p).pins = s.pins ∧ (s.provingTest p).config = s.config ∧
    (s.provingTest p).fsu = s.fsu ∧ (s.provingTest p).acu = s.acu ∧ (s.provingTest p).pcu = s.pcu ∧
    (s.provingTest p).lku = s.lku ∧ (s.provingTest p).asu = s.asu ∧ (s.provingTest p).rtp = s.rtp ∧
    (s.provingTest p).slu = s.slu ∧ (s.provingTest p).hou.neighbours = s.hou.neighbours ∧
    (s.provingTest p).hou.offers = s.hou.offers ∧ (s.provingTest p).hou.lastId = s.hou.lastId ∧
    (s.provingTest p).hou.grants = s.hou.grants ∧
    (s.provingTest p).hou.statusPeriod = s.hou.statusPeriod ∧
    (s.provingTest p).hou.statusPacing = s.hou.statusPacing ∧
    (s.provingTest p).hou.statusChange = s.hou.statusChange ∧ (s.provingTest p).cmu = s.cmu ∧
    (s.provingTest p).sld = s.sld := by
  simp [State.provingTest]

@[simp] theorem State.provingTests_keeps (s : State) (ps : List (Fin 16)) :
    (s.provingTests ps).pending = s.pending ∧ (s.provingTests ps).ticks = s.ticks ∧
    (s.provingTests ps).pins = s.pins ∧ (s.provingTests ps).config = s.config ∧
    (s.provingTests ps).fsu = s.fsu ∧ (s.provingTests ps).acu = s.acu ∧
    (s.provingTests ps).pcu = s.pcu ∧ (s.provingTests ps).lku = s.lku ∧
    (s.provingTests ps).asu = s.asu ∧ (s.provingTests ps).rtp = s.rtp ∧
    (s.provingTests ps).slu = s.slu ∧ (s.provingTests ps).hou.neighbours = s.hou.neighbours ∧
    (s.provingTests ps).hou.offers = s.hou.offers ∧ (s.provingTests ps).hou.lastId = s.hou.lastId ∧
    (s.provingTests ps).hou.grants = s.hou.grants ∧
    (s.provingTests ps).hou.statusPeriod = s.hou.statusPeriod ∧
    (s.provingTests ps).hou.statusPacing = s.hou.statusPacing ∧
    (s.provingTests ps).hou.statusChange = s.hou.statusChange ∧ (s.provingTests ps).cmu = s.cmu ∧
    (s.provingTests ps).sld = s.sld := by
  unfold State.provingTests
  induction ps generalizing s with
  | nil => simp
  | cons x xs ih =>
    simp only [State.forEach_cons, ih]
    all_goals simp

@[simp] theorem State.proveGrants_keeps (s : State) (f : FlankElement → Bool) :
    (s.proveGrants f).pending = s.pending ∧ (s.proveGrants f).ticks = s.ticks ∧
    (s.proveGrants f).pins = s.pins ∧ (s.proveGrants f).config = s.config ∧
    (s.proveGrants f).fsu = s.fsu ∧ (s.proveGrants f).acu = s.acu ∧ (s.proveGrants f).pcu = s.pcu ∧
    (s.proveGrants f).lku = s.lku ∧ (s.proveGrants f).asu = s.asu ∧ (s.proveGrants f).rtp = s.rtp ∧
    (s.proveGrants f).slu = s.slu ∧ (s.proveGrants f).hou.neighbours = s.hou.neighbours ∧
    (s.proveGrants f).hou.offers = s.hou.offers ∧ (s.proveGrants f).hou.lastId = s.hou.lastId ∧
    (s.proveGrants f).hou.portions = s.hou.portions ∧
    (s.proveGrants f).hou.statusPeriod = s.hou.statusPeriod ∧
    (s.proveGrants f).hou.statusPacing = s.hou.statusPacing ∧
    (s.proveGrants f).hou.statusChange = s.hou.statusChange ∧ (s.proveGrants f).cmu = s.cmu ∧
    (s.proveGrants f).sld = s.sld := by
  simp [State.proveGrants]

@[simp] theorem State.dispossess_keeps (s : State) (o : Owner) :
    (s.dispossess o).pending = s.pending ∧ (s.dispossess o).ticks = s.ticks ∧
    (s.dispossess o).pins = s.pins ∧ (s.dispossess o).config = s.config ∧
    (s.dispossess o).fsu = s.fsu ∧ (s.dispossess o).acu = s.acu ∧ (s.dispossess o).pcu = s.pcu ∧
    (s.dispossess o).asu = s.asu ∧ (s.dispossess o).slu = s.slu ∧
    (s.dispossess o).hou.neighbours = s.hou.neighbours ∧
    (s.dispossess o).hou.offers = s.hou.offers ∧ (s.dispossess o).hou.lastId = s.hou.lastId ∧
    (s.dispossess o).hou.grants = s.hou.grants ∧
    (s.dispossess o).hou.statusPeriod = s.hou.statusPeriod ∧
    (s.dispossess o).hou.statusPacing = s.hou.statusPacing ∧
    (s.dispossess o).hou.statusChange = s.hou.statusChange ∧ (s.dispossess o).cmu = s.cmu ∧
    (s.dispossess o).sld = s.sld := by
  cases o <;> simp only [State.dispossess] <;> split <;> simp

@[simp] theorem State.dispossessAll_keeps (s : State) (os : List Owner) :
    (s.dispossessAll os).pending = s.pending ∧ (s.dispossessAll os).ticks = s.ticks ∧
    (s.dispossessAll os).pins = s.pins ∧ (s.dispossessAll os).config = s.config ∧
    (s.dispossessAll os).fsu = s.fsu ∧ (s.dispossessAll os).acu = s.acu ∧
    (s.dispossessAll os).pcu = s.pcu ∧ (s.dispossessAll os).asu = s.asu ∧
    (s.dispossessAll os).slu = s.slu ∧ (s.dispossessAll os).hou.neighbours = s.hou.neighbours ∧
    (s.dispossessAll os).hou.offers = s.hou.offers ∧
    (s.dispossessAll os).hou.lastId = s.hou.lastId ∧
    (s.dispossessAll os).hou.grants = s.hou.grants ∧
    (s.dispossessAll os).hou.statusPeriod = s.hou.statusPeriod ∧
    (s.dispossessAll os).hou.statusPacing = s.hou.statusPacing ∧
    (s.dispossessAll os).hou.statusChange = s.hou.statusChange ∧ (s.dispossessAll os).cmu = s.cmu ∧
    (s.dispossessAll os).sld = s.sld := by
  unfold State.dispossessAll
  induction os generalizing s with
  | nil => simp
  | cons x xs ih =>
    simp only [State.forEach_cons, ih]
    all_goals simp

@[simp] theorem State.holdSections_keeps (s : State) (o : Owner) (x : Role) (ks : List (Fin 32)) :
    (s.holdSections o x ks).pending = s.pending ∧ (s.holdSections o x ks).ticks = s.ticks ∧
    (s.holdSections o x ks).pins = s.pins ∧ (s.holdSections o x ks).config = s.config ∧
    (s.holdSections o x ks).fsu = s.fsu ∧ (s.holdSections o x ks).acu = s.acu ∧
    (s.holdSections o x ks).pcu = s.pcu ∧ (s.holdSections o x ks).lku.points = s.lku.points ∧
    (s.holdSections o x ks).lku.signals = s.lku.signals ∧
    (s.holdSections o x ks).lku.routes = s.lku.routes ∧ (s.holdSections o x ks).asu = s.asu ∧
    (s.holdSections o x ks).rtp = s.rtp ∧ (s.holdSections o x ks).slu = s.slu ∧
    (s.holdSections o x ks).hou = s.hou ∧ (s.holdSections o x ks).cmu = s.cmu ∧
    (s.holdSections o x ks).sld = s.sld := by
  unfold State.holdSections
  induction ks generalizing s with
  | nil => simp
  | cons x xs ih =>
    simp only [State.forEach_cons, ih]
    all_goals simp

@[simp] theorem State.holdPoints_keeps (s : State) (o : Owner) (x : Role) (ps : List
    (Fin 16 × Position)) :
    (s.holdPoints o x ps).pending = s.pending ∧ (s.holdPoints o x ps).ticks = s.ticks ∧
    (s.holdPoints o x ps).pins = s.pins ∧ (s.holdPoints o x ps).config = s.config ∧
    (s.holdPoints o x ps).fsu = s.fsu ∧ (s.holdPoints o x ps).acu = s.acu ∧
    (s.holdPoints o x ps).pcu = s.pcu ∧ (s.holdPoints o x ps).lku.sections = s.lku.sections ∧
    (s.holdPoints o x ps).lku.signals = s.lku.signals ∧
    (s.holdPoints o x ps).lku.routes = s.lku.routes ∧ (s.holdPoints o x ps).asu = s.asu ∧
    (s.holdPoints o x ps).rtp = s.rtp ∧ (s.holdPoints o x ps).slu = s.slu ∧
    (s.holdPoints o x ps).hou = s.hou ∧ (s.holdPoints o x ps).cmu = s.cmu ∧
    (s.holdPoints o x ps).sld = s.sld := by
  unfold State.holdPoints
  induction ps generalizing s with
  | nil => simp
  | cons x xs ih =>
    simp only [State.forEach_cons, ih]
    all_goals simp

@[simp] theorem State.holdPlan_keeps (s : State) (o : Owner) (p : Plan) :
    (s.holdPlan o p).pending = s.pending ∧ (s.holdPlan o p).ticks = s.ticks ∧
    (s.holdPlan o p).pins = s.pins ∧ (s.holdPlan o p).config = s.config ∧
    (s.holdPlan o p).fsu = s.fsu ∧ (s.holdPlan o p).acu = s.acu ∧ (s.holdPlan o p).pcu = s.pcu ∧
    (s.holdPlan o p).lku.signals = s.lku.signals ∧ (s.holdPlan o p).lku.routes = s.lku.routes ∧
    (s.holdPlan o p).asu = s.asu ∧ (s.holdPlan o p).rtp = s.rtp ∧ (s.holdPlan o p).slu = s.slu ∧
    (s.holdPlan o p).hou = s.hou ∧ (s.holdPlan o p).cmu = s.cmu ∧ (s.holdPlan o p).sld = s.sld := by
  simp [State.holdPlan]

@[simp] theorem State.takePlan_keeps (s : State) (o : Owner) (p : Plan) (ch : List (Fin 48)) :
    (s.takePlan o p ch).pending = s.pending ∧ (s.takePlan o p ch).ticks = s.ticks ∧
    (s.takePlan o p ch).pins = s.pins ∧ (s.takePlan o p ch).config = s.config ∧
    (s.takePlan o p ch).fsu = s.fsu ∧ (s.takePlan o p ch).acu = s.acu ∧
    (s.takePlan o p ch).asu = s.asu ∧ (s.takePlan o p ch).rtp = s.rtp ∧
    (s.takePlan o p ch).slu = s.slu ∧ (s.takePlan o p ch).hou.neighbours = s.hou.neighbours ∧
    (s.takePlan o p ch).hou.offers = s.hou.offers ∧ (s.takePlan o p ch).hou.lastId = s.hou.lastId ∧
    (s.takePlan o p ch).hou.grants = s.hou.grants ∧
    (s.takePlan o p ch).hou.statusPeriod = s.hou.statusPeriod ∧
    (s.takePlan o p ch).hou.statusPacing = s.hou.statusPacing ∧
    (s.takePlan o p ch).hou.statusChange = s.hou.statusChange ∧ (s.takePlan o p ch).cmu = s.cmu ∧
    (s.takePlan o p ch).sld = s.sld := by
  simp [State.takePlan]

@[simp] theorem State.offerFlank_keeps (s : State) (r : Fin 64) (e : FlankElement) :
    (s.offerFlank r e).pending = s.pending ∧ (s.offerFlank r e).ticks = s.ticks ∧
    (s.offerFlank r e).pins = s.pins ∧ (s.offerFlank r e).config = s.config ∧
    (s.offerFlank r e).fsu = s.fsu ∧ (s.offerFlank r e).acu = s.acu ∧
    (s.offerFlank r e).pcu = s.pcu ∧ (s.offerFlank r e).lku.sections = s.lku.sections ∧
    (s.offerFlank r e).lku.points = s.lku.points ∧ (s.offerFlank r e).lku.signals = s.lku.signals ∧
    (s.offerFlank r e).asu = s.asu ∧ (s.offerFlank r e).rtp = s.rtp ∧
    (s.offerFlank r e).slu.statusSlot = s.slu.statusSlot ∧
    (s.offerFlank r e).slu.displayZero = s.slu.displayZero ∧
    (s.offerFlank r e).slu.displayOne = s.slu.displayOne ∧
    (s.offerFlank r e).slu.lineA = s.slu.lineA ∧ (s.offerFlank r e).slu.lineB = s.slu.lineB ∧
    (s.offerFlank r e).slu.neighbourWindows = s.slu.neighbourWindows ∧
    (s.offerFlank r e).slu.panelWindows = s.slu.panelWindows ∧
    (s.offerFlank r e).slu.panelSilence = s.slu.panelSilence ∧
    (s.offerFlank r e).hou.neighbours = s.hou.neighbours ∧
    (s.offerFlank r e).hou.portions = s.hou.portions ∧
    (s.offerFlank r e).hou.grants = s.hou.grants ∧
    (s.offerFlank r e).hou.statusPeriod = s.hou.statusPeriod ∧
    (s.offerFlank r e).hou.statusPacing = s.hou.statusPacing ∧
    (s.offerFlank r e).hou.statusChange = s.hou.statusChange ∧ (s.offerFlank r e).cmu = s.cmu ∧
    (s.offerFlank r e).sld = s.sld := by
  unfold State.offerFlank
  repeat' split
  all_goals simp

@[simp] theorem State.offerFlanks_keeps (s : State) (r : Fin 64) (es : List FlankElement) :
    (s.offerFlanks r es).pending = s.pending ∧ (s.offerFlanks r es).ticks = s.ticks ∧
    (s.offerFlanks r es).pins = s.pins ∧ (s.offerFlanks r es).config = s.config ∧
    (s.offerFlanks r es).fsu = s.fsu ∧ (s.offerFlanks r es).acu = s.acu ∧
    (s.offerFlanks r es).pcu = s.pcu ∧ (s.offerFlanks r es).lku.sections = s.lku.sections ∧
    (s.offerFlanks r es).lku.points = s.lku.points ∧
    (s.offerFlanks r es).lku.signals = s.lku.signals ∧ (s.offerFlanks r es).asu = s.asu ∧
    (s.offerFlanks r es).rtp = s.rtp ∧ (s.offerFlanks r es).slu.statusSlot = s.slu.statusSlot ∧
    (s.offerFlanks r es).slu.displayZero = s.slu.displayZero ∧
    (s.offerFlanks r es).slu.displayOne = s.slu.displayOne ∧
    (s.offerFlanks r es).slu.lineA = s.slu.lineA ∧ (s.offerFlanks r es).slu.lineB = s.slu.lineB ∧
    (s.offerFlanks r es).slu.neighbourWindows = s.slu.neighbourWindows ∧
    (s.offerFlanks r es).slu.panelWindows = s.slu.panelWindows ∧
    (s.offerFlanks r es).slu.panelSilence = s.slu.panelSilence ∧
    (s.offerFlanks r es).hou.neighbours = s.hou.neighbours ∧
    (s.offerFlanks r es).hou.portions = s.hou.portions ∧
    (s.offerFlanks r es).hou.grants = s.hou.grants ∧
    (s.offerFlanks r es).hou.statusPeriod = s.hou.statusPeriod ∧
    (s.offerFlanks r es).hou.statusPacing = s.hou.statusPacing ∧
    (s.offerFlanks r es).hou.statusChange = s.hou.statusChange ∧ (s.offerFlanks r es).cmu = s.cmu ∧
    (s.offerFlanks r es).sld = s.sld := by
  unfold State.offerFlanks
  induction es generalizing s with
  | nil => simp
  | cons x xs ih =>
    simp only [State.forEach_cons, ih]
    all_goals simp

@[simp] theorem State.offerPortion_keeps (s : State) (r : Fin 64) (q : Option (Fin 4 × Fin 16)) :
    (s.offerPortion r q).pending = s.pending ∧ (s.offerPortion r q).ticks = s.ticks ∧
    (s.offerPortion r q).pins = s.pins ∧ (s.offerPortion r q).config = s.config ∧
    (s.offerPortion r q).fsu = s.fsu ∧ (s.offerPortion r q).acu = s.acu ∧
    (s.offerPortion r q).pcu = s.pcu ∧ (s.offerPortion r q).lku.sections = s.lku.sections ∧
    (s.offerPortion r q).lku.points = s.lku.points ∧
    (s.offerPortion r q).lku.signals = s.lku.signals ∧ (s.offerPortion r q).asu = s.asu ∧
    (s.offerPortion r q).rtp = s.rtp ∧ (s.offerPortion r q).slu.statusSlot = s.slu.statusSlot ∧
    (s.offerPortion r q).slu.displayZero = s.slu.displayZero ∧
    (s.offerPortion r q).slu.displayOne = s.slu.displayOne ∧
    (s.offerPortion r q).slu.lineA = s.slu.lineA ∧ (s.offerPortion r q).slu.lineB = s.slu.lineB ∧
    (s.offerPortion r q).slu.neighbourWindows = s.slu.neighbourWindows ∧
    (s.offerPortion r q).slu.panelWindows = s.slu.panelWindows ∧
    (s.offerPortion r q).slu.panelSilence = s.slu.panelSilence ∧
    (s.offerPortion r q).hou.neighbours = s.hou.neighbours ∧
    (s.offerPortion r q).hou.portions = s.hou.portions ∧
    (s.offerPortion r q).hou.grants = s.hou.grants ∧
    (s.offerPortion r q).hou.statusPeriod = s.hou.statusPeriod ∧
    (s.offerPortion r q).hou.statusPacing = s.hou.statusPacing ∧
    (s.offerPortion r q).hou.statusChange = s.hou.statusChange ∧ (s.offerPortion r q).cmu = s.cmu ∧
    (s.offerPortion r q).sld = s.sld := by
  unfold State.offerPortion
  repeat' split
  all_goals simp

@[simp] theorem State.takeRoute_keeps (s : State) (r : Fin 64) (c : RouteCfg) (ch : List (Fin 48)) :
    (s.takeRoute r c ch).pending = s.pending ∧ (s.takeRoute r c ch).ticks = s.ticks ∧
    (s.takeRoute r c ch).pins = s.pins ∧ (s.takeRoute r c ch).config = s.config ∧
    (s.takeRoute r c ch).fsu = s.fsu ∧ (s.takeRoute r c ch).acu = s.acu ∧
    (s.takeRoute r c ch).asu = s.asu ∧ (s.takeRoute r c ch).slu.statusSlot = s.slu.statusSlot ∧
    (s.takeRoute r c ch).slu.displayZero = s.slu.displayZero ∧
    (s.takeRoute r c ch).slu.displayOne = s.slu.displayOne ∧
    (s.takeRoute r c ch).slu.lineA = s.slu.lineA ∧ (s.takeRoute r c ch).slu.lineB = s.slu.lineB ∧
    (s.takeRoute r c ch).slu.neighbourWindows = s.slu.neighbourWindows ∧
    (s.takeRoute r c ch).slu.panelWindows = s.slu.panelWindows ∧
    (s.takeRoute r c ch).slu.panelSilence = s.slu.panelSilence ∧
    (s.takeRoute r c ch).hou.neighbours = s.hou.neighbours ∧
    (s.takeRoute r c ch).hou.grants = s.hou.grants ∧
    (s.takeRoute r c ch).hou.statusPeriod = s.hou.statusPeriod ∧
    (s.takeRoute r c ch).hou.statusPacing = s.hou.statusPacing ∧
    (s.takeRoute r c ch).hou.statusChange = s.hou.statusChange ∧
    (s.takeRoute r c ch).cmu.queue = s.cmu.queue ∧
    (s.takeRoute r c ch).cmu.pendingReset = s.cmu.pendingReset ∧
    (s.takeRoute r c ch).cmu.displayPeriod = s.cmu.displayPeriod ∧
    (s.takeRoute r c ch).cmu.pageZero = s.cmu.pageZero ∧
    (s.takeRoute r c ch).cmu.pageOne = s.cmu.pageOne ∧ (s.takeRoute r c ch).sld = s.sld := by
  simp [State.takeRoute]

end Sys2Proof.Machine
end

