-- ==== Sys2Proof/Laws/Notices.lean ====
section
/-! SUPPORT. What notices, expiries and the handover telegrams leave as it was. -/

namespace Sys2Proof.Machine

open Sys2Proof

@[simp] theorem State.notePassed_keeps (s : State) (r : Fin 64) (g : Fin 16) :
    (s.notePassed r g).pending = s.pending ∧ (s.notePassed r g).ticks = s.ticks ∧
    (s.notePassed r g).pins = s.pins ∧ (s.notePassed r g).config = s.config ∧
    (s.notePassed r g).fsu = s.fsu ∧ (s.notePassed r g).acu = s.acu ∧
    (s.notePassed r g).pcu = s.pcu ∧ (s.notePassed r g).lku.sections = s.lku.sections ∧
    (s.notePassed r g).lku.points = s.lku.points ∧ (s.notePassed r g).lku.signals = s.lku.signals ∧
    (s.notePassed r g).asu = s.asu ∧ (s.notePassed r g).rtp = s.rtp ∧
    (s.notePassed r g).slu = s.slu ∧ (s.notePassed r g).hou = s.hou ∧
    (s.notePassed r g).cmu.queue = s.cmu.queue ∧
    (s.notePassed r g).cmu.pendingReset = s.cmu.pendingReset ∧
    (s.notePassed r g).cmu.displayPeriod = s.cmu.displayPeriod ∧
    (s.notePassed r g).cmu.pageZero = s.cmu.pageZero ∧
    (s.notePassed r g).cmu.pageOne = s.cmu.pageOne ∧ (s.notePassed r g).sld = s.sld := by
  simp [State.notePassed]

@[simp] theorem State.trainEntry_keeps (s : State) (r : Fin 64) (g : Fin 16) :
    (s.trainEntry r g).pending = s.pending ∧ (s.trainEntry r g).ticks = s.ticks ∧
    (s.trainEntry r g).pins = s.pins ∧ (s.trainEntry r g).config = s.config ∧
    (s.trainEntry r g).fsu = s.fsu ∧ (s.trainEntry r g).acu = s.acu ∧
    (s.trainEntry r g).pcu = s.pcu ∧ (s.trainEntry r g).lku.sections = s.lku.sections ∧
    (s.trainEntry r g).lku.points = s.lku.points ∧ (s.trainEntry r g).lku.signals = s.lku.signals ∧
    (s.trainEntry r g).asu = s.asu ∧ (s.trainEntry r g).slu = s.slu ∧
    (s.trainEntry r g).hou = s.hou ∧ (s.trainEntry r g).cmu.queue = s.cmu.queue ∧
    (s.trainEntry r g).cmu.pendingReset = s.cmu.pendingReset ∧
    (s.trainEntry r g).cmu.displayPeriod = s.cmu.displayPeriod ∧
    (s.trainEntry r g).cmu.pageZero = s.cmu.pageZero ∧
    (s.trainEntry r g).cmu.pageOne = s.cmu.pageOne ∧ (s.trainEntry r g).sld = s.sld := by
  simp only [State.trainEntry]
  repeat' split
  all_goals simp

@[simp] theorem State.entryNotice_keeps (s : State) (r : Fin 64) (k : Fin 32) (occ : Bool) :
    (s.entryNotice r k occ).pending = s.pending ∧ (s.entryNotice r k occ).ticks = s.ticks ∧
    (s.entryNotice r k occ).pins = s.pins ∧ (s.entryNotice r k occ).config = s.config ∧
    (s.entryNotice r k occ).fsu = s.fsu ∧ (s.entryNotice r k occ).acu = s.acu ∧
    (s.entryNotice r k occ).pcu = s.pcu ∧ (s.entryNotice r k occ).lku.sections = s.lku.sections ∧
    (s.entryNotice r k occ).lku.points = s.lku.points ∧
    (s.entryNotice r k occ).lku.signals = s.lku.signals ∧ (s.entryNotice r k occ).asu = s.asu ∧
    (s.entryNotice r k occ).slu = s.slu ∧ (s.entryNotice r k occ).hou = s.hou ∧
    (s.entryNotice r k occ).cmu.queue = s.cmu.queue ∧
    (s.entryNotice r k occ).cmu.pendingReset = s.cmu.pendingReset ∧
    (s.entryNotice r k occ).cmu.displayPeriod = s.cmu.displayPeriod ∧
    (s.entryNotice r k occ).cmu.pageZero = s.cmu.pageZero ∧
    (s.entryNotice r k occ).cmu.pageOne = s.cmu.pageOne ∧ (s.entryNotice r k occ).sld = s.sld := by
  unfold State.entryNotice
  repeat' split
  all_goals simp

@[simp] theorem State.overlapNotice_keeps (s : State) (r : Fin 64) :
    (s.overlapNotice r).pending = s.pending ∧ (s.overlapNotice r).ticks = s.ticks ∧
    (s.overlapNotice r).pins = s.pins ∧ (s.overlapNotice r).config = s.config ∧
    (s.overlapNotice r).fsu = s.fsu ∧ (s.overlapNotice r).acu = s.acu ∧
    (s.overlapNotice r).pcu = s.pcu ∧ (s.overlapNotice r).asu = s.asu ∧
    (s.overlapNotice r).rtp = s.rtp ∧ (s.overlapNotice r).slu = s.slu ∧
    (s.overlapNotice r).hou.neighbours = s.hou.neighbours ∧
    (s.overlapNotice r).hou.offers = s.hou.offers ∧ (s.overlapNotice r).hou.lastId = s.hou.lastId ∧
    (s.overlapNotice r).hou.grants = s.hou.grants ∧
    (s.overlapNotice r).hou.statusPeriod = s.hou.statusPeriod ∧
    (s.overlapNotice r).hou.statusPacing = s.hou.statusPacing ∧
    (s.overlapNotice r).hou.statusChange = s.hou.statusChange ∧ (s.overlapNotice r).cmu = s.cmu ∧
    (s.overlapNotice r).sld = s.sld := by
  unfold State.overlapNotice
  repeat' split
  all_goals simp

@[simp] theorem State.routeNotice_keeps (s : State) (r : Fin 64) (x : Role) (k : Fin 32) (occ
    : Bool) :
    (s.routeNotice r x k occ).pending = s.pending ∧ (s.routeNotice r x k occ).ticks = s.ticks ∧
    (s.routeNotice r x k occ).pins = s.pins ∧ (s.routeNotice r x k occ).config = s.config ∧
    (s.routeNotice r x k occ).fsu = s.fsu ∧ (s.routeNotice r x k occ).acu = s.acu ∧
    (s.routeNotice r x k occ).pcu = s.pcu ∧ (s.routeNotice r x k occ).asu = s.asu ∧
    (s.routeNotice r x k occ).slu.statusSlot = s.slu.statusSlot ∧
    (s.routeNotice r x k occ).slu.displayZero = s.slu.displayZero ∧
    (s.routeNotice r x k occ).slu.displayOne = s.slu.displayOne ∧
    (s.routeNotice r x k occ).slu.lineA = s.slu.lineA ∧
    (s.routeNotice r x k occ).slu.lineB = s.slu.lineB ∧
    (s.routeNotice r x k occ).slu.neighbourWindows = s.slu.neighbourWindows ∧
    (s.routeNotice r x k occ).slu.panelWindows = s.slu.panelWindows ∧
    (s.routeNotice r x k occ).slu.panelSilence = s.slu.panelSilence ∧
    (s.routeNotice r x k occ).hou.neighbours = s.hou.neighbours ∧
    (s.routeNotice r x k occ).hou.lastId = s.hou.lastId ∧
    (s.routeNotice r x k occ).hou.grants = s.hou.grants ∧
    (s.routeNotice r x k occ).hou.statusPeriod = s.hou.statusPeriod ∧
    (s.routeNotice r x k occ).hou.statusPacing = s.hou.statusPacing ∧
    (s.routeNotice r x k occ).hou.statusChange = s.hou.statusChange ∧
    (s.routeNotice r x k occ).cmu.queue = s.cmu.queue ∧
    (s.routeNotice r x k occ).cmu.pendingReset = s.cmu.pendingReset ∧
    (s.routeNotice r x k occ).cmu.displayPeriod = s.cmu.displayPeriod ∧
    (s.routeNotice r x k occ).cmu.pageZero = s.cmu.pageZero ∧
    (s.routeNotice r x k occ).cmu.pageOne = s.cmu.pageOne ∧
    (s.routeNotice r x k occ).sld = s.sld := by
  unfold State.routeNotice
  repeat' split
  all_goals simp

@[simp] theorem State.portionEntry_keeps (s : State) (p : Fin 16) :
    (s.portionEntry p).pending = s.pending ∧ (s.portionEntry p).ticks = s.ticks ∧
    (s.portionEntry p).pins = s.pins ∧ (s.portionEntry p).config = s.config ∧
    (s.portionEntry p).fsu = s.fsu ∧ (s.portionEntry p).acu = s.acu ∧
    (s.portionEntry p).pcu = s.pcu ∧ (s.portionEntry p).lku = s.lku ∧
    (s.portionEntry p).asu = s.asu ∧ (s.portionEntry p).rtp = s.rtp ∧
    (s.portionEntry p).slu = s.slu ∧ (s.portionEntry p).hou.neighbours = s.hou.neighbours ∧
    (s.portionEntry p).hou.offers = s.hou.offers ∧ (s.portionEntry p).hou.lastId = s.hou.lastId ∧
    (s.portionEntry p).hou.grants = s.hou.grants ∧
    (s.portionEntry p).hou.statusPeriod = s.hou.statusPeriod ∧
    (s.portionEntry p).hou.statusPacing = s.hou.statusPacing ∧
    (s.portionEntry p).hou.statusChange = s.hou.statusChange ∧ (s.portionEntry p).cmu = s.cmu ∧
    (s.portionEntry p).sld = s.sld := by
  simp [State.portionEntry]

@[simp] theorem State.portionNotice_keeps (s : State) (p : Fin 16) (x : Role) (k : Fin 32) (occ
    : Bool) :
    (s.portionNotice p x k occ).pending = s.pending ∧ (s.portionNotice p x k occ).ticks = s.ticks ∧
    (s.portionNotice p x k occ).pins = s.pins ∧ (s.portionNotice p x k occ).config = s.config ∧
    (s.portionNotice p x k occ).fsu = s.fsu ∧ (s.portionNotice p x k occ).acu = s.acu ∧
    (s.portionNotice p x k occ).pcu = s.pcu ∧ (s.portionNotice p x k occ).asu = s.asu ∧
    (s.portionNotice p x k occ).slu.statusSlot = s.slu.statusSlot ∧
    (s.portionNotice p x k occ).slu.displayZero = s.slu.displayZero ∧
    (s.portionNotice p x k occ).slu.displayOne = s.slu.displayOne ∧
    (s.portionNotice p x k occ).slu.lineA = s.slu.lineA ∧
    (s.portionNotice p x k occ).slu.lineB = s.slu.lineB ∧
    (s.portionNotice p x k occ).slu.neighbourWindows = s.slu.neighbourWindows ∧
    (s.portionNotice p x k occ).slu.panelWindows = s.slu.panelWindows ∧
    (s.portionNotice p x k occ).slu.panelSilence = s.slu.panelSilence ∧
    (s.portionNotice p x k occ).hou.neighbours = s.hou.neighbours ∧
    (s.portionNotice p x k occ).hou.lastId = s.hou.lastId ∧
    (s.portionNotice p x k occ).hou.grants = s.hou.grants ∧
    (s.portionNotice p x k occ).hou.statusPeriod = s.hou.statusPeriod ∧
    (s.portionNotice p x k occ).hou.statusPacing = s.hou.statusPacing ∧
    (s.portionNotice p x k occ).hou.statusChange = s.hou.statusChange ∧
    (s.portionNotice p x k occ).cmu = s.cmu ∧ (s.portionNotice p x k occ).sld = s.sld := by
  unfold State.portionNotice
  repeat' split
  all_goals simp

@[simp] theorem State.actOnNotice_keeps (s : State) (k : Fin 32) (occ : Bool) :
    (s.actOnNotice k occ).pending = s.pending ∧ (s.actOnNotice k occ).ticks = s.ticks ∧
    (s.actOnNotice k occ).pins = s.pins ∧ (s.actOnNotice k occ).config = s.config ∧
    (s.actOnNotice k occ).fsu = s.fsu ∧ (s.actOnNotice k occ).acu = s.acu ∧
    (s.actOnNotice k occ).pcu = s.pcu ∧ (s.actOnNotice k occ).asu = s.asu ∧
    (s.actOnNotice k occ).slu.statusSlot = s.slu.statusSlot ∧
    (s.actOnNotice k occ).slu.displayZero = s.slu.displayZero ∧
    (s.actOnNotice k occ).slu.displayOne = s.slu.displayOne ∧
    (s.actOnNotice k occ).slu.lineA = s.slu.lineA ∧ (s.actOnNotice k occ).slu.lineB = s.slu.lineB ∧
    (s.actOnNotice k occ).slu.neighbourWindows = s.slu.neighbourWindows ∧
    (s.actOnNotice k occ).slu.panelWindows = s.slu.panelWindows ∧
    (s.actOnNotice k occ).slu.panelSilence = s.slu.panelSilence ∧
    (s.actOnNotice k occ).hou.neighbours = s.hou.neighbours ∧
    (s.actOnNotice k occ).hou.lastId = s.hou.lastId ∧
    (s.actOnNotice k occ).hou.grants = s.hou.grants ∧
    (s.actOnNotice k occ).hou.statusPeriod = s.hou.statusPeriod ∧
    (s.actOnNotice k occ).hou.statusPacing = s.hou.statusPacing ∧
    (s.actOnNotice k occ).hou.statusChange = s.hou.statusChange ∧
    (s.actOnNotice k occ).cmu.queue = s.cmu.queue ∧
    (s.actOnNotice k occ).cmu.pendingReset = s.cmu.pendingReset ∧
    (s.actOnNotice k occ).cmu.displayPeriod = s.cmu.displayPeriod ∧
    (s.actOnNotice k occ).cmu.pageZero = s.cmu.pageZero ∧
    (s.actOnNotice k occ).cmu.pageOne = s.cmu.pageOne ∧ (s.actOnNotice k occ).sld = s.sld := by
  unfold State.actOnNotice
  repeat' split
  all_goals simp

@[simp] theorem State.sectionNotice_keeps (s : State) (k : Fin 32) :
    (s.sectionNotice k).pending = s.pending ∧ (s.sectionNotice k).ticks = s.ticks ∧
    (s.sectionNotice k).pins = s.pins ∧ (s.sectionNotice k).config = s.config ∧
    (s.sectionNotice k).fsu = s.fsu ∧ (s.sectionNotice k).acu.heads = s.acu.heads ∧
    (s.sectionNotice k).acu.baselines = s.acu.baselines ∧ (s.sectionNotice k).pcu = s.pcu ∧
    (s.sectionNotice k).asu = s.asu ∧ (s.sectionNotice k).slu.statusSlot = s.slu.statusSlot ∧
    (s.sectionNotice k).slu.displayZero = s.slu.displayZero ∧
    (s.sectionNotice k).slu.displayOne = s.slu.displayOne ∧
    (s.sectionNotice k).slu.lineA = s.slu.lineA ∧ (s.sectionNotice k).slu.lineB = s.slu.lineB ∧
    (s.sectionNotice k).slu.neighbourWindows = s.slu.neighbourWindows ∧
    (s.sectionNotice k).slu.panelWindows = s.slu.panelWindows ∧
    (s.sectionNotice k).slu.panelSilence = s.slu.panelSilence ∧
    (s.sectionNotice k).hou.neighbours = s.hou.neighbours ∧
    (s.sectionNotice k).hou.lastId = s.hou.lastId ∧ (s.sectionNotice k).hou.grants = s.hou.grants ∧
    (s.sectionNotice k).hou.statusPeriod = s.hou.statusPeriod ∧
    (s.sectionNotice k).hou.statusPacing = s.hou.statusPacing ∧
    (s.sectionNotice k).hou.statusChange = s.hou.statusChange ∧
    (s.sectionNotice k).cmu.queue = s.cmu.queue ∧
    (s.sectionNotice k).cmu.pendingReset = s.cmu.pendingReset ∧
    (s.sectionNotice k).cmu.displayPeriod = s.cmu.displayPeriod ∧
    (s.sectionNotice k).cmu.pageZero = s.cmu.pageZero ∧
    (s.sectionNotice k).cmu.pageOne = s.cmu.pageOne ∧ (s.sectionNotice k).sld = s.sld := by
  simp only [State.sectionNotice]
  repeat' split
  all_goals simp

@[simp] theorem State.actOnPoint_keeps (s : State) (p : Fin 16) :
    (s.actOnPoint p).pending = s.pending ∧ (s.actOnPoint p).ticks = s.ticks ∧
    (s.actOnPoint p).pins = s.pins ∧ (s.actOnPoint p).config = s.config ∧
    (s.actOnPoint p).fsu = s.fsu ∧ (s.actOnPoint p).acu = s.acu ∧ (s.actOnPoint p).pcu = s.pcu ∧
    (s.actOnPoint p).lku.sections = s.lku.sections ∧ (s.actOnPoint p).lku.points = s.lku.points ∧
    (s.actOnPoint p).lku.signals = s.lku.signals ∧ (s.actOnPoint p).asu = s.asu ∧
    (s.actOnPoint p).rtp = s.rtp ∧ (s.actOnPoint p).slu = s.slu ∧
    (s.actOnPoint p).hou.neighbours = s.hou.neighbours ∧
    (s.actOnPoint p).hou.offers = s.hou.offers ∧ (s.actOnPoint p).hou.lastId = s.hou.lastId ∧
    (s.actOnPoint p).hou.statusPeriod = s.hou.statusPeriod ∧
    (s.actOnPoint p).hou.statusPacing = s.hou.statusPacing ∧
    (s.actOnPoint p).hou.statusChange = s.hou.statusChange ∧
    (s.actOnPoint p).cmu.queue = s.cmu.queue ∧
    (s.actOnPoint p).cmu.pendingReset = s.cmu.pendingReset ∧
    (s.actOnPoint p).cmu.displayPeriod = s.cmu.displayPeriod ∧
    (s.actOnPoint p).cmu.pageZero = s.cmu.pageZero ∧ (s.actOnPoint p).cmu.pageOne = s.cmu.pageOne ∧
    (s.actOnPoint p).sld = s.sld := by
  simp [State.actOnPoint]

@[simp] theorem State.pointNotice_keeps (s : State) (p : Fin 16) :
    (s.pointNotice p).pending = s.pending ∧ (s.pointNotice p).ticks = s.ticks ∧
    (s.pointNotice p).pins = s.pins ∧ (s.pointNotice p).config = s.config ∧
    (s.pointNotice p).fsu = s.fsu ∧ (s.pointNotice p).acu = s.acu ∧
    (s.pointNotice p).lku.sections = s.lku.sections ∧ (s.pointNotice p).lku.points = s.lku.points ∧
    (s.pointNotice p).lku.signals = s.lku.signals ∧ (s.pointNotice p).asu = s.asu ∧
    (s.pointNotice p).rtp = s.rtp ∧ (s.pointNotice p).slu = s.slu ∧
    (s.pointNotice p).hou.neighbours = s.hou.neighbours ∧
    (s.pointNotice p).hou.offers = s.hou.offers ∧ (s.pointNotice p).hou.lastId = s.hou.lastId ∧
    (s.pointNotice p).hou.statusPeriod = s.hou.statusPeriod ∧
    (s.pointNotice p).hou.statusPacing = s.hou.statusPacing ∧
    (s.pointNotice p).hou.statusChange = s.hou.statusChange ∧
    (s.pointNotice p).cmu.queue = s.cmu.queue ∧
    (s.pointNotice p).cmu.pendingReset = s.cmu.pendingReset ∧
    (s.pointNotice p).cmu.displayPeriod = s.cmu.displayPeriod ∧
    (s.pointNotice p).cmu.pageZero = s.cmu.pageZero ∧
    (s.pointNotice p).cmu.pageOne = s.cmu.pageOne ∧ (s.pointNotice p).sld = s.sld := by
  simp only [State.pointNotice]
  repeat' split
  all_goals simp

@[simp] theorem State.settingExpiry_keeps (s : State) (r : Fin 64) :
    (s.settingExpiry r).pending = s.pending ∧ (s.settingExpiry r).ticks = s.ticks ∧
    (s.settingExpiry r).pins = s.pins ∧ (s.settingExpiry r).config = s.config ∧
    (s.settingExpiry r).fsu = s.fsu ∧ (s.settingExpiry r).acu = s.acu ∧
    (s.settingExpiry r).pcu = s.pcu ∧ (s.settingExpiry r).asu = s.asu ∧
    (s.settingExpiry r).slu.statusSlot = s.slu.statusSlot ∧
    (s.settingExpiry r).slu.displayZero = s.slu.displayZero ∧
    (s.settingExpiry r).slu.displayOne = s.slu.displayOne ∧
    (s.settingExpiry r).slu.lineA = s.slu.lineA ∧ (s.settingExpiry r).slu.lineB = s.slu.lineB ∧
    (s.settingExpiry r).slu.neighbourWindows = s.slu.neighbourWindows ∧
    (s.settingExpiry r).slu.panelWindows = s.slu.panelWindows ∧
    (s.settingExpiry r).slu.panelSilence = s.slu.panelSilence ∧
    (s.settingExpiry r).hou.neighbours = s.hou.neighbours ∧
    (s.settingExpiry r).hou.lastId = s.hou.lastId ∧ (s.settingExpiry r).hou.grants = s.hou.grants ∧
    (s.settingExpiry r).hou.statusPeriod = s.hou.statusPeriod ∧
    (s.settingExpiry r).hou.statusPacing = s.hou.statusPacing ∧
    (s.settingExpiry r).hou.statusChange = s.hou.statusChange ∧
    (s.settingExpiry r).cmu.queue = s.cmu.queue ∧
    (s.settingExpiry r).cmu.pendingReset = s.cmu.pendingReset ∧
    (s.settingExpiry r).cmu.displayPeriod = s.cmu.displayPeriod ∧
    (s.settingExpiry r).cmu.pageZero = s.cmu.pageZero ∧
    (s.settingExpiry r).cmu.pageOne = s.cmu.pageOne ∧ (s.settingExpiry r).sld = s.sld := by
  simp only [State.settingExpiry]
  repeat' split
  all_goals simp

@[simp] theorem State.workExpiry_keeps (s : State) (r : Fin 64) :
    (s.workExpiry r).pending = s.pending ∧ (s.workExpiry r).ticks = s.ticks ∧
    (s.workExpiry r).pins = s.pins ∧ (s.workExpiry r).config = s.config ∧
    (s.workExpiry r).fsu = s.fsu ∧ (s.workExpiry r).acu = s.acu ∧ (s.workExpiry r).pcu = s.pcu ∧
    (s.workExpiry r).asu = s.asu ∧ (s.workExpiry r).slu.statusSlot = s.slu.statusSlot ∧
    (s.workExpiry r).slu.displayZero = s.slu.displayZero ∧
    (s.workExpiry r).slu.displayOne = s.slu.displayOne ∧ (s.workExpiry r).slu.lineA = s.slu.lineA ∧
    (s.workExpiry r).slu.lineB = s.slu.lineB ∧
    (s.workExpiry r).slu.neighbourWindows = s.slu.neighbourWindows ∧
    (s.workExpiry r).slu.panelWindows = s.slu.panelWindows ∧
    (s.workExpiry r).slu.panelSilence = s.slu.panelSilence ∧
    (s.workExpiry r).hou.neighbours = s.hou.neighbours ∧
    (s.workExpiry r).hou.lastId = s.hou.lastId ∧ (s.workExpiry r).hou.grants = s.hou.grants ∧
    (s.workExpiry r).hou.statusPeriod = s.hou.statusPeriod ∧
    (s.workExpiry r).hou.statusPacing = s.hou.statusPacing ∧
    (s.workExpiry r).hou.statusChange = s.hou.statusChange ∧ (s.workExpiry r).cmu = s.cmu ∧
    (s.workExpiry r).sld = s.sld := by
  unfold State.workExpiry
  repeat' split
  all_goals simp

@[simp] theorem State.poolExpiry_keeps (s : State) (k : Fin 16) :
    (s.poolExpiry k).pending = s.pending ∧ (s.poolExpiry k).ticks = s.ticks ∧
    (s.poolExpiry k).pins = s.pins ∧ (s.poolExpiry k).config = s.config ∧
    (s.poolExpiry k).fsu = s.fsu ∧ (s.poolExpiry k).acu = s.acu ∧ (s.poolExpiry k).pcu = s.pcu ∧
    (s.poolExpiry k).asu = s.asu ∧ (s.poolExpiry k).slu.statusSlot = s.slu.statusSlot ∧
    (s.poolExpiry k).slu.displayZero = s.slu.displayZero ∧
    (s.poolExpiry k).slu.displayOne = s.slu.displayOne ∧ (s.poolExpiry k).slu.lineA = s.slu.lineA ∧
    (s.poolExpiry k).slu.lineB = s.slu.lineB ∧
    (s.poolExpiry k).slu.neighbourWindows = s.slu.neighbourWindows ∧
    (s.poolExpiry k).slu.panelWindows = s.slu.panelWindows ∧
    (s.poolExpiry k).slu.panelSilence = s.slu.panelSilence ∧
    (s.poolExpiry k).hou.neighbours = s.hou.neighbours ∧
    (s.poolExpiry k).hou.lastId = s.hou.lastId ∧ (s.poolExpiry k).hou.grants = s.hou.grants ∧
    (s.poolExpiry k).hou.statusPeriod = s.hou.statusPeriod ∧
    (s.poolExpiry k).hou.statusPacing = s.hou.statusPacing ∧
    (s.poolExpiry k).hou.statusChange = s.hou.statusChange ∧ (s.poolExpiry k).cmu = s.cmu ∧
    (s.poolExpiry k).sld = s.sld := by
  simp only [State.poolExpiry]
  repeat' split
  all_goals simp

@[simp] theorem State.takeSectionReset_keeps (s : State) (n : Fin 4) (x : Byte) :
    (s.takeSectionReset n x).pending = s.pending ∧ (s.takeSectionReset n x).ticks = s.ticks ∧
    (s.takeSectionReset n x).pins = s.pins ∧ (s.takeSectionReset n x).config = s.config ∧
    (s.takeSectionReset n x).fsu = s.fsu ∧ (s.takeSectionReset n x).acu.heads = s.acu.heads ∧
    (s.takeSectionReset n x).acu.baselines = s.acu.baselines ∧
    (s.takeSectionReset n x).pcu = s.pcu ∧ (s.takeSectionReset n x).lku = s.lku ∧
    (s.takeSectionReset n x).asu = s.asu ∧ (s.takeSectionReset n x).rtp = s.rtp ∧
    (s.takeSectionReset n x).slu = s.slu ∧ (s.takeSectionReset n x).hou = s.hou ∧
    (s.takeSectionReset n x).cmu = s.cmu ∧ (s.takeSectionReset n x).sld = s.sld := by
  unfold State.takeSectionReset
  repeat' split
  all_goals simp

@[simp] theorem State.hostPortion_keeps (s : State) (n : Fin 4) (p : Fin 16) (i : Byte) :
    (s.hostPortion n p i).pending = s.pending ∧ (s.hostPortion n p i).ticks = s.ticks ∧
    (s.hostPortion n p i).pins = s.pins ∧ (s.hostPortion n p i).config = s.config ∧
    (s.hostPortion n p i).fsu = s.fsu ∧ (s.hostPortion n p i).acu = s.acu ∧
    (s.hostPortion n p i).pcu = s.pcu ∧ (s.hostPortion n p i).lku = s.lku ∧
    (s.hostPortion n p i).asu = s.asu ∧ (s.hostPortion n p i).rtp = s.rtp ∧
    (s.hostPortion n p i).slu = s.slu ∧ (s.hostPortion n p i).hou.neighbours = s.hou.neighbours ∧
    (s.hostPortion n p i).hou.offers = s.hou.offers ∧
    (s.hostPortion n p i).hou.lastId = s.hou.lastId ∧
    (s.hostPortion n p i).hou.grants = s.hou.grants ∧
    (s.hostPortion n p i).hou.statusPeriod = s.hou.statusPeriod ∧
    (s.hostPortion n p i).hou.statusPacing = s.hou.statusPacing ∧
    (s.hostPortion n p i).hou.statusChange = s.hou.statusChange ∧
    (s.hostPortion n p i).cmu = s.cmu ∧ (s.hostPortion n p i).sld = s.sld := by
  simp [State.hostPortion]

/-- What a successful setting event of a portion leaves as it was (R83). -/
theorem State.setPortion_keeps (s t : State) (p : Fin 16) (c : PortionCfg)
    (h : s.setPortion p c = .ok t) :
    (t).pending = s.pending ∧ (t).ticks = s.ticks ∧ (t).pins = s.pins ∧ (t).config = s.config ∧
    (t).fsu = s.fsu ∧ (t).acu = s.acu ∧ (t).asu = s.asu ∧ (t).rtp = s.rtp ∧ (t).slu = s.slu ∧
    (t).hou.neighbours = s.hou.neighbours ∧ (t).hou.offers = s.hou.offers ∧
    (t).hou.lastId = s.hou.lastId ∧ (t).hou.grants = s.hou.grants ∧
    (t).hou.statusPeriod = s.hou.statusPeriod ∧ (t).hou.statusPacing = s.hou.statusPacing ∧
    (t).hou.statusChange = s.hou.statusChange ∧ (t).cmu = s.cmu ∧ (t).sld = s.sld := by
  unfold State.setPortion at h
  split at h
  · cases h
  · cases h
    simp

@[simp] theorem State.takePortionRequest_keeps (s : State) (n : Fin 4) (x i : Byte) :
    (s.takePortionRequest n x i).pending = s.pending ∧
    (s.takePortionRequest n x i).ticks = s.ticks ∧ (s.takePortionRequest n x i).pins = s.pins ∧
    (s.takePortionRequest n x i).config = s.config ∧ (s.takePortionRequest n x i).fsu = s.fsu ∧
    (s.takePortionRequest n x i).acu = s.acu ∧ (s.takePortionRequest n x i).asu = s.asu ∧
    (s.takePortionRequest n x i).rtp = s.rtp ∧
    (s.takePortionRequest n x i).slu.statusSlot = s.slu.statusSlot ∧
    (s.takePortionRequest n x i).slu.displayZero = s.slu.displayZero ∧
    (s.takePortionRequest n x i).slu.displayOne = s.slu.displayOne ∧
    (s.takePortionRequest n x i).slu.lineA = s.slu.lineA ∧
    (s.takePortionRequest n x i).slu.lineB = s.slu.lineB ∧
    (s.takePortionRequest n x i).slu.neighbourWindows = s.slu.neighbourWindows ∧
    (s.takePortionRequest n x i).slu.panelWindows = s.slu.panelWindows ∧
    (s.takePortionRequest n x i).slu.panelSilence = s.slu.panelSilence ∧
    (s.takePortionRequest n x i).hou.neighbours = s.hou.neighbours ∧
    (s.takePortionRequest n x i).hou.offers = s.hou.offers ∧
    (s.takePortionRequest n x i).hou.lastId = s.hou.lastId ∧
    (s.takePortionRequest n x i).hou.grants = s.hou.grants ∧
    (s.takePortionRequest n x i).hou.statusPeriod = s.hou.statusPeriod ∧
    (s.takePortionRequest n x i).hou.statusPacing = s.hou.statusPacing ∧
    (s.takePortionRequest n x i).hou.statusChange = s.hou.statusChange ∧
    (s.takePortionRequest n x i).cmu = s.cmu ∧ (s.takePortionRequest n x i).sld = s.sld := by
  simp only [State.takePortionRequest]
  repeat' split
  all_goals try simp
  next h => simp [State.setPortion_keeps _ _ _ _ h]

@[simp] theorem State.endHosting_keeps (s : State) (p : Fin 16) :
    (s.endHosting p).pending = s.pending ∧ (s.endHosting p).ticks = s.ticks ∧
    (s.endHosting p).pins = s.pins ∧ (s.endHosting p).config = s.config ∧
    (s.endHosting p).fsu = s.fsu ∧ (s.endHosting p).acu = s.acu ∧ (s.endHosting p).pcu = s.pcu ∧
    (s.endHosting p).asu = s.asu ∧ (s.endHosting p).rtp = s.rtp ∧ (s.endHosting p).slu = s.slu ∧
    (s.endHosting p).hou.neighbours = s.hou.neighbours ∧
    (s.endHosting p).hou.offers = s.hou.offers ∧ (s.endHosting p).hou.lastId = s.hou.lastId ∧
    (s.endHosting p).hou.grants = s.hou.grants ∧
    (s.endHosting p).hou.statusPeriod = s.hou.statusPeriod ∧
    (s.endHosting p).hou.statusPacing = s.hou.statusPacing ∧
    (s.endHosting p).hou.statusChange = s.hou.statusChange ∧ (s.endHosting p).cmu = s.cmu ∧
    (s.endHosting p).sld = s.sld := by
  unfold State.endHosting
  repeat' split
  all_goals simp

@[simp] theorem State.takePortionRelease_keeps (s : State) (n : Fin 4) (x i : Byte) :
    (s.takePortionRelease n x i).pending = s.pending ∧
    (s.takePortionRelease n x i).ticks = s.ticks ∧ (s.takePortionRelease n x i).pins = s.pins ∧
    (s.takePortionRelease n x i).config = s.config ∧ (s.takePortionRelease n x i).fsu = s.fsu ∧
    (s.takePortionRelease n x i).acu = s.acu ∧ (s.takePortionRelease n x i).pcu = s.pcu ∧
    (s.takePortionRelease n x i).asu = s.asu ∧ (s.takePortionRelease n x i).rtp = s.rtp ∧
    (s.takePortionRelease n x i).slu = s.slu ∧
    (s.takePortionRelease n x i).hou.neighbours = s.hou.neighbours ∧
    (s.takePortionRelease n x i).hou.offers = s.hou.offers ∧
    (s.takePortionRelease n x i).hou.lastId = s.hou.lastId ∧
    (s.takePortionRelease n x i).hou.grants = s.hou.grants ∧
    (s.takePortionRelease n x i).hou.statusPeriod = s.hou.statusPeriod ∧
    (s.takePortionRelease n x i).hou.statusPacing = s.hou.statusPacing ∧
    (s.takePortionRelease n x i).hou.statusChange = s.hou.statusChange ∧
    (s.takePortionRelease n x i).cmu = s.cmu ∧ (s.takePortionRelease n x i).sld = s.sld := by
  simp only [State.takePortionRelease]
  repeat' split
  all_goals simp

@[simp] theorem State.makeGrant_keeps (s : State) (n : Fin 4) (i : Byte) (k : Fin 8) (e u
    : Fin 48) :
    (s.makeGrant n i k e u).pending = s.pending ∧ (s.makeGrant n i k e u).ticks = s.ticks ∧
    (s.makeGrant n i k e u).pins = s.pins ∧ (s.makeGrant n i k e u).config = s.config ∧
    (s.makeGrant n i k e u).fsu = s.fsu ∧ (s.makeGrant n i k e u).acu = s.acu ∧
    (s.makeGrant n i k e u).lku.sections = s.lku.sections ∧
    (s.makeGrant n i k e u).lku.routes = s.lku.routes ∧ (s.makeGrant n i k e u).asu = s.asu ∧
    (s.makeGrant n i k e u).rtp = s.rtp ∧ (s.makeGrant n i k e u).slu = s.slu ∧
    (s.makeGrant n i k e u).hou.neighbours = s.hou.neighbours ∧
    (s.makeGrant n i k e u).hou.offers = s.hou.offers ∧
    (s.makeGrant n i k e u).hou.lastId = s.hou.lastId ∧
    (s.makeGrant n i k e u).hou.portions = s.hou.portions ∧
    (s.makeGrant n i k e u).hou.statusPeriod = s.hou.statusPeriod ∧
    (s.makeGrant n i k e u).hou.statusPacing = s.hou.statusPacing ∧
    (s.makeGrant n i k e u).hou.statusChange = s.hou.statusChange ∧
    (s.makeGrant n i k e u).cmu = s.cmu ∧ (s.makeGrant n i k e u).sld = s.sld := by
  simp [State.makeGrant]

@[simp] theorem State.freeGrantRecord_keeps (s : State) (k : Fin 8) :
    (s.freeGrantRecord k).pending = s.pending ∧ (s.freeGrantRecord k).ticks = s.ticks ∧
    (s.freeGrantRecord k).pins = s.pins ∧ (s.freeGrantRecord k).config = s.config ∧
    (s.freeGrantRecord k).fsu = s.fsu ∧ (s.freeGrantRecord k).acu = s.acu ∧
    (s.freeGrantRecord k).pcu = s.pcu ∧ (s.freeGrantRecord k).lku.sections = s.lku.sections ∧
    (s.freeGrantRecord k).lku.routes = s.lku.routes ∧ (s.freeGrantRecord k).asu = s.asu ∧
    (s.freeGrantRecord k).rtp = s.rtp ∧ (s.freeGrantRecord k).slu = s.slu ∧
    (s.freeGrantRecord k).hou.neighbours = s.hou.neighbours ∧
    (s.freeGrantRecord k).hou.offers = s.hou.offers ∧
    (s.freeGrantRecord k).hou.lastId = s.hou.lastId ∧
    (s.freeGrantRecord k).hou.portions = s.hou.portions ∧
    (s.freeGrantRecord k).hou.statusPeriod = s.hou.statusPeriod ∧
    (s.freeGrantRecord k).hou.statusPacing = s.hou.statusPacing ∧
    (s.freeGrantRecord k).hou.statusChange = s.hou.statusChange ∧
    (s.freeGrantRecord k).cmu = s.cmu ∧ (s.freeGrantRecord k).sld = s.sld := by
  unfold State.freeGrantRecord
  repeat' split
  all_goals simp

@[simp] theorem State.takeFlankRequest_keeps (s : State) (n : Fin 4) (i c e : Byte) :
    (s.takeFlankRequest n i c e).pending = s.pending ∧
    (s.takeFlankRequest n i c e).ticks = s.ticks ∧ (s.takeFlankRequest n i c e).pins = s.pins ∧
    (s.takeFlankRequest n i c e).config = s.config ∧ (s.takeFlankRequest n i c e).fsu = s.fsu ∧
    (s.takeFlankRequest n i c e).acu = s.acu ∧
    (s.takeFlankRequest n i c e).lku.sections = s.lku.sections ∧
    (s.takeFlankRequest n i c e).lku.routes = s.lku.routes ∧
    (s.takeFlankRequest n i c e).asu = s.asu ∧ (s.takeFlankRequest n i c e).rtp = s.rtp ∧
    (s.takeFlankRequest n i c e).slu.statusSlot = s.slu.statusSlot ∧
    (s.takeFlankRequest n i c e).slu.displayZero = s.slu.displayZero ∧
    (s.takeFlankRequest n i c e).slu.displayOne = s.slu.displayOne ∧
    (s.takeFlankRequest n i c e).slu.lineA = s.slu.lineA ∧
    (s.takeFlankRequest n i c e).slu.lineB = s.slu.lineB ∧
    (s.takeFlankRequest n i c e).slu.neighbourWindows = s.slu.neighbourWindows ∧
    (s.takeFlankRequest n i c e).slu.panelWindows = s.slu.panelWindows ∧
    (s.takeFlankRequest n i c e).slu.panelSilence = s.slu.panelSilence ∧
    (s.takeFlankRequest n i c e).hou.neighbours = s.hou.neighbours ∧
    (s.takeFlankRequest n i c e).hou.offers = s.hou.offers ∧
    (s.takeFlankRequest n i c e).hou.lastId = s.hou.lastId ∧
    (s.takeFlankRequest n i c e).hou.portions = s.hou.portions ∧
    (s.takeFlankRequest n i c e).hou.statusPeriod = s.hou.statusPeriod ∧
    (s.takeFlankRequest n i c e).hou.statusPacing = s.hou.statusPacing ∧
    (s.takeFlankRequest n i c e).hou.statusChange = s.hou.statusChange ∧
    (s.takeFlankRequest n i c e).cmu = s.cmu ∧ (s.takeFlankRequest n i c e).sld = s.sld := by
  simp only [State.takeFlankRequest]
  repeat' split
  all_goals simp

@[simp] theorem State.takeFlankRelease_keeps (s : State) (n : Fin 4) (i : Byte) :
    (s.takeFlankRelease n i).pending = s.pending ∧ (s.takeFlankRelease n i).ticks = s.ticks ∧
    (s.takeFlankRelease n i).pins = s.pins ∧ (s.takeFlankRelease n i).config = s.config ∧
    (s.takeFlankRelease n i).fsu = s.fsu ∧ (s.takeFlankRelease n i).acu = s.acu ∧
    (s.takeFlankRelease n i).pcu = s.pcu ∧ (s.takeFlankRelease n i).lku.sections = s.lku.sections ∧
    (s.takeFlankRelease n i).lku.routes = s.lku.routes ∧ (s.takeFlankRelease n i).asu = s.asu ∧
    (s.takeFlankRelease n i).rtp = s.rtp ∧ (s.takeFlankRelease n i).slu = s.slu ∧
    (s.takeFlankRelease n i).hou.neighbours = s.hou.neighbours ∧
    (s.takeFlankRelease n i).hou.offers = s.hou.offers ∧
    (s.takeFlankRelease n i).hou.lastId = s.hou.lastId ∧
    (s.takeFlankRelease n i).hou.portions = s.hou.portions ∧
    (s.takeFlankRelease n i).hou.statusPeriod = s.hou.statusPeriod ∧
    (s.takeFlankRelease n i).hou.statusPacing = s.hou.statusPacing ∧
    (s.takeFlankRelease n i).hou.statusChange = s.hou.statusChange ∧
    (s.takeFlankRelease n i).cmu = s.cmu ∧ (s.takeFlankRelease n i).sld = s.sld := by
  unfold State.takeFlankRelease
  repeat' split
  all_goals simp

@[simp] theorem State.takeGrant_keeps (s : State) (n : Fin 4) (x : OfferKind) (i : Byte) (t
    : Option Byte) (p : Payload) :
    (s.takeGrant n x i t p).pending = s.pending ∧ (s.takeGrant n x i t p).ticks = s.ticks ∧
    (s.takeGrant n x i t p).pins = s.pins ∧ (s.takeGrant n x i t p).config = s.config ∧
    (s.takeGrant n x i t p).fsu = s.fsu ∧ (s.takeGrant n x i t p).acu = s.acu ∧
    (s.takeGrant n x i t p).pcu = s.pcu ∧ (s.takeGrant n x i t p).lku.sections = s.lku.sections ∧
    (s.takeGrant n x i t p).lku.points = s.lku.points ∧
    (s.takeGrant n x i t p).lku.signals = s.lku.signals ∧ (s.takeGrant n x i t p).asu = s.asu ∧
    (s.takeGrant n x i t p).rtp = s.rtp ∧
    (s.takeGrant n x i t p).slu.statusSlot = s.slu.statusSlot ∧
    (s.takeGrant n x i t p).slu.displayZero = s.slu.displayZero ∧
    (s.takeGrant n x i t p).slu.displayOne = s.slu.displayOne ∧
    (s.takeGrant n x i t p).slu.lineA = s.slu.lineA ∧
    (s.takeGrant n x i t p).slu.lineB = s.slu.lineB ∧
    (s.takeGrant n x i t p).slu.neighbourWindows = s.slu.neighbourWindows ∧
    (s.takeGrant n x i t p).slu.panelWindows = s.slu.panelWindows ∧
    (s.takeGrant n x i t p).slu.panelSilence = s.slu.panelSilence ∧
    (s.takeGrant n x i t p).hou.neighbours = s.hou.neighbours ∧
    (s.takeGrant n x i t p).hou.lastId = s.hou.lastId ∧
    (s.takeGrant n x i t p).hou.portions = s.hou.portions ∧
    (s.takeGrant n x i t p).hou.grants = s.hou.grants ∧
    (s.takeGrant n x i t p).hou.statusPeriod = s.hou.statusPeriod ∧
    (s.takeGrant n x i t p).hou.statusPacing = s.hou.statusPacing ∧
    (s.takeGrant n x i t p).hou.statusChange = s.hou.statusChange ∧
    (s.takeGrant n x i t p).cmu.queue = s.cmu.queue ∧
    (s.takeGrant n x i t p).cmu.pendingReset = s.cmu.pendingReset ∧
    (s.takeGrant n x i t p).cmu.displayPeriod = s.cmu.displayPeriod ∧
    (s.takeGrant n x i t p).cmu.pageZero = s.cmu.pageZero ∧
    (s.takeGrant n x i t p).cmu.pageOne = s.cmu.pageOne ∧ (s.takeGrant n x i t p).sld = s.sld := by
  unfold State.takeGrant
  repeat' split
  all_goals simp

@[simp] theorem State.takeRefuse_keeps (s : State) (n : Fin 4) (x : OfferKind) (i : Byte) (t
    : Option Byte) :
    (s.takeRefuse n x i t).pending = s.pending ∧ (s.takeRefuse n x i t).ticks = s.ticks ∧
    (s.takeRefuse n x i t).pins = s.pins ∧ (s.takeRefuse n x i t).config = s.config ∧
    (s.takeRefuse n x i t).fsu = s.fsu ∧ (s.takeRefuse n x i t).acu = s.acu ∧
    (s.takeRefuse n x i t).pcu = s.pcu ∧ (s.takeRefuse n x i t).asu = s.asu ∧
    (s.takeRefuse n x i t).slu.statusSlot = s.slu.statusSlot ∧
    (s.takeRefuse n x i t).slu.displayZero = s.slu.displayZero ∧
    (s.takeRefuse n x i t).slu.displayOne = s.slu.displayOne ∧
    (s.takeRefuse n x i t).slu.lineA = s.slu.lineA ∧
    (s.takeRefuse n x i t).slu.lineB = s.slu.lineB ∧
    (s.takeRefuse n x i t).slu.neighbourWindows = s.slu.neighbourWindows ∧
    (s.takeRefuse n x i t).slu.panelWindows = s.slu.panelWindows ∧
    (s.takeRefuse n x i t).slu.panelSilence = s.slu.panelSilence ∧
    (s.takeRefuse n x i t).hou.neighbours = s.hou.neighbours ∧
    (s.takeRefuse n x i t).hou.lastId = s.hou.lastId ∧
    (s.takeRefuse n x i t).hou.grants = s.hou.grants ∧
    (s.takeRefuse n x i t).hou.statusPeriod = s.hou.statusPeriod ∧
    (s.takeRefuse n x i t).hou.statusPacing = s.hou.statusPacing ∧
    (s.takeRefuse n x i t).hou.statusChange = s.hou.statusChange ∧
    (s.takeRefuse n x i t).cmu = s.cmu ∧ (s.takeRefuse n x i t).sld = s.sld := by
  unfold State.takeRefuse
  repeat' split
  all_goals simp

@[simp] theorem State.dropSent_keeps (s : State) (k : Fin 8) :
    (s.dropSent k).pending = s.pending ∧ (s.dropSent k).ticks = s.ticks ∧
    (s.dropSent k).pins = s.pins ∧ (s.dropSent k).config = s.config ∧ (s.dropSent k).fsu = s.fsu ∧
    (s.dropSent k).acu = s.acu ∧ (s.dropSent k).pcu = s.pcu ∧ (s.dropSent k).asu = s.asu ∧
    (s.dropSent k).slu.statusSlot = s.slu.statusSlot ∧
    (s.dropSent k).slu.displayZero = s.slu.displayZero ∧
    (s.dropSent k).slu.displayOne = s.slu.displayOne ∧ (s.dropSent k).slu.lineA = s.slu.lineA ∧
    (s.dropSent k).slu.lineB = s.slu.lineB ∧
    (s.dropSent k).slu.neighbourWindows = s.slu.neighbourWindows ∧
    (s.dropSent k).slu.panelWindows = s.slu.panelWindows ∧
    (s.dropSent k).slu.panelSilence = s.slu.panelSilence ∧
    (s.dropSent k).hou.neighbours = s.hou.neighbours ∧ (s.dropSent k).hou.lastId = s.hou.lastId ∧
    (s.dropSent k).hou.grants = s.hou.grants ∧
    (s.dropSent k).hou.statusPeriod = s.hou.statusPeriod ∧
    (s.dropSent k).hou.statusPacing = s.hou.statusPacing ∧
    (s.dropSent k).hou.statusChange = s.hou.statusChange ∧ (s.dropSent k).cmu = s.cmu ∧
    (s.dropSent k).sld = s.sld := by
  unfold State.dropSent
  repeat' split
  all_goals simp

@[simp] theorem State.dropSentIn_keeps (s : State) (n : Fin 4) (ks : List (Fin 8)) :
    (s.dropSentIn n ks).pending = s.pending ∧ (s.dropSentIn n ks).ticks = s.ticks ∧
    (s.dropSentIn n ks).pins = s.pins ∧ (s.dropSentIn n ks).config = s.config ∧
    (s.dropSentIn n ks).fsu = s.fsu ∧ (s.dropSentIn n ks).acu = s.acu ∧
    (s.dropSentIn n ks).pcu = s.pcu ∧ (s.dropSentIn n ks).asu = s.asu ∧
    (s.dropSentIn n ks).slu.statusSlot = s.slu.statusSlot ∧
    (s.dropSentIn n ks).slu.displayZero = s.slu.displayZero ∧
    (s.dropSentIn n ks).slu.displayOne = s.slu.displayOne ∧
    (s.dropSentIn n ks).slu.lineA = s.slu.lineA ∧ (s.dropSentIn n ks).slu.lineB = s.slu.lineB ∧
    (s.dropSentIn n ks).slu.neighbourWindows = s.slu.neighbourWindows ∧
    (s.dropSentIn n ks).slu.panelWindows = s.slu.panelWindows ∧
    (s.dropSentIn n ks).slu.panelSilence = s.slu.panelSilence ∧
    (s.dropSentIn n ks).hou.neighbours = s.hou.neighbours ∧
    (s.dropSentIn n ks).hou.lastId = s.hou.lastId ∧ (s.dropSentIn n ks).hou.grants = s.hou.grants ∧
    (s.dropSentIn n ks).hou.statusPeriod = s.hou.statusPeriod ∧
    (s.dropSentIn n ks).hou.statusPacing = s.hou.statusPacing ∧
    (s.dropSentIn n ks).hou.statusChange = s.hou.statusChange ∧ (s.dropSentIn n ks).cmu = s.cmu ∧
    (s.dropSentIn n ks).sld = s.sld := by
  unfold State.dropSentIn
  induction ks generalizing s with
  | nil => simp
  | cons x xs ih =>
    simp only [State.forEach_cons, ih]
    repeat' split
    all_goals simp

@[simp] theorem State.dropAllSent_keeps (s : State) (n : Fin 4) :
    (s.dropAllSent n).pending = s.pending ∧ (s.dropAllSent n).ticks = s.ticks ∧
    (s.dropAllSent n).pins = s.pins ∧ (s.dropAllSent n).config = s.config ∧
    (s.dropAllSent n).fsu = s.fsu ∧ (s.dropAllSent n).acu = s.acu ∧ (s.dropAllSent n).pcu = s.pcu ∧
    (s.dropAllSent n).asu = s.asu ∧ (s.dropAllSent n).slu.statusSlot = s.slu.statusSlot ∧
    (s.dropAllSent n).slu.displayZero = s.slu.displayZero ∧
    (s.dropAllSent n).slu.displayOne = s.slu.displayOne ∧
    (s.dropAllSent n).slu.lineA = s.slu.lineA ∧ (s.dropAllSent n).slu.lineB = s.slu.lineB ∧
    (s.dropAllSent n).slu.neighbourWindows = s.slu.neighbourWindows ∧
    (s.dropAllSent n).slu.panelWindows = s.slu.panelWindows ∧
    (s.dropAllSent n).slu.panelSilence = s.slu.panelSilence ∧
    (s.dropAllSent n).hou.neighbours = s.hou.neighbours ∧
    (s.dropAllSent n).hou.lastId = s.hou.lastId ∧ (s.dropAllSent n).hou.grants = s.hou.grants ∧
    (s.dropAllSent n).hou.statusPeriod = s.hou.statusPeriod ∧
    (s.dropAllSent n).hou.statusPacing = s.hou.statusPacing ∧
    (s.dropAllSent n).hou.statusChange = s.hou.statusChange ∧ (s.dropAllSent n).cmu = s.cmu ∧
    (s.dropAllSent n).sld = s.sld := by
  simp [State.dropAllSent]

@[simp] theorem State.blockNeighbour_keeps (s : State) (n : Fin 4) :
    (s.blockNeighbour n).pending = s.pending ∧ (s.blockNeighbour n).ticks = s.ticks ∧
    (s.blockNeighbour n).pins = s.pins ∧ (s.blockNeighbour n).config = s.config ∧
    (s.blockNeighbour n).fsu = s.fsu ∧ (s.blockNeighbour n).acu = s.acu ∧
    (s.blockNeighbour n).pcu = s.pcu ∧ (s.blockNeighbour n).asu = s.asu ∧
    (s.blockNeighbour n).slu.statusSlot = s.slu.statusSlot ∧
    (s.blockNeighbour n).slu.displayZero = s.slu.displayZero ∧
    (s.blockNeighbour n).slu.displayOne = s.slu.displayOne ∧
    (s.blockNeighbour n).slu.lineA = s.slu.lineA ∧ (s.blockNeighbour n).slu.lineB = s.slu.lineB ∧
    (s.blockNeighbour n).slu.neighbourWindows = s.slu.neighbourWindows ∧
    (s.blockNeighbour n).slu.panelWindows = s.slu.panelWindows ∧
    (s.blockNeighbour n).slu.panelSilence = s.slu.panelSilence ∧
    (s.blockNeighbour n).hou.lastId = s.hou.lastId ∧
    (s.blockNeighbour n).hou.grants = s.hou.grants ∧
    (s.blockNeighbour n).hou.statusPeriod = s.hou.statusPeriod ∧
    (s.blockNeighbour n).hou.statusPacing = s.hou.statusPacing ∧
    (s.blockNeighbour n).hou.statusChange = s.hou.statusChange ∧
    (s.blockNeighbour n).cmu.queue = s.cmu.queue ∧
    (s.blockNeighbour n).cmu.pendingReset = s.cmu.pendingReset ∧
    (s.blockNeighbour n).cmu.displayPeriod = s.cmu.displayPeriod ∧
    (s.blockNeighbour n).cmu.pageZero = s.cmu.pageZero ∧
    (s.blockNeighbour n).cmu.pageOne = s.cmu.pageOne ∧ (s.blockNeighbour n).sld = s.sld := by
  simp [State.blockNeighbour]

@[simp] theorem State.resend_keeps (s : State) (k : Fin 8) (o : Offer) :
    (s.resend k o).pending = s.pending ∧ (s.resend k o).ticks = s.ticks ∧
    (s.resend k o).pins = s.pins ∧ (s.resend k o).config = s.config ∧ (s.resend k o).fsu = s.fsu ∧
    (s.resend k o).acu = s.acu ∧ (s.resend k o).pcu = s.pcu ∧ (s.resend k o).lku = s.lku ∧
    (s.resend k o).asu = s.asu ∧ (s.resend k o).rtp = s.rtp ∧
    (s.resend k o).slu.statusSlot = s.slu.statusSlot ∧
    (s.resend k o).slu.displayZero = s.slu.displayZero ∧
    (s.resend k o).slu.displayOne = s.slu.displayOne ∧ (s.resend k o).slu.lineA = s.slu.lineA ∧
    (s.resend k o).slu.lineB = s.slu.lineB ∧
    (s.resend k o).slu.neighbourWindows = s.slu.neighbourWindows ∧
    (s.resend k o).slu.panelWindows = s.slu.panelWindows ∧
    (s.resend k o).slu.panelSilence = s.slu.panelSilence ∧
    (s.resend k o).hou.neighbours = s.hou.neighbours ∧ (s.resend k o).hou.lastId = s.hou.lastId ∧
    (s.resend k o).hou.portions = s.hou.portions ∧ (s.resend k o).hou.grants = s.hou.grants ∧
    (s.resend k o).hou.statusPeriod = s.hou.statusPeriod ∧
    (s.resend k o).hou.statusPacing = s.hou.statusPacing ∧
    (s.resend k o).hou.statusChange = s.hou.statusChange ∧ (s.resend k o).cmu = s.cmu ∧
    (s.resend k o).sld = s.sld := by
  simp [State.resend]

@[simp] theorem State.applyPolicy_keeps (s : State) (k : Fin 8) (o : Offer) (x : ReplyPolicy) :
    (s.applyPolicy k o x).pending = s.pending ∧ (s.applyPolicy k o x).ticks = s.ticks ∧
    (s.applyPolicy k o x).pins = s.pins ∧ (s.applyPolicy k o x).config = s.config ∧
    (s.applyPolicy k o x).fsu = s.fsu ∧ (s.applyPolicy k o x).acu = s.acu ∧
    (s.applyPolicy k o x).pcu = s.pcu ∧ (s.applyPolicy k o x).asu = s.asu ∧
    (s.applyPolicy k o x).slu.statusSlot = s.slu.statusSlot ∧
    (s.applyPolicy k o x).slu.displayZero = s.slu.displayZero ∧
    (s.applyPolicy k o x).slu.displayOne = s.slu.displayOne ∧
    (s.applyPolicy k o x).slu.lineA = s.slu.lineA ∧ (s.applyPolicy k o x).slu.lineB = s.slu.lineB ∧
    (s.applyPolicy k o x).slu.neighbourWindows = s.slu.neighbourWindows ∧
    (s.applyPolicy k o x).slu.panelWindows = s.slu.panelWindows ∧
    (s.applyPolicy k o x).slu.panelSilence = s.slu.panelSilence ∧
    (s.applyPolicy k o x).hou.lastId = s.hou.lastId ∧
    (s.applyPolicy k o x).hou.grants = s.hou.grants ∧
    (s.applyPolicy k o x).hou.statusPeriod = s.hou.statusPeriod ∧
    (s.applyPolicy k o x).hou.statusPacing = s.hou.statusPacing ∧
    (s.applyPolicy k o x).hou.statusChange = s.hou.statusChange ∧
    (s.applyPolicy k o x).cmu.queue = s.cmu.queue ∧
    (s.applyPolicy k o x).cmu.pendingReset = s.cmu.pendingReset ∧
    (s.applyPolicy k o x).cmu.displayPeriod = s.cmu.displayPeriod ∧
    (s.applyPolicy k o x).cmu.pageZero = s.cmu.pageZero ∧
    (s.applyPolicy k o x).cmu.pageOne = s.cmu.pageOne ∧ (s.applyPolicy k o x).sld = s.sld := by
  unfold State.applyPolicy
  repeat' split
  all_goals simp

@[simp] theorem State.replyExpiry_keeps (s : State) (k : Fin 8) :
    (s.replyExpiry k).pending = s.pending ∧ (s.replyExpiry k).ticks = s.ticks ∧
    (s.replyExpiry k).pins = s.pins ∧ (s.replyExpiry k).config = s.config ∧
    (s.replyExpiry k).fsu = s.fsu ∧ (s.replyExpiry k).acu = s.acu ∧ (s.replyExpiry k).pcu = s.pcu ∧
    (s.replyExpiry k).asu = s.asu ∧ (s.replyExpiry k).slu.statusSlot = s.slu.statusSlot ∧
    (s.replyExpiry k).slu.displayZero = s.slu.displayZero ∧
    (s.replyExpiry k).slu.displayOne = s.slu.displayOne ∧
    (s.replyExpiry k).slu.lineA = s.slu.lineA ∧ (s.replyExpiry k).slu.lineB = s.slu.lineB ∧
    (s.replyExpiry k).slu.neighbourWindows = s.slu.neighbourWindows ∧
    (s.replyExpiry k).slu.panelWindows = s.slu.panelWindows ∧
    (s.replyExpiry k).slu.panelSilence = s.slu.panelSilence ∧
    (s.replyExpiry k).hou.lastId = s.hou.lastId ∧ (s.replyExpiry k).hou.grants = s.hou.grants ∧
    (s.replyExpiry k).hou.statusPeriod = s.hou.statusPeriod ∧
    (s.replyExpiry k).hou.statusPacing = s.hou.statusPacing ∧
    (s.replyExpiry k).hou.statusChange = s.hou.statusChange ∧
    (s.replyExpiry k).cmu.queue = s.cmu.queue ∧
    (s.replyExpiry k).cmu.pendingReset = s.cmu.pendingReset ∧
    (s.replyExpiry k).cmu.displayPeriod = s.cmu.displayPeriod ∧
    (s.replyExpiry k).cmu.pageZero = s.cmu.pageZero ∧
    (s.replyExpiry k).cmu.pageOne = s.cmu.pageOne ∧ (s.replyExpiry k).sld = s.sld := by
  unfold State.replyExpiry
  repeat' split
  all_goals simp

end Sys2Proof.Machine
end

