-- ==== Sys2Proof/Laws/Neighbours.lean ====
section
/-! SUPPORT. What STATUS, reconciliation and silence leave as it was. -/

namespace Sys2Proof.Machine

open Sys2Proof

@[simp] theorem State.setImplausible_keeps (s : State) (es : List (Fin 8)) :
    (s.setImplausible es).pending = s.pending ∧ (s.setImplausible es).ticks = s.ticks ∧
    (s.setImplausible es).pins = s.pins ∧ (s.setImplausible es).config = s.config ∧
    (s.setImplausible es).fsu = s.fsu ∧ (s.setImplausible es).acu = s.acu ∧
    (s.setImplausible es).pcu = s.pcu ∧ (s.setImplausible es).lku = s.lku ∧
    (s.setImplausible es).asu = s.asu ∧ (s.setImplausible es).rtp = s.rtp ∧
    (s.setImplausible es).slu = s.slu ∧ (s.setImplausible es).hou = s.hou ∧
    (s.setImplausible es).cmu.queue = s.cmu.queue ∧
    (s.setImplausible es).cmu.pendingReset = s.cmu.pendingReset ∧
    (s.setImplausible es).cmu.displayPeriod = s.cmu.displayPeriod ∧
    (s.setImplausible es).cmu.pageZero = s.cmu.pageZero ∧
    (s.setImplausible es).cmu.pageOne = s.cmu.pageOne ∧ (s.setImplausible es).sld = s.sld := by
  unfold State.setImplausible
  induction es generalizing s with
  | nil => simp
  | cons x xs ih =>
    simp only [State.forEach_cons, ih]
    all_goals simp

@[simp] theorem State.reportEvent_keeps (s : State) (n : Fin 4) (hs : List HeadEntry) :
    (s.reportEvent n hs).pending = s.pending ∧ (s.reportEvent n hs).ticks = s.ticks ∧
    (s.reportEvent n hs).pins = s.pins ∧ (s.reportEvent n hs).config = s.config ∧
    (s.reportEvent n hs).fsu = s.fsu ∧ (s.reportEvent n hs).acu.heads = s.acu.heads ∧
    (s.reportEvent n hs).pcu = s.pcu ∧ (s.reportEvent n hs).lku = s.lku ∧
    (s.reportEvent n hs).asu = s.asu ∧ (s.reportEvent n hs).rtp = s.rtp ∧
    (s.reportEvent n hs).slu = s.slu ∧ (s.reportEvent n hs).hou = s.hou ∧
    (s.reportEvent n hs).cmu.queue = s.cmu.queue ∧
    (s.reportEvent n hs).cmu.pendingReset = s.cmu.pendingReset ∧
    (s.reportEvent n hs).cmu.displayPeriod = s.cmu.displayPeriod ∧
    (s.reportEvent n hs).cmu.pageZero = s.cmu.pageZero ∧
    (s.reportEvent n hs).cmu.pageOne = s.cmu.pageOne ∧ (s.reportEvent n hs).sld = s.sld := by
  simp [State.reportEvent]

@[simp] theorem State.acuSilence_keeps (s : State) (n : Fin 4) :
    (s.acuSilence n).pending = s.pending ∧ (s.acuSilence n).ticks = s.ticks ∧
    (s.acuSilence n).pins = s.pins ∧ (s.acuSilence n).config = s.config ∧
    (s.acuSilence n).fsu = s.fsu ∧ (s.acuSilence n).acu.heads = s.acu.heads ∧
    (s.acuSilence n).pcu = s.pcu ∧ (s.acuSilence n).lku = s.lku ∧ (s.acuSilence n).asu = s.asu ∧
    (s.acuSilence n).rtp = s.rtp ∧ (s.acuSilence n).slu = s.slu ∧ (s.acuSilence n).hou = s.hou ∧
    (s.acuSilence n).cmu = s.cmu ∧ (s.acuSilence n).sld = s.sld := by
  simp [State.acuSilence]

@[simp] theorem State.unconfirmOffers_keeps (s : State) (n : Fin 4) :
    (s.unconfirmOffers n).pending = s.pending ∧ (s.unconfirmOffers n).ticks = s.ticks ∧
    (s.unconfirmOffers n).pins = s.pins ∧ (s.unconfirmOffers n).config = s.config ∧
    (s.unconfirmOffers n).fsu = s.fsu ∧ (s.unconfirmOffers n).acu = s.acu ∧
    (s.unconfirmOffers n).pcu = s.pcu ∧ (s.unconfirmOffers n).lku = s.lku ∧
    (s.unconfirmOffers n).asu = s.asu ∧ (s.unconfirmOffers n).rtp = s.rtp ∧
    (s.unconfirmOffers n).slu = s.slu ∧ (s.unconfirmOffers n).hou.neighbours = s.hou.neighbours ∧
    (s.unconfirmOffers n).hou.lastId = s.hou.lastId ∧
    (s.unconfirmOffers n).hou.portions = s.hou.portions ∧
    (s.unconfirmOffers n).hou.grants = s.hou.grants ∧
    (s.unconfirmOffers n).hou.statusPeriod = s.hou.statusPeriod ∧
    (s.unconfirmOffers n).hou.statusPacing = s.hou.statusPacing ∧
    (s.unconfirmOffers n).hou.statusChange = s.hou.statusChange ∧
    (s.unconfirmOffers n).cmu = s.cmu ∧ (s.unconfirmOffers n).sld = s.sld := by
  simp [State.unconfirmOffers]

@[simp] theorem State.orphanHosted_keeps (s : State) (n : Fin 4) :
    (s.orphanHosted n).pending = s.pending ∧ (s.orphanHosted n).ticks = s.ticks ∧
    (s.orphanHosted n).pins = s.pins ∧ (s.orphanHosted n).config = s.config ∧
    (s.orphanHosted n).fsu = s.fsu ∧ (s.orphanHosted n).acu = s.acu ∧
    (s.orphanHosted n).pcu = s.pcu ∧ (s.orphanHosted n).lku = s.lku ∧
    (s.orphanHosted n).asu = s.asu ∧ (s.orphanHosted n).rtp = s.rtp ∧
    (s.orphanHosted n).slu = s.slu ∧ (s.orphanHosted n).hou.neighbours = s.hou.neighbours ∧
    (s.orphanHosted n).hou.offers = s.hou.offers ∧ (s.orphanHosted n).hou.lastId = s.hou.lastId ∧
    (s.orphanHosted n).hou.statusPeriod = s.hou.statusPeriod ∧
    (s.orphanHosted n).hou.statusPacing = s.hou.statusPacing ∧
    (s.orphanHosted n).hou.statusChange = s.hou.statusChange ∧ (s.orphanHosted n).cmu = s.cmu ∧
    (s.orphanHosted n).sld = s.sld := by
  simp [State.orphanHosted]

@[simp] theorem State.silenceEvent_keeps (s : State) (n : Fin 4) :
    (s.silenceEvent n).pending = s.pending ∧ (s.silenceEvent n).ticks = s.ticks ∧
    (s.silenceEvent n).pins = s.pins ∧ (s.silenceEvent n).config = s.config ∧
    (s.silenceEvent n).fsu = s.fsu ∧ (s.silenceEvent n).acu.heads = s.acu.heads ∧
    (s.silenceEvent n).pcu = s.pcu ∧ (s.silenceEvent n).asu = s.asu ∧
    (s.silenceEvent n).slu.statusSlot = s.slu.statusSlot ∧
    (s.silenceEvent n).slu.displayZero = s.slu.displayZero ∧
    (s.silenceEvent n).slu.displayOne = s.slu.displayOne ∧
    (s.silenceEvent n).slu.lineA = s.slu.lineA ∧ (s.silenceEvent n).slu.lineB = s.slu.lineB ∧
    (s.silenceEvent n).slu.panelSilence = s.slu.panelSilence ∧
    (s.silenceEvent n).hou.lastId = s.hou.lastId ∧
    (s.silenceEvent n).hou.statusPeriod = s.hou.statusPeriod ∧
    (s.silenceEvent n).hou.statusPacing = s.hou.statusPacing ∧
    (s.silenceEvent n).hou.statusChange = s.hou.statusChange ∧ (s.silenceEvent n).cmu = s.cmu ∧
    (s.silenceEvent n).sld = s.sld := by
  simp [State.silenceEvent]

@[simp] theorem State.silenceExpiry_keeps (s : State) (n : Fin 4) :
    (s.silenceExpiry n).pending = s.pending ∧ (s.silenceExpiry n).ticks = s.ticks ∧
    (s.silenceExpiry n).pins = s.pins ∧ (s.silenceExpiry n).config = s.config ∧
    (s.silenceExpiry n).fsu = s.fsu ∧ (s.silenceExpiry n).acu.heads = s.acu.heads ∧
    (s.silenceExpiry n).pcu = s.pcu ∧ (s.silenceExpiry n).asu = s.asu ∧
    (s.silenceExpiry n).slu.statusSlot = s.slu.statusSlot ∧
    (s.silenceExpiry n).slu.displayZero = s.slu.displayZero ∧
    (s.silenceExpiry n).slu.displayOne = s.slu.displayOne ∧
    (s.silenceExpiry n).slu.lineA = s.slu.lineA ∧ (s.silenceExpiry n).slu.lineB = s.slu.lineB ∧
    (s.silenceExpiry n).slu.panelSilence = s.slu.panelSilence ∧
    (s.silenceExpiry n).hou.lastId = s.hou.lastId ∧
    (s.silenceExpiry n).hou.statusPeriod = s.hou.statusPeriod ∧
    (s.silenceExpiry n).hou.statusPacing = s.hou.statusPacing ∧
    (s.silenceExpiry n).hou.statusChange = s.hou.statusChange ∧ (s.silenceExpiry n).cmu = s.cmu ∧
    (s.silenceExpiry n).sld = s.sld := by
  unfold State.silenceExpiry
  repeat' split
  all_goals simp

@[simp] theorem State.loseOffer_keeps (s : State) (r : Fin 64) :
    (s.loseOffer r).pending = s.pending ∧ (s.loseOffer r).ticks = s.ticks ∧
    (s.loseOffer r).pins = s.pins ∧ (s.loseOffer r).config = s.config ∧
    (s.loseOffer r).fsu = s.fsu ∧ (s.loseOffer r).acu = s.acu ∧ (s.loseOffer r).pcu = s.pcu ∧
    (s.loseOffer r).asu = s.asu ∧ (s.loseOffer r).slu.statusSlot = s.slu.statusSlot ∧
    (s.loseOffer r).slu.displayZero = s.slu.displayZero ∧
    (s.loseOffer r).slu.displayOne = s.slu.displayOne ∧ (s.loseOffer r).slu.lineA = s.slu.lineA ∧
    (s.loseOffer r).slu.lineB = s.slu.lineB ∧
    (s.loseOffer r).slu.neighbourWindows = s.slu.neighbourWindows ∧
    (s.loseOffer r).slu.panelWindows = s.slu.panelWindows ∧
    (s.loseOffer r).slu.panelSilence = s.slu.panelSilence ∧
    (s.loseOffer r).hou.neighbours = s.hou.neighbours ∧ (s.loseOffer r).hou.lastId = s.hou.lastId ∧
    (s.loseOffer r).hou.grants = s.hou.grants ∧
    (s.loseOffer r).hou.statusPeriod = s.hou.statusPeriod ∧
    (s.loseOffer r).hou.statusPacing = s.hou.statusPacing ∧
    (s.loseOffer r).hou.statusChange = s.hou.statusChange ∧ (s.loseOffer r).cmu = s.cmu ∧
    (s.loseOffer r).sld = s.sld := by
  unfold State.loseOffer
  repeat' split
  all_goals simp

@[simp] theorem State.confirmOffers_keeps (s : State) (qs : List (Fin 8 × Offer)) :
    (s.confirmOffers qs).pending = s.pending ∧ (s.confirmOffers qs).ticks = s.ticks ∧
    (s.confirmOffers qs).pins = s.pins ∧ (s.confirmOffers qs).config = s.config ∧
    (s.confirmOffers qs).fsu = s.fsu ∧ (s.confirmOffers qs).acu = s.acu ∧
    (s.confirmOffers qs).pcu = s.pcu ∧ (s.confirmOffers qs).lku = s.lku ∧
    (s.confirmOffers qs).asu = s.asu ∧ (s.confirmOffers qs).rtp = s.rtp ∧
    (s.confirmOffers qs).slu = s.slu ∧ (s.confirmOffers qs).hou.neighbours = s.hou.neighbours ∧
    (s.confirmOffers qs).hou.lastId = s.hou.lastId ∧
    (s.confirmOffers qs).hou.portions = s.hou.portions ∧
    (s.confirmOffers qs).hou.grants = s.hou.grants ∧
    (s.confirmOffers qs).hou.statusPeriod = s.hou.statusPeriod ∧
    (s.confirmOffers qs).hou.statusPacing = s.hou.statusPacing ∧
    (s.confirmOffers qs).hou.statusChange = s.hou.statusChange ∧ (s.confirmOffers qs).cmu = s.cmu ∧
    (s.confirmOffers qs).sld = s.sld := by
  unfold State.confirmOffers
  induction qs generalizing s with
  | nil => simp
  | cons x xs ih =>
    simp only [State.forEach_cons, ih]
    all_goals simp

@[simp] theorem State.removeOffers_keeps (s : State) (qs : List (Fin 8 × Offer)) :
    (s.removeOffers qs).pending = s.pending ∧ (s.removeOffers qs).ticks = s.ticks ∧
    (s.removeOffers qs).pins = s.pins ∧ (s.removeOffers qs).config = s.config ∧
    (s.removeOffers qs).fsu = s.fsu ∧ (s.removeOffers qs).acu = s.acu ∧
    (s.removeOffers qs).pcu = s.pcu ∧ (s.removeOffers qs).lku.sections = s.lku.sections ∧
    (s.removeOffers qs).lku.points = s.lku.points ∧
    (s.removeOffers qs).lku.signals = s.lku.signals ∧ (s.removeOffers qs).asu = s.asu ∧
    (s.removeOffers qs).rtp = s.rtp ∧ (s.removeOffers qs).slu = s.slu ∧
    (s.removeOffers qs).hou.neighbours = s.hou.neighbours ∧
    (s.removeOffers qs).hou.lastId = s.hou.lastId ∧
    (s.removeOffers qs).hou.portions = s.hou.portions ∧
    (s.removeOffers qs).hou.grants = s.hou.grants ∧
    (s.removeOffers qs).hou.statusPeriod = s.hou.statusPeriod ∧
    (s.removeOffers qs).hou.statusPacing = s.hou.statusPacing ∧
    (s.removeOffers qs).hou.statusChange = s.hou.statusChange ∧ (s.removeOffers qs).cmu = s.cmu ∧
    (s.removeOffers qs).sld = s.sld := by
  unfold State.removeOffers
  induction qs generalizing s with
  | nil => simp
  | cons x xs ih =>
    simp only [State.forEach_cons, ih]
    all_goals simp

@[simp] theorem State.loseOffers_keeps (s : State) (qs : List (Fin 8 × Offer)) :
    (s.loseOffers qs).pending = s.pending ∧ (s.loseOffers qs).ticks = s.ticks ∧
    (s.loseOffers qs).pins = s.pins ∧ (s.loseOffers qs).config = s.config ∧
    (s.loseOffers qs).fsu = s.fsu ∧ (s.loseOffers qs).acu = s.acu ∧ (s.loseOffers qs).pcu = s.pcu ∧
    (s.loseOffers qs).asu = s.asu ∧ (s.loseOffers qs).slu.statusSlot = s.slu.statusSlot ∧
    (s.loseOffers qs).slu.displayZero = s.slu.displayZero ∧
    (s.loseOffers qs).slu.displayOne = s.slu.displayOne ∧
    (s.loseOffers qs).slu.lineA = s.slu.lineA ∧ (s.loseOffers qs).slu.lineB = s.slu.lineB ∧
    (s.loseOffers qs).slu.neighbourWindows = s.slu.neighbourWindows ∧
    (s.loseOffers qs).slu.panelWindows = s.slu.panelWindows ∧
    (s.loseOffers qs).slu.panelSilence = s.slu.panelSilence ∧
    (s.loseOffers qs).hou.neighbours = s.hou.neighbours ∧
    (s.loseOffers qs).hou.lastId = s.hou.lastId ∧ (s.loseOffers qs).hou.grants = s.hou.grants ∧
    (s.loseOffers qs).hou.statusPeriod = s.hou.statusPeriod ∧
    (s.loseOffers qs).hou.statusPacing = s.hou.statusPacing ∧
    (s.loseOffers qs).hou.statusChange = s.hou.statusChange ∧ (s.loseOffers qs).cmu = s.cmu ∧
    (s.loseOffers qs).sld = s.sld := by
  unfold State.loseOffers
  induction qs generalizing s with
  | nil => simp
  | cons x xs ih =>
    simp only [State.forEach_cons, ih]
    all_goals simp

@[simp] theorem State.reconcileOffers_keeps (s : State) (n : Fin 4) (c : StatusContent) :
    (s.reconcileOffers n c).pending = s.pending ∧ (s.reconcileOffers n c).ticks = s.ticks ∧
    (s.reconcileOffers n c).pins = s.pins ∧ (s.reconcileOffers n c).config = s.config ∧
    (s.reconcileOffers n c).fsu = s.fsu ∧ (s.reconcileOffers n c).acu = s.acu ∧
    (s.reconcileOffers n c).pcu = s.pcu ∧ (s.reconcileOffers n c).asu = s.asu ∧
    (s.reconcileOffers n c).slu.statusSlot = s.slu.statusSlot ∧
    (s.reconcileOffers n c).slu.displayZero = s.slu.displayZero ∧
    (s.reconcileOffers n c).slu.displayOne = s.slu.displayOne ∧
    (s.reconcileOffers n c).slu.lineA = s.slu.lineA ∧
    (s.reconcileOffers n c).slu.lineB = s.slu.lineB ∧
    (s.reconcileOffers n c).slu.neighbourWindows = s.slu.neighbourWindows ∧
    (s.reconcileOffers n c).slu.panelWindows = s.slu.panelWindows ∧
    (s.reconcileOffers n c).slu.panelSilence = s.slu.panelSilence ∧
    (s.reconcileOffers n c).hou.neighbours = s.hou.neighbours ∧
    (s.reconcileOffers n c).hou.lastId = s.hou.lastId ∧
    (s.reconcileOffers n c).hou.grants = s.hou.grants ∧
    (s.reconcileOffers n c).hou.statusPeriod = s.hou.statusPeriod ∧
    (s.reconcileOffers n c).hou.statusPacing = s.hou.statusPacing ∧
    (s.reconcileOffers n c).hou.statusChange = s.hou.statusChange ∧
    (s.reconcileOffers n c).cmu.queue = s.cmu.queue ∧
    (s.reconcileOffers n c).cmu.pendingReset = s.cmu.pendingReset ∧
    (s.reconcileOffers n c).cmu.displayPeriod = s.cmu.displayPeriod ∧
    (s.reconcileOffers n c).cmu.pageZero = s.cmu.pageZero ∧
    (s.reconcileOffers n c).cmu.pageOne = s.cmu.pageOne ∧ (s.reconcileOffers n c).sld = s.sld := by
  simp [State.reconcileOffers]

@[simp] theorem State.settlePortion_keeps (s : State) (n : Fin 4) (c : StatusContent) (p : Fin 16) :
    (s.settlePortion n c p).pending = s.pending ∧ (s.settlePortion n c p).ticks = s.ticks ∧
    (s.settlePortion n c p).pins = s.pins ∧ (s.settlePortion n c p).config = s.config ∧
    (s.settlePortion n c p).fsu = s.fsu ∧ (s.settlePortion n c p).acu = s.acu ∧
    (s.settlePortion n c p).pcu = s.pcu ∧ (s.settlePortion n c p).asu = s.asu ∧
    (s.settlePortion n c p).rtp = s.rtp ∧ (s.settlePortion n c p).slu = s.slu ∧
    (s.settlePortion n c p).hou.neighbours = s.hou.neighbours ∧
    (s.settlePortion n c p).hou.offers = s.hou.offers ∧
    (s.settlePortion n c p).hou.lastId = s.hou.lastId ∧
    (s.settlePortion n c p).hou.grants = s.hou.grants ∧
    (s.settlePortion n c p).hou.statusPeriod = s.hou.statusPeriod ∧
    (s.settlePortion n c p).hou.statusPacing = s.hou.statusPacing ∧
    (s.settlePortion n c p).hou.statusChange = s.hou.statusChange ∧
    (s.settlePortion n c p).cmu = s.cmu ∧ (s.settlePortion n c p).sld = s.sld := by
  simp only [State.settlePortion]
  repeat' split
  all_goals simp

@[simp] theorem State.settlePortions_keeps (s : State) (n : Fin 4) (c : StatusContent) (ps
    : List (Fin 16)) :
    (s.settlePortions n c ps).pending = s.pending ∧ (s.settlePortions n c ps).ticks = s.ticks ∧
    (s.settlePortions n c ps).pins = s.pins ∧ (s.settlePortions n c ps).config = s.config ∧
    (s.settlePortions n c ps).fsu = s.fsu ∧ (s.settlePortions n c ps).acu = s.acu ∧
    (s.settlePortions n c ps).pcu = s.pcu ∧ (s.settlePortions n c ps).asu = s.asu ∧
    (s.settlePortions n c ps).rtp = s.rtp ∧ (s.settlePortions n c ps).slu = s.slu ∧
    (s.settlePortions n c ps).hou.neighbours = s.hou.neighbours ∧
    (s.settlePortions n c ps).hou.offers = s.hou.offers ∧
    (s.settlePortions n c ps).hou.lastId = s.hou.lastId ∧
    (s.settlePortions n c ps).hou.grants = s.hou.grants ∧
    (s.settlePortions n c ps).hou.statusPeriod = s.hou.statusPeriod ∧
    (s.settlePortions n c ps).hou.statusPacing = s.hou.statusPacing ∧
    (s.settlePortions n c ps).hou.statusChange = s.hou.statusChange ∧
    (s.settlePortions n c ps).cmu = s.cmu ∧ (s.settlePortions n c ps).sld = s.sld := by
  unfold State.settlePortions
  induction ps generalizing s with
  | nil => simp
  | cons x xs ih =>
    simp only [State.forEach_cons, ih]
    all_goals simp

@[simp] theorem State.settleGrant_keeps (s : State) (n : Fin 4) (c : StatusContent) (k : Fin 8) :
    (s.settleGrant n c k).pending = s.pending ∧ (s.settleGrant n c k).ticks = s.ticks ∧
    (s.settleGrant n c k).pins = s.pins ∧ (s.settleGrant n c k).config = s.config ∧
    (s.settleGrant n c k).fsu = s.fsu ∧ (s.settleGrant n c k).acu = s.acu ∧
    (s.settleGrant n c k).pcu = s.pcu ∧ (s.settleGrant n c k).lku.sections = s.lku.sections ∧
    (s.settleGrant n c k).lku.routes = s.lku.routes ∧ (s.settleGrant n c k).asu = s.asu ∧
    (s.settleGrant n c k).rtp = s.rtp ∧ (s.settleGrant n c k).slu = s.slu ∧
    (s.settleGrant n c k).hou.neighbours = s.hou.neighbours ∧
    (s.settleGrant n c k).hou.offers = s.hou.offers ∧
    (s.settleGrant n c k).hou.lastId = s.hou.lastId ∧
    (s.settleGrant n c k).hou.portions = s.hou.portions ∧
    (s.settleGrant n c k).hou.statusPeriod = s.hou.statusPeriod ∧
    (s.settleGrant n c k).hou.statusPacing = s.hou.statusPacing ∧
    (s.settleGrant n c k).hou.statusChange = s.hou.statusChange ∧
    (s.settleGrant n c k).cmu = s.cmu ∧ (s.settleGrant n c k).sld = s.sld := by
  unfold State.settleGrant
  repeat' split
  all_goals simp

@[simp] theorem State.settleGrants_keeps (s : State) (n : Fin 4) (c : StatusContent) (ks : List
    (Fin 8)) :
    (s.settleGrants n c ks).pending = s.pending ∧ (s.settleGrants n c ks).ticks = s.ticks ∧
    (s.settleGrants n c ks).pins = s.pins ∧ (s.settleGrants n c ks).config = s.config ∧
    (s.settleGrants n c ks).fsu = s.fsu ∧ (s.settleGrants n c ks).acu = s.acu ∧
    (s.settleGrants n c ks).pcu = s.pcu ∧ (s.settleGrants n c ks).lku.sections = s.lku.sections ∧
    (s.settleGrants n c ks).lku.routes = s.lku.routes ∧ (s.settleGrants n c ks).asu = s.asu ∧
    (s.settleGrants n c ks).rtp = s.rtp ∧ (s.settleGrants n c ks).slu = s.slu ∧
    (s.settleGrants n c ks).hou.neighbours = s.hou.neighbours ∧
    (s.settleGrants n c ks).hou.offers = s.hou.offers ∧
    (s.settleGrants n c ks).hou.lastId = s.hou.lastId ∧
    (s.settleGrants n c ks).hou.portions = s.hou.portions ∧
    (s.settleGrants n c ks).hou.statusPeriod = s.hou.statusPeriod ∧
    (s.settleGrants n c ks).hou.statusPacing = s.hou.statusPacing ∧
    (s.settleGrants n c ks).hou.statusChange = s.hou.statusChange ∧
    (s.settleGrants n c ks).cmu = s.cmu ∧ (s.settleGrants n c ks).sld = s.sld := by
  unfold State.settleGrants
  induction ks generalizing s with
  | nil => simp
  | cons x xs ih =>
    simp only [State.forEach_cons, ih]
    all_goals simp

@[simp] theorem State.reconcileHosted_keeps (s : State) (n : Fin 4) (c : StatusContent) :
    (s.reconcileHosted n c).pending = s.pending ∧ (s.reconcileHosted n c).ticks = s.ticks ∧
    (s.reconcileHosted n c).pins = s.pins ∧ (s.reconcileHosted n c).config = s.config ∧
    (s.reconcileHosted n c).fsu = s.fsu ∧ (s.reconcileHosted n c).acu = s.acu ∧
    (s.reconcileHosted n c).pcu = s.pcu ∧ (s.reconcileHosted n c).asu = s.asu ∧
    (s.reconcileHosted n c).rtp = s.rtp ∧ (s.reconcileHosted n c).slu = s.slu ∧
    (s.reconcileHosted n c).hou.neighbours = s.hou.neighbours ∧
    (s.reconcileHosted n c).hou.offers = s.hou.offers ∧
    (s.reconcileHosted n c).hou.lastId = s.hou.lastId ∧
    (s.reconcileHosted n c).hou.statusPeriod = s.hou.statusPeriod ∧
    (s.reconcileHosted n c).hou.statusPacing = s.hou.statusPacing ∧
    (s.reconcileHosted n c).hou.statusChange = s.hou.statusChange ∧
    (s.reconcileHosted n c).cmu = s.cmu ∧ (s.reconcileHosted n c).sld = s.sld := by
  simp [State.reconcileHosted]

@[simp] theorem State.toNeighbourAll_keeps (s : State) (n : Fin 4) (ps : List Payload) :
    (s.toNeighbourAll n ps).pending = s.pending ∧ (s.toNeighbourAll n ps).ticks = s.ticks ∧
    (s.toNeighbourAll n ps).pins = s.pins ∧ (s.toNeighbourAll n ps).config = s.config ∧
    (s.toNeighbourAll n ps).fsu = s.fsu ∧ (s.toNeighbourAll n ps).acu = s.acu ∧
    (s.toNeighbourAll n ps).pcu = s.pcu ∧ (s.toNeighbourAll n ps).lku = s.lku ∧
    (s.toNeighbourAll n ps).asu = s.asu ∧ (s.toNeighbourAll n ps).rtp = s.rtp ∧
    (s.toNeighbourAll n ps).slu.statusSlot = s.slu.statusSlot ∧
    (s.toNeighbourAll n ps).slu.displayZero = s.slu.displayZero ∧
    (s.toNeighbourAll n ps).slu.displayOne = s.slu.displayOne ∧
    (s.toNeighbourAll n ps).slu.lineA = s.slu.lineA ∧
    (s.toNeighbourAll n ps).slu.lineB = s.slu.lineB ∧
    (s.toNeighbourAll n ps).slu.neighbourWindows = s.slu.neighbourWindows ∧
    (s.toNeighbourAll n ps).slu.panelWindows = s.slu.panelWindows ∧
    (s.toNeighbourAll n ps).slu.panelSilence = s.slu.panelSilence ∧
    (s.toNeighbourAll n ps).hou = s.hou ∧ (s.toNeighbourAll n ps).cmu = s.cmu ∧
    (s.toNeighbourAll n ps).sld = s.sld := by
  unfold State.toNeighbourAll
  induction ps generalizing s with
  | nil => simp
  | cons x xs ih =>
    simp only [State.forEach_cons, ih]
    all_goals simp

@[simp] theorem State.answerStray_keeps (s : State) (n : Fin 4) (c : StatusContent) :
    (s.answerStray n c).pending = s.pending ∧ (s.answerStray n c).ticks = s.ticks ∧
    (s.answerStray n c).pins = s.pins ∧ (s.answerStray n c).config = s.config ∧
    (s.answerStray n c).fsu = s.fsu ∧ (s.answerStray n c).acu = s.acu ∧
    (s.answerStray n c).pcu = s.pcu ∧ (s.answerStray n c).lku = s.lku ∧
    (s.answerStray n c).asu = s.asu ∧ (s.answerStray n c).rtp = s.rtp ∧
    (s.answerStray n c).slu.statusSlot = s.slu.statusSlot ∧
    (s.answerStray n c).slu.displayZero = s.slu.displayZero ∧
    (s.answerStray n c).slu.displayOne = s.slu.displayOne ∧
    (s.answerStray n c).slu.lineA = s.slu.lineA ∧ (s.answerStray n c).slu.lineB = s.slu.lineB ∧
    (s.answerStray n c).slu.neighbourWindows = s.slu.neighbourWindows ∧
    (s.answerStray n c).slu.panelWindows = s.slu.panelWindows ∧
    (s.answerStray n c).slu.panelSilence = s.slu.panelSilence ∧ (s.answerStray n c).hou = s.hou ∧
    (s.answerStray n c).cmu = s.cmu ∧ (s.answerStray n c).sld = s.sld := by
  simp [State.answerStray]

@[simp] theorem State.hearStatus_keeps (s : State) (n : Fin 4) (cfg : NeighbourCfg) (c
    : StatusContent) :
    (s.hearStatus n cfg c).pending = s.pending ∧ (s.hearStatus n cfg c).ticks = s.ticks ∧
    (s.hearStatus n cfg c).pins = s.pins ∧ (s.hearStatus n cfg c).config = s.config ∧
    (s.hearStatus n cfg c).fsu = s.fsu ∧ (s.hearStatus n cfg c).acu.heads = s.acu.heads ∧
    (s.hearStatus n cfg c).pcu = s.pcu ∧ (s.hearStatus n cfg c).asu = s.asu ∧
    (s.hearStatus n cfg c).slu.statusSlot = s.slu.statusSlot ∧
    (s.hearStatus n cfg c).slu.displayZero = s.slu.displayZero ∧
    (s.hearStatus n cfg c).slu.displayOne = s.slu.displayOne ∧
    (s.hearStatus n cfg c).slu.lineA = s.slu.lineA ∧
    (s.hearStatus n cfg c).slu.lineB = s.slu.lineB ∧
    (s.hearStatus n cfg c).slu.neighbourWindows = s.slu.neighbourWindows ∧
    (s.hearStatus n cfg c).slu.panelWindows = s.slu.panelWindows ∧
    (s.hearStatus n cfg c).slu.panelSilence = s.slu.panelSilence ∧
    (s.hearStatus n cfg c).hou.lastId = s.hou.lastId ∧
    (s.hearStatus n cfg c).hou.statusPeriod = s.hou.statusPeriod ∧
    (s.hearStatus n cfg c).hou.statusPacing = s.hou.statusPacing ∧
    (s.hearStatus n cfg c).hou.statusChange = s.hou.statusChange ∧
    (s.hearStatus n cfg c).cmu.queue = s.cmu.queue ∧
    (s.hearStatus n cfg c).cmu.pendingReset = s.cmu.pendingReset ∧
    (s.hearStatus n cfg c).cmu.displayPeriod = s.cmu.displayPeriod ∧
    (s.hearStatus n cfg c).cmu.pageZero = s.cmu.pageZero ∧
    (s.hearStatus n cfg c).cmu.pageOne = s.cmu.pageOne ∧ (s.hearStatus n cfg c).sld = s.sld := by
  simp only [State.hearStatus]
  repeat' split
  all_goals simp

@[simp] theorem State.takeStatus_keeps (s : State) (n : Fin 4) (c : StatusContent) :
    (s.takeStatus n c).pending = s.pending ∧ (s.takeStatus n c).ticks = s.ticks ∧
    (s.takeStatus n c).pins = s.pins ∧ (s.takeStatus n c).config = s.config ∧
    (s.takeStatus n c).fsu = s.fsu ∧ (s.takeStatus n c).acu.heads = s.acu.heads ∧
    (s.takeStatus n c).pcu = s.pcu ∧ (s.takeStatus n c).asu = s.asu ∧
    (s.takeStatus n c).slu.statusSlot = s.slu.statusSlot ∧
    (s.takeStatus n c).slu.displayZero = s.slu.displayZero ∧
    (s.takeStatus n c).slu.displayOne = s.slu.displayOne ∧
    (s.takeStatus n c).slu.lineA = s.slu.lineA ∧ (s.takeStatus n c).slu.lineB = s.slu.lineB ∧
    (s.takeStatus n c).slu.panelSilence = s.slu.panelSilence ∧
    (s.takeStatus n c).hou.lastId = s.hou.lastId ∧
    (s.takeStatus n c).hou.statusPeriod = s.hou.statusPeriod ∧
    (s.takeStatus n c).hou.statusPacing = s.hou.statusPacing ∧
    (s.takeStatus n c).hou.statusChange = s.hou.statusChange ∧
    (s.takeStatus n c).cmu.queue = s.cmu.queue ∧
    (s.takeStatus n c).cmu.pendingReset = s.cmu.pendingReset ∧
    (s.takeStatus n c).cmu.displayPeriod = s.cmu.displayPeriod ∧
    (s.takeStatus n c).cmu.pageZero = s.cmu.pageZero ∧
    (s.takeStatus n c).cmu.pageOne = s.cmu.pageOne ∧ (s.takeStatus n c).sld = s.sld := by
  unfold State.takeStatus
  repeat' split
  all_goals simp

end Sys2Proof.Machine
end

