-- ==== Sys2Proof/Laws/Commands.lean ====
section
/-! SUPPORT. What the work of each panel command leaves as it was. -/

namespace Sys2Proof.Machine

open Sys2Proof

@[simp] theorem State.placeResult_keeps (s : State) (c : QueuedCommand) (x : Option Reason) :
    (s.placeResult c x).pending = s.pending ∧ (s.placeResult c x).ticks = s.ticks ∧
    (s.placeResult c x).pins = s.pins ∧ (s.placeResult c x).config = s.config ∧
    (s.placeResult c x).fsu = s.fsu ∧ (s.placeResult c x).acu = s.acu ∧
    (s.placeResult c x).pcu = s.pcu ∧ (s.placeResult c x).lku = s.lku ∧
    (s.placeResult c x).asu = s.asu ∧ (s.placeResult c x).rtp = s.rtp ∧
    (s.placeResult c x).slu.statusSlot = s.slu.statusSlot ∧
    (s.placeResult c x).slu.displayZero = s.slu.displayZero ∧
    (s.placeResult c x).slu.displayOne = s.slu.displayOne ∧
    (s.placeResult c x).slu.lineA = s.slu.lineA ∧ (s.placeResult c x).slu.lineB = s.slu.lineB ∧
    (s.placeResult c x).slu.neighbourWindows = s.slu.neighbourWindows ∧
    (s.placeResult c x).slu.panelWindows = s.slu.panelWindows ∧
    (s.placeResult c x).slu.panelSilence = s.slu.panelSilence ∧ (s.placeResult c x).hou = s.hou ∧
    (s.placeResult c x).cmu = s.cmu ∧ (s.placeResult c x).sld = s.sld := by
  simp [State.placeResult]

@[simp] theorem State.arrive_keeps (s : State) (c : QueuedCommand) :
    (s.arrive c).pending = s.pending ∧ (s.arrive c).ticks = s.ticks ∧ (s.arrive c).pins = s.pins ∧
    (s.arrive c).config = s.config ∧ (s.arrive c).fsu = s.fsu ∧ (s.arrive c).acu = s.acu ∧
    (s.arrive c).pcu = s.pcu ∧ (s.arrive c).lku = s.lku ∧ (s.arrive c).asu = s.asu ∧
    (s.arrive c).rtp = s.rtp ∧ (s.arrive c).slu.statusSlot = s.slu.statusSlot ∧
    (s.arrive c).slu.displayZero = s.slu.displayZero ∧
    (s.arrive c).slu.displayOne = s.slu.displayOne ∧ (s.arrive c).slu.lineA = s.slu.lineA ∧
    (s.arrive c).slu.lineB = s.slu.lineB ∧
    (s.arrive c).slu.neighbourWindows = s.slu.neighbourWindows ∧
    (s.arrive c).slu.panelWindows = s.slu.panelWindows ∧
    (s.arrive c).slu.panelSilence = s.slu.panelSilence ∧ (s.arrive c).hou = s.hou ∧
    (s.arrive c).cmu.pendingReset = s.cmu.pendingReset ∧ (s.arrive c).cmu.faults = s.cmu.faults ∧
    (s.arrive c).cmu.displayPeriod = s.cmu.displayPeriod ∧
    (s.arrive c).cmu.pageZero = s.cmu.pageZero ∧ (s.arrive c).cmu.pageOne = s.cmu.pageOne ∧
    (s.arrive c).sld = s.sld := by
  unfold State.arrive
  repeat' split
  all_goals simp

@[simp] theorem State.setPendingReset_keeps (s : State) (r : Option PendingReset) :
    (s.setPendingReset r).pending = s.pending ∧ (s.setPendingReset r).ticks = s.ticks ∧
    (s.setPendingReset r).pins = s.pins ∧ (s.setPendingReset r).config = s.config ∧
    (s.setPendingReset r).fsu = s.fsu ∧ (s.setPendingReset r).acu = s.acu ∧
    (s.setPendingReset r).pcu = s.pcu ∧ (s.setPendingReset r).lku = s.lku ∧
    (s.setPendingReset r).asu = s.asu ∧ (s.setPendingReset r).rtp = s.rtp ∧
    (s.setPendingReset r).slu = s.slu ∧ (s.setPendingReset r).hou = s.hou ∧
    (s.setPendingReset r).cmu.queue = s.cmu.queue ∧
    (s.setPendingReset r).cmu.faults = s.cmu.faults ∧
    (s.setPendingReset r).cmu.displayPeriod = s.cmu.displayPeriod ∧
    (s.setPendingReset r).cmu.pageZero = s.cmu.pageZero ∧
    (s.setPendingReset r).cmu.pageOne = s.cmu.pageOne ∧ (s.setPendingReset r).sld = s.sld := by
  simp [State.setPendingReset]

@[simp] theorem State.executeReset_keeps (s : State) (k : Fin 32) (c : SectionCfg) :
    (s.executeReset k c).pending = s.pending ∧ (s.executeReset k c).ticks = s.ticks ∧
    (s.executeReset k c).pins = s.pins ∧ (s.executeReset k c).config = s.config ∧
    (s.executeReset k c).fsu = s.fsu ∧ (s.executeReset k c).acu.heads = s.acu.heads ∧
    (s.executeReset k c).acu.baselines = s.acu.baselines ∧ (s.executeReset k c).pcu = s.pcu ∧
    (s.executeReset k c).lku = s.lku ∧ (s.executeReset k c).asu = s.asu ∧
    (s.executeReset k c).rtp = s.rtp ∧ (s.executeReset k c).slu.statusSlot = s.slu.statusSlot ∧
    (s.executeReset k c).slu.displayZero = s.slu.displayZero ∧
    (s.executeReset k c).slu.displayOne = s.slu.displayOne ∧
    (s.executeReset k c).slu.lineA = s.slu.lineA ∧ (s.executeReset k c).slu.lineB = s.slu.lineB ∧
    (s.executeReset k c).slu.neighbourWindows = s.slu.neighbourWindows ∧
    (s.executeReset k c).slu.panelWindows = s.slu.panelWindows ∧
    (s.executeReset k c).slu.panelSilence = s.slu.panelSilence ∧ (s.executeReset k c).hou = s.hou ∧
    (s.executeReset k c).cmu = s.cmu ∧ (s.executeReset k c).sld = s.sld := by
  simp only [State.executeReset]
  repeat' split
  all_goals simp

@[simp] theorem State.windowExpiry_keeps (s : State) :
    (s.windowExpiry).pending = s.pending ∧ (s.windowExpiry).ticks = s.ticks ∧
    (s.windowExpiry).pins = s.pins ∧ (s.windowExpiry).config = s.config ∧
    (s.windowExpiry).fsu = s.fsu ∧ (s.windowExpiry).acu = s.acu ∧ (s.windowExpiry).pcu = s.pcu ∧
    (s.windowExpiry).lku = s.lku ∧ (s.windowExpiry).asu = s.asu ∧ (s.windowExpiry).rtp = s.rtp ∧
    (s.windowExpiry).slu = s.slu ∧ (s.windowExpiry).hou = s.hou ∧
    (s.windowExpiry).cmu.queue = s.cmu.queue ∧ (s.windowExpiry).cmu.faults = s.cmu.faults ∧
    (s.windowExpiry).cmu.displayPeriod = s.cmu.displayPeriod ∧
    (s.windowExpiry).cmu.pageZero = s.cmu.pageZero ∧ (s.windowExpiry).cmu.pageOne = s.cmu.pageOne ∧
    (s.windowExpiry).sld = s.sld := by
  unfold State.windowExpiry
  repeat' split
  all_goals simp

@[simp] theorem State.faultRemoved_keeps (s : State) (x : FaultKind) (e : Byte) :
    (s.faultRemoved x e).pending = s.pending ∧ (s.faultRemoved x e).ticks = s.ticks ∧
    (s.faultRemoved x e).pins = s.pins ∧ (s.faultRemoved x e).config = s.config ∧
    (s.faultRemoved x e).fsu = s.fsu ∧ (s.faultRemoved x e).acu.sections = s.acu.sections ∧
    (s.faultRemoved x e).acu.baselines = s.acu.baselines ∧ (s.faultRemoved x e).pcu = s.pcu ∧
    (s.faultRemoved x e).lku = s.lku ∧ (s.faultRemoved x e).asu = s.asu ∧
    (s.faultRemoved x e).rtp = s.rtp ∧ (s.faultRemoved x e).slu = s.slu ∧
    (s.faultRemoved x e).hou = s.hou ∧ (s.faultRemoved x e).cmu = s.cmu ∧
    (s.faultRemoved x e).sld = s.sld := by
  unfold State.faultRemoved
  repeat' split
  all_goals simp

/-- What a successful setting event of a route leaves as it was (R81). -/
theorem State.setRoute_keeps (s t : State) (r : Fin 64) (c : RouteCfg)
    (h : s.setRoute r c = .ok t) :
    (t).pending = s.pending ∧ (t).ticks = s.ticks ∧ (t).pins = s.pins ∧ (t).config = s.config ∧
    (t).fsu = s.fsu ∧ (t).acu = s.acu ∧ (t).asu = s.asu ∧ (t).slu.statusSlot = s.slu.statusSlot ∧
    (t).slu.displayZero = s.slu.displayZero ∧ (t).slu.displayOne = s.slu.displayOne ∧
    (t).slu.lineA = s.slu.lineA ∧ (t).slu.lineB = s.slu.lineB ∧
    (t).slu.neighbourWindows = s.slu.neighbourWindows ∧ (t).slu.panelWindows = s.slu.panelWindows ∧
    (t).slu.panelSilence = s.slu.panelSilence ∧ (t).hou.neighbours = s.hou.neighbours ∧
    (t).hou.grants = s.hou.grants ∧ (t).hou.statusPeriod = s.hou.statusPeriod ∧
    (t).hou.statusPacing = s.hou.statusPacing ∧ (t).hou.statusChange = s.hou.statusChange ∧
    (t).cmu.queue = s.cmu.queue ∧ (t).cmu.pendingReset = s.cmu.pendingReset ∧
    (t).cmu.displayPeriod = s.cmu.displayPeriod ∧ (t).cmu.pageZero = s.cmu.pageZero ∧
    (t).cmu.pageOne = s.cmu.pageOne ∧ (t).sld = s.sld := by
  unfold State.setRoute at h
  split at h
  · cases h
  · cases h
    simp

@[simp] theorem workSetRoute_keeps (s : State) (c : QueuedCommand) :
    ((workSetRoute s c).1).pending = s.pending ∧ ((workSetRoute s c).1).ticks = s.ticks ∧
    ((workSetRoute s c).1).pins = s.pins ∧ ((workSetRoute s c).1).config = s.config ∧
    ((workSetRoute s c).1).fsu = s.fsu ∧ ((workSetRoute s c).1).acu = s.acu ∧
    ((workSetRoute s c).1).asu = s.asu ∧ ((workSetRoute s c).1).slu.statusSlot = s.slu.statusSlot ∧
    ((workSetRoute s c).1).slu.displayZero = s.slu.displayZero ∧
    ((workSetRoute s c).1).slu.displayOne = s.slu.displayOne ∧
    ((workSetRoute s c).1).slu.lineA = s.slu.lineA ∧
    ((workSetRoute s c).1).slu.lineB = s.slu.lineB ∧
    ((workSetRoute s c).1).slu.neighbourWindows = s.slu.neighbourWindows ∧
    ((workSetRoute s c).1).slu.panelWindows = s.slu.panelWindows ∧
    ((workSetRoute s c).1).slu.panelSilence = s.slu.panelSilence ∧
    ((workSetRoute s c).1).hou.neighbours = s.hou.neighbours ∧
    ((workSetRoute s c).1).hou.grants = s.hou.grants ∧
    ((workSetRoute s c).1).hou.statusPeriod = s.hou.statusPeriod ∧
    ((workSetRoute s c).1).hou.statusPacing = s.hou.statusPacing ∧
    ((workSetRoute s c).1).hou.statusChange = s.hou.statusChange ∧
    ((workSetRoute s c).1).cmu.queue = s.cmu.queue ∧
    ((workSetRoute s c).1).cmu.pendingReset = s.cmu.pendingReset ∧
    ((workSetRoute s c).1).cmu.displayPeriod = s.cmu.displayPeriod ∧
    ((workSetRoute s c).1).cmu.pageZero = s.cmu.pageZero ∧
    ((workSetRoute s c).1).cmu.pageOne = s.cmu.pageOne ∧ ((workSetRoute s c).1).sld = s.sld := by
  unfold workSetRoute orElse
  repeat' split
  all_goals try simp
  next h => exact State.setRoute_keeps _ _ _ _ h

@[simp] theorem workCancelRoute_keeps (s : State) (c : QueuedCommand) :
    ((workCancelRoute s c).1).pending = s.pending ∧ ((workCancelRoute s c).1).ticks = s.ticks ∧
    ((workCancelRoute s c).1).pins = s.pins ∧ ((workCancelRoute s c).1).config = s.config ∧
    ((workCancelRoute s c).1).fsu = s.fsu ∧ ((workCancelRoute s c).1).acu = s.acu ∧
    ((workCancelRoute s c).1).pcu = s.pcu ∧ ((workCancelRoute s c).1).asu = s.asu ∧
    ((workCancelRoute s c).1).slu.statusSlot = s.slu.statusSlot ∧
    ((workCancelRoute s c).1).slu.displayZero = s.slu.displayZero ∧
    ((workCancelRoute s c).1).slu.displayOne = s.slu.displayOne ∧
    ((workCancelRoute s c).1).slu.lineA = s.slu.lineA ∧
    ((workCancelRoute s c).1).slu.lineB = s.slu.lineB ∧
    ((workCancelRoute s c).1).slu.neighbourWindows = s.slu.neighbourWindows ∧
    ((workCancelRoute s c).1).slu.panelWindows = s.slu.panelWindows ∧
    ((workCancelRoute s c).1).slu.panelSilence = s.slu.panelSilence ∧
    ((workCancelRoute s c).1).hou.neighbours = s.hou.neighbours ∧
    ((workCancelRoute s c).1).hou.lastId = s.hou.lastId ∧
    ((workCancelRoute s c).1).hou.grants = s.hou.grants ∧
    ((workCancelRoute s c).1).hou.statusPeriod = s.hou.statusPeriod ∧
    ((workCancelRoute s c).1).hou.statusPacing = s.hou.statusPacing ∧
    ((workCancelRoute s c).1).hou.statusChange = s.hou.statusChange ∧
    ((workCancelRoute s c).1).cmu = s.cmu ∧ ((workCancelRoute s c).1).sld = s.sld := by
  unfold workCancelRoute
  repeat' split
  all_goals simp

@[simp] theorem workMovePoint_keeps (s : State) (c : QueuedCommand) :
    ((workMovePoint s c).1).pending = s.pending ∧ ((workMovePoint s c).1).ticks = s.ticks ∧
    ((workMovePoint s c).1).pins = s.pins ∧ ((workMovePoint s c).1).config = s.config ∧
    ((workMovePoint s c).1).fsu = s.fsu ∧ ((workMovePoint s c).1).acu = s.acu ∧
    ((workMovePoint s c).1).lku = s.lku ∧ ((workMovePoint s c).1).asu = s.asu ∧
    ((workMovePoint s c).1).rtp = s.rtp ∧ ((workMovePoint s c).1).slu = s.slu ∧
    ((workMovePoint s c).1).hou = s.hou ∧ ((workMovePoint s c).1).cmu = s.cmu ∧
    ((workMovePoint s c).1).sld = s.sld := by
  unfold workMovePoint
  repeat' split
  all_goals simp

/-- What the setting of a block flag leaves as it was (R162). -/
theorem State.setBlock_keeps (s t : State) (kind : ElementKind) (e : Byte) (on : Bool)
    (h : s.setBlock kind e on = some t) :
    (t).pending = s.pending ∧ (t).ticks = s.ticks ∧ (t).pins = s.pins ∧ (t).config = s.config ∧
    (t).fsu = s.fsu ∧ (t).acu = s.acu ∧ (t).pcu = s.pcu ∧ (t).lku.routes = s.lku.routes ∧
    (t).asu = s.asu ∧ (t).rtp = s.rtp ∧ (t).slu = s.slu ∧ (t).hou = s.hou ∧ (t).cmu = s.cmu ∧
    (t).sld = s.sld := by
  unfold State.setBlock at h
  split at h <;> (obtain ⟨q, -, rfl⟩ := Option.map_eq_some_iff.mp h; simp)

@[simp] theorem workBlock_keeps (s : State) (c : QueuedCommand) :
    ((workBlock s c).1).pending = s.pending ∧ ((workBlock s c).1).ticks = s.ticks ∧
    ((workBlock s c).1).pins = s.pins ∧ ((workBlock s c).1).config = s.config ∧
    ((workBlock s c).1).fsu = s.fsu ∧ ((workBlock s c).1).acu = s.acu ∧
    ((workBlock s c).1).pcu = s.pcu ∧ ((workBlock s c).1).lku.routes = s.lku.routes ∧
    ((workBlock s c).1).asu = s.asu ∧ ((workBlock s c).1).rtp = s.rtp ∧
    ((workBlock s c).1).slu = s.slu ∧ ((workBlock s c).1).hou = s.hou ∧
    ((workBlock s c).1).cmu = s.cmu ∧ ((workBlock s c).1).sld = s.sld := by
  unfold workBlock
  repeat' split
  all_goals try simp
  next h => exact State.setBlock_keeps _ _ _ _ _ h

@[simp] theorem workResetSection_keeps (s : State) (c : QueuedCommand) :
    ((workResetSection s c).1).pending = s.pending ∧ ((workResetSection s c).1).ticks = s.ticks ∧
    ((workResetSection s c).1).pins = s.pins ∧ ((workResetSection s c).1).config = s.config ∧
    ((workResetSection s c).1).fsu = s.fsu ∧ ((workResetSection s c).1).acu = s.acu ∧
    ((workResetSection s c).1).pcu = s.pcu ∧ ((workResetSection s c).1).lku = s.lku ∧
    ((workResetSection s c).1).asu = s.asu ∧ ((workResetSection s c).1).rtp = s.rtp ∧
    ((workResetSection s c).1).slu = s.slu ∧ ((workResetSection s c).1).hou = s.hou ∧
    ((workResetSection s c).1).cmu.queue = s.cmu.queue ∧
    ((workResetSection s c).1).cmu.faults = s.cmu.faults ∧
    ((workResetSection s c).1).cmu.displayPeriod = s.cmu.displayPeriod ∧
    ((workResetSection s c).1).cmu.pageZero = s.cmu.pageZero ∧
    ((workResetSection s c).1).cmu.pageOne = s.cmu.pageOne ∧
    ((workResetSection s c).1).sld = s.sld := by
  unfold workResetSection
  repeat' split
  all_goals simp

@[simp] theorem workConfirmReset_keeps (s : State) (c : QueuedCommand) :
    ((workConfirmReset s c).1).pending = s.pending ∧ ((workConfirmReset s c).1).ticks = s.ticks ∧
    ((workConfirmReset s c).1).pins = s.pins ∧ ((workConfirmReset s c).1).config = s.config ∧
    ((workConfirmReset s c).1).fsu = s.fsu ∧ ((workConfirmReset s c).1).acu.heads = s.acu.heads ∧
    ((workConfirmReset s c).1).acu.baselines = s.acu.baselines ∧
    ((workConfirmReset s c).1).pcu = s.pcu ∧ ((workConfirmReset s c).1).lku = s.lku ∧
    ((workConfirmReset s c).1).asu = s.asu ∧ ((workConfirmReset s c).1).rtp = s.rtp ∧
    ((workConfirmReset s c).1).slu.statusSlot = s.slu.statusSlot ∧
    ((workConfirmReset s c).1).slu.displayZero = s.slu.displayZero ∧
    ((workConfirmReset s c).1).slu.displayOne = s.slu.displayOne ∧
    ((workConfirmReset s c).1).slu.lineA = s.slu.lineA ∧
    ((workConfirmReset s c).1).slu.lineB = s.slu.lineB ∧
    ((workConfirmReset s c).1).slu.neighbourWindows = s.slu.neighbourWindows ∧
    ((workConfirmReset s c).1).slu.panelWindows = s.slu.panelWindows ∧
    ((workConfirmReset s c).1).slu.panelSilence = s.slu.panelSilence ∧
    ((workConfirmReset s c).1).hou = s.hou ∧ ((workConfirmReset s c).1).cmu.queue = s.cmu.queue ∧
    ((workConfirmReset s c).1).cmu.faults = s.cmu.faults ∧
    ((workConfirmReset s c).1).cmu.displayPeriod = s.cmu.displayPeriod ∧
    ((workConfirmReset s c).1).cmu.pageZero = s.cmu.pageZero ∧
    ((workConfirmReset s c).1).cmu.pageOne = s.cmu.pageOne ∧
    ((workConfirmReset s c).1).sld = s.sld := by
  simp only [workConfirmReset]
  repeat' split
  all_goals simp

@[simp] theorem workClearNeighbourBlock_keeps (s : State) (c : QueuedCommand) :
    ((workClearNeighbourBlock s c).1).pending = s.pending ∧
    ((workClearNeighbourBlock s c).1).ticks = s.ticks ∧
    ((workClearNeighbourBlock s c).1).pins = s.pins ∧
    ((workClearNeighbourBlock s c).1).config = s.config ∧
    ((workClearNeighbourBlock s c).1).fsu = s.fsu ∧ ((workClearNeighbourBlock s c).1).acu = s.acu ∧
    ((workClearNeighbourBlock s c).1).pcu = s.pcu ∧ ((workClearNeighbourBlock s c).1).lku = s.lku ∧
    ((workClearNeighbourBlock s c).1).asu = s.asu ∧ ((workClearNeighbourBlock s c).1).rtp = s.rtp ∧
    ((workClearNeighbourBlock s c).1).slu = s.slu ∧
    ((workClearNeighbourBlock s c).1).hou.offers = s.hou.offers ∧
    ((workClearNeighbourBlock s c).1).hou.lastId = s.hou.lastId ∧
    ((workClearNeighbourBlock s c).1).hou.portions = s.hou.portions ∧
    ((workClearNeighbourBlock s c).1).hou.grants = s.hou.grants ∧
    ((workClearNeighbourBlock s c).1).hou.statusPeriod = s.hou.statusPeriod ∧
    ((workClearNeighbourBlock s c).1).hou.statusPacing = s.hou.statusPacing ∧
    ((workClearNeighbourBlock s c).1).hou.statusChange = s.hou.statusChange ∧
    ((workClearNeighbourBlock s c).1).cmu.queue = s.cmu.queue ∧
    ((workClearNeighbourBlock s c).1).cmu.pendingReset = s.cmu.pendingReset ∧
    ((workClearNeighbourBlock s c).1).cmu.displayPeriod = s.cmu.displayPeriod ∧
    ((workClearNeighbourBlock s c).1).cmu.pageZero = s.cmu.pageZero ∧
    ((workClearNeighbourBlock s c).1).cmu.pageOne = s.cmu.pageOne ∧
    ((workClearNeighbourBlock s c).1).sld = s.sld := by
  unfold workClearNeighbourBlock
  repeat' split
  all_goals simp

@[simp] theorem workClearFault_keeps (s : State) (c : QueuedCommand) :
    ((workClearFault s c).1).pending = s.pending ∧ ((workClearFault s c).1).ticks = s.ticks ∧
    ((workClearFault s c).1).pins = s.pins ∧ ((workClearFault s c).1).config = s.config ∧
    ((workClearFault s c).1).fsu = s.fsu ∧ ((workClearFault s c).1).acu.sections = s.acu.sections ∧
    ((workClearFault s c).1).acu.baselines = s.acu.baselines ∧
    ((workClearFault s c).1).pcu = s.pcu ∧ ((workClearFault s c).1).lku = s.lku ∧
    ((workClearFault s c).1).asu = s.asu ∧ ((workClearFault s c).1).rtp = s.rtp ∧
    ((workClearFault s c).1).slu = s.slu ∧ ((workClearFault s c).1).hou = s.hou ∧
    ((workClearFault s c).1).cmu.queue = s.cmu.queue ∧
    ((workClearFault s c).1).cmu.pendingReset = s.cmu.pendingReset ∧
    ((workClearFault s c).1).cmu.displayPeriod = s.cmu.displayPeriod ∧
    ((workClearFault s c).1).cmu.pageZero = s.cmu.pageZero ∧
    ((workClearFault s c).1).cmu.pageOne = s.cmu.pageOne ∧
    ((workClearFault s c).1).sld = s.sld := by
  unfold workClearFault
  repeat' split
  all_goals simp

@[simp] theorem workUnknownCommand_keeps (s : State) (c : QueuedCommand) :
    ((workUnknownCommand s c).1).pending = s.pending ∧
    ((workUnknownCommand s c).1).ticks = s.ticks ∧ ((workUnknownCommand s c).1).pins = s.pins ∧
    ((workUnknownCommand s c).1).config = s.config ∧ ((workUnknownCommand s c).1).fsu = s.fsu ∧
    ((workUnknownCommand s c).1).acu = s.acu ∧ ((workUnknownCommand s c).1).pcu = s.pcu ∧
    ((workUnknownCommand s c).1).lku = s.lku ∧ ((workUnknownCommand s c).1).asu = s.asu ∧
    ((workUnknownCommand s c).1).rtp = s.rtp ∧ ((workUnknownCommand s c).1).slu = s.slu ∧
    ((workUnknownCommand s c).1).hou = s.hou ∧ ((workUnknownCommand s c).1).cmu = s.cmu ∧
    ((workUnknownCommand s c).1).sld = s.sld := by
  simp [workUnknownCommand]

end Sys2Proof.Machine
end

