-- ==== Sys2Proof/Laws/Counts.lean ====
section
/-! SUPPORT. What counting a held-flank set in or out does to every count, and where a telegram to a
neighbour stands. -/

namespace Sys2Proof.Machine

open Sys2Proof

@[simp] theorem PointLock.claims_updClaims (l : PointLock) (p q : Position) (f : Nat → Nat) :
    (l.updClaims p f).claims q = if p = q then f (l.claims q) else l.claims q := by
  cases p <;> cases q <;> rfl

theorem State.updPointLock_claims (s : State) (x : Fin 16 × Position) (f : Nat → Nat) (p : Fin 16)
    (q : Position) :
    ((s.updPointLock x.1 fun l => l.updClaims x.2 f).lku.points[p]).claims q =
      if x = (p, q) then f ((s.lku.points[p]).claims q) else (s.lku.points[p]).claims q := by
  rw [State.updPointLock_points, upd_get]
  obtain ⟨a, b⟩ := x
  by_cases h : a = p
  · simp [h]
  · simp [h]

/-- Every claim count after points of a list without repeats are counted. -/
theorem State.countPoints_claims (s : State) (f : Nat → Nat) (ps : List (Fin 16 × Position))
    (h : ps.Nodup) (p : Fin 16) (q : Position) :
    ((s.countPoints f ps).lku.points[p]).claims q =
      if (p, q) ∈ ps then f ((s.lku.points[p]).claims q) else (s.lku.points[p]).claims q := by
  unfold State.countPoints
  induction ps generalizing s with
  | nil => simp
  | cons x xs ih =>
    rw [State.forEach_cons, ih _ h.of_cons, State.updPointLock_claims]
    by_cases e : x = (p, q)
    · subst e
      simp [h.notMem]
    · simp [e, Ne.symm e]

/-- Every hold count after signals of a list without repeats are counted. -/
theorem State.countSignals_holds (s : State) (f : Nat → Nat) (gs : List (Fin 16)) (h : gs.Nodup)
    (g : Fin 16) :
    ((s.countSignals f gs).lku.signals[g]).holds =
      if g ∈ gs then f (s.lku.signals[g]).holds else (s.lku.signals[g]).holds := by
  unfold State.countSignals
  induction gs generalizing s with
  | nil => simp
  | cons x xs ih =>
    rw [State.forEach_cons, ih _ h.of_cons, State.updSignalLock_signals, upd_get]
    by_cases e : x = g
    · subst e
      simp [h.notMem]
    · simp [e, Ne.symm e]

theorem mem_flankElements (cfg : ZoneConfig) (items : List FlankItem) (x : FlankElement) :
    x ∈ flankElements cfg items ↔ NamesElement cfg (items.map (·.entry)) x := by
  simp [flankElements, NamesElement]

theorem mem_flankPoints (cfg : ZoneConfig) (items : List FlankItem) (p : Fin 16) (q : Position) :
    (p, q) ∈ flankPoints cfg items ↔ NamesElement cfg (items.map (·.entry)) (.point p q) := by
  rw [← mem_flankElements]
  unfold flankPoints
  rw [List.mem_filterMap]
  constructor
  · rintro ⟨x, hx, e⟩
    split at e
    · cases e
      exact hx
    · cases e
  · exact fun h => ⟨_, h, rfl⟩

theorem mem_flankSignals (cfg : ZoneConfig) (items : List FlankItem) (g : Fin 16) :
    g ∈ flankSignals cfg items ↔ NamesElement cfg (items.map (·.entry)) (.signal g) := by
  rw [← mem_flankElements]
  unfold flankSignals
  rw [List.mem_filterMap]
  constructor
  · rintro ⟨x, hx, e⟩
    split at e
    · cases e
      exact hx
    · cases e
  · exact fun h => ⟨_, h, rfl⟩

theorem nodup_flankPoints (cfg : ZoneConfig) (items : List FlankItem) :
    (flankPoints cfg items).Nodup := by
  refine List.Nodup.filterMap ?_ (nodup_distinct _)
  intro a b c ha hb
  cases a <;> cases b <;> simp_all
  exact Prod.mk.inj (ha.trans hb.symm)

theorem nodup_flankSignals (cfg : ZoneConfig) (items : List FlankItem) :
    (flankSignals cfg items).Nodup := by
  refine List.Nodup.filterMap ?_ (nodup_distinct _)
  intro a b c ha hb
  cases a <;> cases b <;> simp_all

/-- Every claim and hold count after a set is counted: each element the set names once (R71). -/
theorem State.countFlank_counts (s : State) (f : Nat → Nat) (items : List FlankItem) :
    (∀ (p : Fin 16) (q : Position), ((s.countFlank f items).lku.points[p]).claims q =
      if NamesElement s.config (items.map (·.entry)) (.point p q) then
        f ((s.lku.points[p]).claims q) else (s.lku.points[p]).claims q) ∧
    ∀ g : Fin 16, ((s.countFlank f items).lku.signals[g]).holds =
      if NamesElement s.config (items.map (·.entry)) (.signal g) then
        f (s.lku.signals[g]).holds else (s.lku.signals[g]).holds := by
  refine ⟨fun p q => ?_, fun g => ?_⟩
  · simp only [← mem_flankPoints]
    rw [State.countFlank, (State.countSignals_keeps _ _ _).2.2.2.2.2.2.2.2.1,
      State.countPoints_claims _ _ _ (nodup_flankPoints _ _)]
  · simp only [← mem_flankSignals]
    rw [State.countFlank, State.countSignals_holds _ _ _ (nodup_flankSignals _ _),
      (State.countPoints_keeps _ _ _).2.2.2.2.2.2.2.2.1]

theorem State.claimFlank_added (s : State) (items : List FlankItem) :
    FlankAdded (items.map (·.entry)) s (s.claimFlank items) := by
  have h := s.countFlank_counts (· + 1) items
  refine ⟨fun p q => (h.1 p q).trans ?_, fun g => (h.2 g).trans ?_⟩ <;> split <;> rfl

theorem State.releaseFlank_removed (s : State) (items : List FlankItem) :
    FlankRemoved (items.map (·.entry)) s (s.releaseFlank items) := by
  have h := s.countFlank_counts (· - 1) items
  refine ⟨fun p q => (h.1 p q).trans ?_, fun g => (h.2 g).trans ?_⟩ <;> split <;> rfl

/-- A telegram to a neighbour stands at the tail of the class-1 queue, or was dropped (R134). -/
theorem State.toNeighbour_queued (s : State) (n : Fin 4) (p : Payload) :
    Queued s (s.toNeighbour n p) (addressed s.config n p) := by
  unfold State.toNeighbour addressed
  split
  · next h => exact ⟨[], by simp [h]⟩
  · next c h =>
    unfold State.placeClassOne
    split
    · next full => exact ⟨[], by simp [h, Nat.sub_eq_zero_of_le full]⟩
    · next room =>
      obtain ⟨k, e⟩ : ∃ k, 16 - s.slu.classOne.length = k + 1 :=
        ⟨15 - s.slu.classOne.length, by omega⟩
      refine ⟨[s.nextItem c.address c.code p], rfl, by simp [h, e]; exact ⟨rfl, rfl⟩, ?_⟩
      intro i x hx
      cases i with
      | zero => cases hx; exact (BitVec.add_zero _).symm
      | succ i => simp at hx

end Sys2Proof.Machine
end

