-- ==== Sys2Proof/Laws/FaultSet.lean ====
section
/-! SUPPORT. What is in a fault set after a condition is set or removed, and the lamp of a signal
record after another is rewritten. -/

namespace Sys2Proof.Machine

open Sys2Proof

@[simp] theorem mem_setCondition (c d : Condition) (l : List Condition) :
    d ∈ setCondition c l ↔ d = c ∨ d ∈ l := by
  induction l with
  | nil => simp [setCondition]
  | cons x xs ih =>
    unfold setCondition
    split
    · next h => subst h; simp
    · split
      · simp
      · simp only [List.mem_cons, ih]
        tauto

@[simp] theorem mem_clearCondition (c d : Condition) (l : List Condition) :
    d ∈ clearCondition c l ↔ d ∈ l ∧ d ≠ c := by
  simp [clearCondition]

@[simp] theorem mem_putCondition (c d : Condition) (v : Bool) (l : List Condition) :
    d ∈ putCondition c v l ↔ if v then d = c ∨ d ∈ l else d ∈ l ∧ d ≠ c := by
  unfold putCondition
  split <;> simp

/-- The record of a lamp after that of a lamp of the same signal is rewritten. -/
theorem SignalRec.lamp_updLamp (r : SignalRec) (l m : Lamp) (f : LampRec → LampRec) :
    (r.updLamp l f).lamp m = if l = m then f (r.lamp m) else r.lamp m := by
  cases l <;> cases m <;> simp [SignalRec.updLamp, SignalRec.lamp]

@[simp] theorem SignalRec.updLamp_presented (r : SignalRec) (l : Lamp) (f : LampRec → LampRec) :
    (r.updLamp l f).presented = r.presented := by
  cases l <;> rfl

end Sys2Proof.Machine
end

