-- ==== Sys2Proof/Laws/Finish.lean ====
section
/-! SUPPORT. What follows within every event leaves as it was: the consequences at the lamps, the
proven states and the telegrams that changes of content place. -/

namespace Sys2Proof.Machine

open Sys2Proof

@[simp] theorem State.putFailed_keeps (s : State) (g : Fin 16) (l : Lamp) (v : Bool) :
    (s.putFailed g l v).pending = s.pending ∧ (s.putFailed g l v).ticks = s.ticks ∧
    (s.putFailed g l v).pins = s.pins ∧ (s.putFailed g l v).config = s.config ∧
    (s.putFailed g l v).fsu = s.fsu ∧ (s.putFailed g l v).acu = s.acu ∧
    (s.putFailed g l v).pcu = s.pcu ∧ (s.putFailed g l v).lku = s.lku ∧
    (s.putFailed g l v).rtp = s.rtp ∧ (s.putFailed g l v).slu = s.slu ∧
    (s.putFailed g l v).hou = s.hou ∧ (s.putFailed g l v).cmu.queue = s.cmu.queue ∧
    (s.putFailed g l v).cmu.pendingReset = s.cmu.pendingReset ∧
    (s.putFailed g l v).cmu.displayPeriod = s.cmu.displayPeriod ∧
    (s.putFailed g l v).cmu.pageZero = s.cmu.pageZero ∧
    (s.putFailed g l v).cmu.pageOne = s.cmu.pageOne ∧ (s.putFailed g l v).sld = s.sld := by
  simp [State.putFailed]

@[simp] theorem State.putStray_keeps (s : State) (g : Fin 16) (l : Lamp) (v : Bool) :
    (s.putStray g l v).pending = s.pending ∧ (s.putStray g l v).ticks = s.ticks ∧
    (s.putStray g l v).pins = s.pins ∧ (s.putStray g l v).config = s.config ∧
    (s.putStray g l v).fsu = s.fsu ∧ (s.putStray g l v).acu = s.acu ∧
    (s.putStray g l v).pcu = s.pcu ∧ (s.putStray g l v).lku = s.lku ∧
    (s.putStray g l v).rtp = s.rtp ∧ (s.putStray g l v).slu = s.slu ∧
    (s.putStray g l v).hou = s.hou ∧ (s.putStray g l v).cmu.queue = s.cmu.queue ∧
    (s.putStray g l v).cmu.pendingReset = s.cmu.pendingReset ∧
    (s.putStray g l v).cmu.displayPeriod = s.cmu.displayPeriod ∧
    (s.putStray g l v).cmu.pageZero = s.cmu.pageZero ∧
    (s.putStray g l v).cmu.pageOne = s.cmu.pageOne ∧ (s.putStray g l v).sld = s.sld := by
  simp [State.putStray]

@[simp] theorem State.clearLamps_keeps (s : State) (g : Fin 16) (ls : List Lamp) :
    (s.clearLamps g ls).pending = s.pending ∧ (s.clearLamps g ls).ticks = s.ticks ∧
    (s.clearLamps g ls).pins = s.pins ∧ (s.clearLamps g ls).config = s.config ∧
    (s.clearLamps g ls).fsu = s.fsu ∧ (s.clearLamps g ls).acu = s.acu ∧
    (s.clearLamps g ls).pcu = s.pcu ∧ (s.clearLamps g ls).lku = s.lku ∧
    (s.clearLamps g ls).rtp = s.rtp ∧ (s.clearLamps g ls).slu = s.slu ∧
    (s.clearLamps g ls).hou = s.hou ∧ (s.clearLamps g ls).cmu.queue = s.cmu.queue ∧
    (s.clearLamps g ls).cmu.pendingReset = s.cmu.pendingReset ∧
    (s.clearLamps g ls).cmu.displayPeriod = s.cmu.displayPeriod ∧
    (s.clearLamps g ls).cmu.pageZero = s.cmu.pageZero ∧
    (s.clearLamps g ls).cmu.pageOne = s.cmu.pageOne ∧ (s.clearLamps g ls).sld = s.sld := by
  unfold State.clearLamps
  induction ls generalizing s with
  | nil => simp
  | cons x xs ih =>
    simp only [State.forEach_cons, ih]
    all_goals simp

@[simp] theorem State.clearFlags_keeps (s : State) (gs : List (Fin 16)) (ls : List Lamp) :
    (s.clearFlags gs ls).pending = s.pending ∧ (s.clearFlags gs ls).ticks = s.ticks ∧
    (s.clearFlags gs ls).pins = s.pins ∧ (s.clearFlags gs ls).config = s.config ∧
    (s.clearFlags gs ls).fsu = s.fsu ∧ (s.clearFlags gs ls).acu = s.acu ∧
    (s.clearFlags gs ls).pcu = s.pcu ∧ (s.clearFlags gs ls).lku = s.lku ∧
    (s.clearFlags gs ls).rtp = s.rtp ∧ (s.clearFlags gs ls).slu = s.slu ∧
    (s.clearFlags gs ls).hou = s.hou ∧ (s.clearFlags gs ls).cmu.queue = s.cmu.queue ∧
    (s.clearFlags gs ls).cmu.pendingReset = s.cmu.pendingReset ∧
    (s.clearFlags gs ls).cmu.displayPeriod = s.cmu.displayPeriod ∧
    (s.clearFlags gs ls).cmu.pageZero = s.cmu.pageZero ∧
    (s.clearFlags gs ls).cmu.pageOne = s.cmu.pageOne ∧ (s.clearFlags gs ls).sld = s.sld := by
  unfold State.clearFlags
  induction gs generalizing s with
  | nil => simp
  | cons x xs ih =>
    simp only [State.forEach_cons, ih]
    all_goals simp

@[simp] theorem State.clearAspectLamps_keeps (b s : State) :
    (b.clearAspectLamps s).pending = s.pending ∧ (b.clearAspectLamps s).ticks = s.ticks ∧
    (b.clearAspectLamps s).pins = s.pins ∧ (b.clearAspectLamps s).config = s.config ∧
    (b.clearAspectLamps s).fsu = s.fsu ∧ (b.clearAspectLamps s).acu = s.acu ∧
    (b.clearAspectLamps s).pcu = s.pcu ∧ (b.clearAspectLamps s).lku = s.lku ∧
    (b.clearAspectLamps s).rtp = s.rtp ∧ (b.clearAspectLamps s).slu = s.slu ∧
    (b.clearAspectLamps s).hou = s.hou ∧ (b.clearAspectLamps s).cmu.queue = s.cmu.queue ∧
    (b.clearAspectLamps s).cmu.pendingReset = s.cmu.pendingReset ∧
    (b.clearAspectLamps s).cmu.displayPeriod = s.cmu.displayPeriod ∧
    (b.clearAspectLamps s).cmu.pageZero = s.cmu.pageZero ∧
    (b.clearAspectLamps s).cmu.pageOne = s.cmu.pageOne ∧ (b.clearAspectLamps s).sld = s.sld := by
  simp [State.clearAspectLamps]

@[simp] theorem State.clearRedLamps_keeps (b s : State) :
    (b.clearRedLamps s).pending = s.pending ∧ (b.clearRedLamps s).ticks = s.ticks ∧
    (b.clearRedLamps s).pins = s.pins ∧ (b.clearRedLamps s).config = s.config ∧
    (b.clearRedLamps s).fsu = s.fsu ∧ (b.clearRedLamps s).acu = s.acu ∧
    (b.clearRedLamps s).pcu = s.pcu ∧ (b.clearRedLamps s).lku = s.lku ∧
    (b.clearRedLamps s).rtp = s.rtp ∧ (b.clearRedLamps s).slu = s.slu ∧
    (b.clearRedLamps s).hou = s.hou ∧ (b.clearRedLamps s).cmu.queue = s.cmu.queue ∧
    (b.clearRedLamps s).cmu.pendingReset = s.cmu.pendingReset ∧
    (b.clearRedLamps s).cmu.displayPeriod = s.cmu.displayPeriod ∧
    (b.clearRedLamps s).cmu.pageZero = s.cmu.pageZero ∧
    (b.clearRedLamps s).cmu.pageOne = s.cmu.pageOne ∧ (b.clearRedLamps s).sld = s.sld := by
  simp [State.clearRedLamps]

@[simp] theorem State.followLamps_keeps (b s : State) :
    (b.followLamps s).pending = s.pending ∧ (b.followLamps s).ticks = s.ticks ∧
    (b.followLamps s).pins = s.pins ∧ (b.followLamps s).config = s.config ∧
    (b.followLamps s).fsu = s.fsu ∧ (b.followLamps s).acu = s.acu ∧ (b.followLamps s).pcu = s.pcu ∧
    (b.followLamps s).lku = s.lku ∧ (b.followLamps s).rtp = s.rtp ∧ (b.followLamps s).slu = s.slu ∧
    (b.followLamps s).hou = s.hou ∧ (b.followLamps s).cmu = s.cmu ∧
    (b.followLamps s).sld = s.sld := by
  simp [State.followLamps]

@[simp] theorem State.refreshOutputs_keeps (s : State) :
    (s.refreshOutputs).pending = s.pending ∧ (s.refreshOutputs).ticks = s.ticks ∧
    (s.refreshOutputs).pins = s.pins ∧ (s.refreshOutputs).config = s.config ∧
    (s.refreshOutputs).fsu.sensors = s.fsu.sensors ∧
    (s.refreshOutputs).fsu.contacts = s.fsu.contacts ∧
    (s.refreshOutputs).fsu.onHalf = s.fsu.onHalf ∧ (s.refreshOutputs).acu = s.acu ∧
    (s.refreshOutputs).pcu = s.pcu ∧ (s.refreshOutputs).lku = s.lku ∧
    (s.refreshOutputs).asu = s.asu ∧ (s.refreshOutputs).rtp = s.rtp ∧
    (s.refreshOutputs).slu = s.slu ∧ (s.refreshOutputs).hou = s.hou ∧
    (s.refreshOutputs).cmu = s.cmu ∧ (s.refreshOutputs).sld = s.sld := by
  simp [State.refreshOutputs]

@[simp] theorem State.keepShown_keeps (s : State) :
    (s.keepShown).pending = s.pending ∧ (s.keepShown).ticks = s.ticks ∧
    (s.keepShown).pins = s.pins ∧ (s.keepShown).config = s.config ∧
    (s.keepShown).fsu = s.fsu ∧ (s.keepShown).acu = s.acu ∧ (s.keepShown).pcu = s.pcu ∧
    (s.keepShown).lku = s.lku ∧ (s.keepShown).rtp = s.rtp ∧ (s.keepShown).slu = s.slu ∧
    (s.keepShown).hou = s.hou ∧ (s.keepShown).cmu = s.cmu ∧ (s.keepShown).sld = s.sld := by
  simp [State.keepShown]

@[simp] theorem State.followReds_keeps (b s : State) :
    (b.followReds s).pending = s.pending ∧ (b.followReds s).ticks = s.ticks ∧
    (b.followReds s).pins = s.pins ∧ (b.followReds s).config = s.config ∧
    (b.followReds s).fsu = s.fsu ∧ (b.followReds s).acu = s.acu ∧ (b.followReds s).pcu = s.pcu ∧
    (b.followReds s).lku = s.lku ∧ (b.followReds s).asu = s.asu ∧ (b.followReds s).rtp = s.rtp ∧
    (b.followReds s).slu = s.slu ∧ (b.followReds s).hou.neighbours = s.hou.neighbours ∧
    (b.followReds s).hou.offers = s.hou.offers ∧ (b.followReds s).hou.lastId = s.hou.lastId ∧
    (b.followReds s).hou.statusPeriod = s.hou.statusPeriod ∧
    (b.followReds s).hou.statusPacing = s.hou.statusPacing ∧
    (b.followReds s).hou.statusChange = s.hou.statusChange ∧ (b.followReds s).cmu = s.cmu ∧
    (b.followReds s).sld = s.sld := by
  simp [State.followReds]

@[simp] theorem State.settleLamps_keeps (b s : State) :
    (b.settleLamps s).pending = s.pending ∧ (b.settleLamps s).ticks = s.ticks ∧
    (b.settleLamps s).pins = s.pins ∧ (b.settleLamps s).config = s.config ∧
    (b.settleLamps s).fsu.sensors = s.fsu.sensors ∧
    (b.settleLamps s).fsu.contacts = s.fsu.contacts ∧ (b.settleLamps s).fsu.onHalf = s.fsu.onHalf ∧
    (b.settleLamps s).acu = s.acu ∧ (b.settleLamps s).pcu = s.pcu ∧ (b.settleLamps s).lku = s.lku ∧
    (b.settleLamps s).rtp = s.rtp ∧ (b.settleLamps s).slu = s.slu ∧ (b.settleLamps s).hou = s.hou ∧
    (b.settleLamps s).cmu.queue = s.cmu.queue ∧
    (b.settleLamps s).cmu.pendingReset = s.cmu.pendingReset ∧
    (b.settleLamps s).cmu.displayPeriod = s.cmu.displayPeriod ∧
    (b.settleLamps s).cmu.pageZero = s.cmu.pageZero ∧
    (b.settleLamps s).cmu.pageOne = s.cmu.pageOne ∧ (b.settleLamps s).sld = s.sld := by
  simp [State.settleLamps]

@[simp] theorem State.settled_keeps (b s : State) :
    (b.settled s).pending = s.pending ∧ (b.settled s).ticks = s.ticks ∧
    (b.settled s).pins = s.pins ∧ (b.settled s).config = s.config ∧
    (b.settled s).fsu.sensors = s.fsu.sensors ∧ (b.settled s).fsu.contacts = s.fsu.contacts ∧
    (b.settled s).fsu.onHalf = s.fsu.onHalf ∧ (b.settled s).acu = s.acu ∧
    (b.settled s).pcu = s.pcu ∧ (b.settled s).lku = s.lku ∧ (b.settled s).rtp = s.rtp ∧
    (b.settled s).slu = s.slu ∧ (b.settled s).hou.neighbours = s.hou.neighbours ∧
    (b.settled s).hou.offers = s.hou.offers ∧ (b.settled s).hou.lastId = s.hou.lastId ∧
    (b.settled s).hou.statusPeriod = s.hou.statusPeriod ∧
    (b.settled s).hou.statusPacing = s.hou.statusPacing ∧
    (b.settled s).hou.statusChange = s.hou.statusChange ∧ (b.settled s).cmu.queue = s.cmu.queue ∧
    (b.settled s).cmu.pendingReset = s.cmu.pendingReset ∧
    (b.settled s).cmu.displayPeriod = s.cmu.displayPeriod ∧
    (b.settled s).cmu.pageZero = s.cmu.pageZero ∧ (b.settled s).cmu.pageOne = s.cmu.pageOne ∧
    (b.settled s).sld = s.sld := by
  simp [State.settled]

@[simp] theorem State.placeStatus_keeps (s : State) :
    (s.placeStatus).pending = s.pending ∧ (s.placeStatus).ticks = s.ticks ∧
    (s.placeStatus).pins = s.pins ∧ (s.placeStatus).config = s.config ∧
    (s.placeStatus).fsu = s.fsu ∧ (s.placeStatus).acu = s.acu ∧ (s.placeStatus).pcu = s.pcu ∧
    (s.placeStatus).lku = s.lku ∧ (s.placeStatus).asu = s.asu ∧ (s.placeStatus).rtp = s.rtp ∧
    (s.placeStatus).slu.classOne = s.slu.classOne ∧
    (s.placeStatus).slu.displayZero = s.slu.displayZero ∧
    (s.placeStatus).slu.displayOne = s.slu.displayOne ∧ (s.placeStatus).slu.lineA = s.slu.lineA ∧
    (s.placeStatus).slu.lineB = s.slu.lineB ∧
    (s.placeStatus).slu.neighbourWindows = s.slu.neighbourWindows ∧
    (s.placeStatus).slu.panelWindows = s.slu.panelWindows ∧
    (s.placeStatus).slu.panelSilence = s.slu.panelSilence ∧
    (s.placeStatus).hou.neighbours = s.hou.neighbours ∧ (s.placeStatus).hou.offers = s.hou.offers ∧
    (s.placeStatus).hou.lastId = s.hou.lastId ∧ (s.placeStatus).hou.portions = s.hou.portions ∧
    (s.placeStatus).hou.grants = s.hou.grants ∧ (s.placeStatus).cmu = s.cmu ∧
    (s.placeStatus).sld = s.sld := by
  simp only [State.placeStatus]
  repeat' split
  all_goals simp

@[simp] theorem State.statusChanged_keeps (s : State) :
    (s.statusChanged).pending = s.pending ∧ (s.statusChanged).ticks = s.ticks ∧
    (s.statusChanged).pins = s.pins ∧ (s.statusChanged).config = s.config ∧
    (s.statusChanged).fsu = s.fsu ∧ (s.statusChanged).acu = s.acu ∧ (s.statusChanged).pcu = s.pcu ∧
    (s.statusChanged).lku = s.lku ∧ (s.statusChanged).asu = s.asu ∧ (s.statusChanged).rtp = s.rtp ∧
    (s.statusChanged).slu.classOne = s.slu.classOne ∧
    (s.statusChanged).slu.displayZero = s.slu.displayZero ∧
    (s.statusChanged).slu.displayOne = s.slu.displayOne ∧
    (s.statusChanged).slu.lineA = s.slu.lineA ∧ (s.statusChanged).slu.lineB = s.slu.lineB ∧
    (s.statusChanged).slu.neighbourWindows = s.slu.neighbourWindows ∧
    (s.statusChanged).slu.panelWindows = s.slu.panelWindows ∧
    (s.statusChanged).slu.panelSilence = s.slu.panelSilence ∧
    (s.statusChanged).hou.neighbours = s.hou.neighbours ∧
    (s.statusChanged).hou.offers = s.hou.offers ∧ (s.statusChanged).hou.lastId = s.hou.lastId ∧
    (s.statusChanged).hou.portions = s.hou.portions ∧ (s.statusChanged).hou.grants = s.hou.grants ∧
    (s.statusChanged).cmu = s.cmu ∧ (s.statusChanged).sld = s.sld := by
  unfold State.statusChanged
  repeat' split
  all_goals simp

@[simp] theorem State.setPageTimes_keeps (s : State) (page : Page) (t : PageTimes) :
    (s.setPageTimes page t).pending = s.pending ∧ (s.setPageTimes page t).ticks = s.ticks ∧
    (s.setPageTimes page t).pins = s.pins ∧ (s.setPageTimes page t).config = s.config ∧
    (s.setPageTimes page t).fsu = s.fsu ∧ (s.setPageTimes page t).acu = s.acu ∧
    (s.setPageTimes page t).pcu = s.pcu ∧ (s.setPageTimes page t).lku = s.lku ∧
    (s.setPageTimes page t).asu = s.asu ∧ (s.setPageTimes page t).rtp = s.rtp ∧
    (s.setPageTimes page t).slu = s.slu ∧ (s.setPageTimes page t).hou = s.hou ∧
    (s.setPageTimes page t).cmu.queue = s.cmu.queue ∧
    (s.setPageTimes page t).cmu.pendingReset = s.cmu.pendingReset ∧
    (s.setPageTimes page t).cmu.faults = s.cmu.faults ∧
    (s.setPageTimes page t).cmu.displayPeriod = s.cmu.displayPeriod ∧
    (s.setPageTimes page t).sld = s.sld := by
  cases page <;> simp [State.setPageTimes]

@[simp] theorem State.placePage_keeps (s : State) (page : Page) :
    (s.placePage page).pending = s.pending ∧ (s.placePage page).ticks = s.ticks ∧
    (s.placePage page).pins = s.pins ∧ (s.placePage page).config = s.config ∧
    (s.placePage page).fsu = s.fsu ∧ (s.placePage page).acu = s.acu ∧
    (s.placePage page).pcu = s.pcu ∧ (s.placePage page).lku = s.lku ∧
    (s.placePage page).asu = s.asu ∧ (s.placePage page).rtp = s.rtp ∧
    (s.placePage page).slu.classOne = s.slu.classOne ∧
    (s.placePage page).slu.statusSlot = s.slu.statusSlot ∧
    (s.placePage page).slu.lineA = s.slu.lineA ∧ (s.placePage page).slu.lineB = s.slu.lineB ∧
    (s.placePage page).slu.neighbourWindows = s.slu.neighbourWindows ∧
    (s.placePage page).slu.panelWindows = s.slu.panelWindows ∧
    (s.placePage page).slu.panelSilence = s.slu.panelSilence ∧ (s.placePage page).hou = s.hou ∧
    (s.placePage page).cmu.queue = s.cmu.queue ∧
    (s.placePage page).cmu.pendingReset = s.cmu.pendingReset ∧
    (s.placePage page).cmu.faults = s.cmu.faults ∧
    (s.placePage page).cmu.displayPeriod = s.cmu.displayPeriod ∧
    (s.placePage page).sld = s.sld := by
  simp [State.placePage]

@[simp] theorem State.pageChanged_keeps (s : State) (page : Page) :
    (s.pageChanged page).pending = s.pending ∧ (s.pageChanged page).ticks = s.ticks ∧
    (s.pageChanged page).pins = s.pins ∧ (s.pageChanged page).config = s.config ∧
    (s.pageChanged page).fsu = s.fsu ∧ (s.pageChanged page).acu = s.acu ∧
    (s.pageChanged page).pcu = s.pcu ∧ (s.pageChanged page).lku = s.lku ∧
    (s.pageChanged page).asu = s.asu ∧ (s.pageChanged page).rtp = s.rtp ∧
    (s.pageChanged page).slu.classOne = s.slu.classOne ∧
    (s.pageChanged page).slu.statusSlot = s.slu.statusSlot ∧
    (s.pageChanged page).slu.lineA = s.slu.lineA ∧ (s.pageChanged page).slu.lineB = s.slu.lineB ∧
    (s.pageChanged page).slu.neighbourWindows = s.slu.neighbourWindows ∧
    (s.pageChanged page).slu.panelWindows = s.slu.panelWindows ∧
    (s.pageChanged page).slu.panelSilence = s.slu.panelSilence ∧ (s.pageChanged page).hou = s.hou ∧
    (s.pageChanged page).cmu.queue = s.cmu.queue ∧
    (s.pageChanged page).cmu.pendingReset = s.cmu.pendingReset ∧
    (s.pageChanged page).cmu.faults = s.cmu.faults ∧
    (s.pageChanged page).cmu.displayPeriod = s.cmu.displayPeriod ∧
    (s.pageChanged page).sld = s.sld := by
  unfold State.pageChanged
  repeat' split
  all_goals simp

@[simp] theorem State.reported_keeps (b s : State) :
    (b.reported s).pending = s.pending ∧ (b.reported s).ticks = s.ticks ∧
    (b.reported s).pins = s.pins ∧ (b.reported s).config = s.config ∧ (b.reported s).fsu = s.fsu ∧
    (b.reported s).acu = s.acu ∧ (b.reported s).pcu = s.pcu ∧ (b.reported s).lku = s.lku ∧
    (b.reported s).asu = s.asu ∧ (b.reported s).rtp = s.rtp ∧
    (b.reported s).slu.classOne = s.slu.classOne ∧ (b.reported s).slu.lineA = s.slu.lineA ∧
    (b.reported s).slu.lineB = s.slu.lineB ∧
    (b.reported s).slu.neighbourWindows = s.slu.neighbourWindows ∧
    (b.reported s).slu.panelWindows = s.slu.panelWindows ∧
    (b.reported s).slu.panelSilence = s.slu.panelSilence ∧
    (b.reported s).hou.neighbours = s.hou.neighbours ∧ (b.reported s).hou.offers = s.hou.offers ∧
    (b.reported s).hou.lastId = s.hou.lastId ∧ (b.reported s).hou.portions = s.hou.portions ∧
    (b.reported s).hou.grants = s.hou.grants ∧ (b.reported s).cmu.queue = s.cmu.queue ∧
    (b.reported s).cmu.pendingReset = s.cmu.pendingReset ∧
    (b.reported s).cmu.faults = s.cmu.faults ∧
    (b.reported s).cmu.displayPeriod = s.cmu.displayPeriod ∧ (b.reported s).sld = s.sld := by
  simp only [State.reported]
  repeat' split
  all_goals simp

@[simp] theorem State.finish_keeps (b s : State) :
    (b.finish s).pending = s.pending ∧ (b.finish s).ticks = s.ticks ∧ (b.finish s).pins = s.pins ∧
    (b.finish s).config = s.config ∧ (b.finish s).fsu.sensors = s.fsu.sensors ∧
    (b.finish s).fsu.contacts = s.fsu.contacts ∧ (b.finish s).fsu.onHalf = s.fsu.onHalf ∧
    (b.finish s).acu = s.acu ∧ (b.finish s).pcu = s.pcu ∧ (b.finish s).lku = s.lku ∧
    (b.finish s).rtp = s.rtp ∧ (b.finish s).slu.classOne = s.slu.classOne ∧
    (b.finish s).slu.lineA = s.slu.lineA ∧ (b.finish s).slu.lineB = s.slu.lineB ∧
    (b.finish s).slu.neighbourWindows = s.slu.neighbourWindows ∧
    (b.finish s).slu.panelWindows = s.slu.panelWindows ∧
    (b.finish s).slu.panelSilence = s.slu.panelSilence ∧
    (b.finish s).hou.neighbours = s.hou.neighbours ∧ (b.finish s).hou.offers = s.hou.offers ∧
    (b.finish s).hou.lastId = s.hou.lastId ∧ (b.finish s).cmu.queue = s.cmu.queue ∧
    (b.finish s).cmu.pendingReset = s.cmu.pendingReset ∧
    (b.finish s).cmu.displayPeriod = s.cmu.displayPeriod ∧ (b.finish s).sld = s.sld := by
  simp [State.finish]

@[simp] theorem State.startDisplay_keeps (s : State) :
    (s.startDisplay).pending = s.pending ∧ (s.startDisplay).ticks = s.ticks ∧
    (s.startDisplay).pins = s.pins ∧ (s.startDisplay).config = s.config ∧
    (s.startDisplay).fsu = s.fsu ∧ (s.startDisplay).acu = s.acu ∧ (s.startDisplay).pcu = s.pcu ∧
    (s.startDisplay).lku = s.lku ∧ (s.startDisplay).asu = s.asu ∧ (s.startDisplay).rtp = s.rtp ∧
    (s.startDisplay).slu = s.slu ∧ (s.startDisplay).hou = s.hou ∧
    (s.startDisplay).cmu.queue = s.cmu.queue ∧
    (s.startDisplay).cmu.pendingReset = s.cmu.pendingReset ∧
    (s.startDisplay).cmu.faults = s.cmu.faults ∧ (s.startDisplay).cmu.pageZero = s.cmu.pageZero ∧
    (s.startDisplay).cmu.pageOne = s.cmu.pageOne ∧ (s.startDisplay).sld = s.sld := by
  simp [State.startDisplay]

@[simp] theorem State.announce_keeps (s : State) :
    (s.announce).pending = s.pending ∧ (s.announce).ticks = s.ticks ∧ (s.announce).pins = s.pins ∧
    (s.announce).config = s.config ∧ (s.announce).fsu = s.fsu ∧ (s.announce).acu = s.acu ∧
    (s.announce).pcu = s.pcu ∧ (s.announce).lku = s.lku ∧ (s.announce).asu = s.asu ∧
    (s.announce).rtp = s.rtp ∧ (s.announce).slu.classOne = s.slu.classOne ∧
    (s.announce).slu.lineA = s.slu.lineA ∧ (s.announce).slu.lineB = s.slu.lineB ∧
    (s.announce).slu.neighbourWindows = s.slu.neighbourWindows ∧
    (s.announce).slu.panelWindows = s.slu.panelWindows ∧
    (s.announce).slu.panelSilence = s.slu.panelSilence ∧
    (s.announce).hou.neighbours = s.hou.neighbours ∧ (s.announce).hou.offers = s.hou.offers ∧
    (s.announce).hou.lastId = s.hou.lastId ∧ (s.announce).hou.portions = s.hou.portions ∧
    (s.announce).hou.grants = s.hou.grants ∧ (s.announce).cmu.queue = s.cmu.queue ∧
    (s.announce).cmu.pendingReset = s.cmu.pendingReset ∧ (s.announce).cmu.faults = s.cmu.faults ∧
    (s.announce).sld = s.sld := by
  simp [State.announce]

end Sys2Proof.Machine
end

