-- ==== Sys2Proof/Laws/Lamps.lean ====
section
/-! SUPPORT. What the clearing of lamp-failed flags, the keeping of the shown aspects and the
following of the proving timers do to each record. -/

namespace Sys2Proof.Machine

open Sys2Proof

@[simp] theorem SignalRec.updLamp_kept (r : SignalRec) (l : Lamp) (f : LampRec → LampRec) :
    (r.updLamp l f).kept = r.kept := by
  cases l <;> rfl

/-- The lamp record of each lamp after one flag is put. -/
theorem State.putFailed_lamp (s : State) (g g' : Fin 16) (l l' : Lamp) (v : Bool) :
    (s.putFailed g l v).lampRec g' l' =
      if g = g' ∧ l = l' then { s.lampRec g' l' with failed := v } else s.lampRec g' l' := by
  simp only [State.putFailed, State.updSignal, State.updFaults, State.lampRec, upd_get]
  by_cases h : g = g'
  · simp only [h, if_true, true_and, SignalRec.lamp_updLamp]
  · simp [h]

theorem State.putFailed_signal (s : State) (g g' : Fin 16) (l : Lamp) (v : Bool) :
    ((s.putFailed g l v).asu.signals[g']).presented = (s.asu.signals[g']).presented ∧
      ((s.putFailed g l v).asu.signals[g']).kept = (s.asu.signals[g']).kept := by
  simp only [State.putFailed, State.updSignal, State.updFaults, upd_get]
  split <;> simp

theorem State.mem_putFailed (s : State) (g : Fin 16) (l : Lamp) (c : Condition) :
    c ∈ (s.putFailed g l false).cmu.faults ↔
      c ∈ s.cmu.faults ∧ c ≠ ⟨.lampFailed, lampElement g l⟩ := by
  simp [State.putFailed, State.updSignal, State.updFaults]

/-- The lamp record of each lamp after the flags of some lamps of a signal are cleared. -/
theorem State.clearLamps_lamp (s : State) (g g' : Fin 16) (ls : List Lamp) (l' : Lamp) :
    (s.clearLamps g ls).lampRec g' l' =
      if g = g' ∧ l' ∈ ls then { s.lampRec g' l' with failed := false } else s.lampRec g' l' := by
  unfold State.clearLamps
  induction ls generalizing s with
  | nil => simp
  | cons x xs ih =>
    rw [State.forEach_cons, ih, State.putFailed_lamp]
    by_cases h : x = l'
    · subst h; by_cases hg : g = g' <;> simp [hg]
    · simp [h, Ne.symm h]

theorem State.clearLamps_signal (s : State) (g g' : Fin 16) (ls : List Lamp) :
    ((s.clearLamps g ls).asu.signals[g']).presented = (s.asu.signals[g']).presented ∧
      ((s.clearLamps g ls).asu.signals[g']).kept = (s.asu.signals[g']).kept := by
  unfold State.clearLamps
  induction ls generalizing s with
  | nil => simp
  | cons x xs ih =>
    rw [State.forEach_cons]
    exact ⟨(ih _).1.trans (s.putFailed_signal g g' x false).1,
      (ih _).2.trans (s.putFailed_signal g g' x false).2⟩

theorem State.mem_clearLamps (s : State) (g : Fin 16) (ls : List Lamp) (c : Condition) :
    c ∈ (s.clearLamps g ls).cmu.faults ↔
      c ∈ s.cmu.faults ∧ ∀ l ∈ ls, c ≠ ⟨.lampFailed, lampElement g l⟩ := by
  unfold State.clearLamps
  induction ls generalizing s with
  | nil => simp
  | cons x xs ih =>
    rw [State.forEach_cons, ih, State.mem_putFailed]
    simp only [List.mem_cons, forall_eq_or_imp]
    tauto

/-- The lamp record of each lamp after the flags of some lamps of some signals are cleared. -/
theorem State.clearFlags_lamp (s : State) (gs : List (Fin 16)) (ls : List Lamp) (g' : Fin 16)
    (l' : Lamp) :
    (s.clearFlags gs ls).lampRec g' l' =
      if g' ∈ gs ∧ l' ∈ ls then { s.lampRec g' l' with failed := false } else s.lampRec g' l' := by
  unfold State.clearFlags
  induction gs generalizing s with
  | nil => simp
  | cons x xs ih =>
    rw [State.forEach_cons, ih, State.clearLamps_lamp]
    by_cases h : x = g'
    · subst h; by_cases hl : l' ∈ ls <;> simp [hl]
    · simp [h, Ne.symm h]

theorem State.clearFlags_signal (s : State) (gs : List (Fin 16)) (ls : List Lamp) (g' : Fin 16) :
    ((s.clearFlags gs ls).asu.signals[g']).presented = (s.asu.signals[g']).presented ∧
      ((s.clearFlags gs ls).asu.signals[g']).kept = (s.asu.signals[g']).kept := by
  unfold State.clearFlags
  induction gs generalizing s with
  | nil => simp
  | cons x xs ih =>
    rw [State.forEach_cons]
    exact ⟨(ih _).1.trans (s.clearLamps_signal x g' ls).1,
      (ih _).2.trans (s.clearLamps_signal x g' ls).2⟩

theorem State.mem_clearFlags (s : State) (gs : List (Fin 16)) (ls : List Lamp) (c : Condition) :
    c ∈ (s.clearFlags gs ls).cmu.faults ↔
      c ∈ s.cmu.faults ∧ ∀ g ∈ gs, ∀ l ∈ ls, c ≠ ⟨.lampFailed, lampElement g l⟩ := by
  unfold State.clearFlags
  induction gs generalizing s with
  | nil => simp
  | cons x xs ih =>
    rw [State.forEach_cons, ih, State.mem_clearLamps]
    simp only [List.mem_cons, forall_eq_or_imp]
    tauto

/-- The record of each lamp after the proving timers have followed the event. -/
theorem State.followLamps_lamp (b s : State) (g : Fin 16) (l : Lamp) :
    (b.followLamps s).lampRec g l = (s.lampRec g l).follow b s g l := by
  cases l <;> simp [State.lampRec, State.followLamps, State.mapSignals, SignalRec.lamp]

theorem State.followLamps_signal (b s : State) (g : Fin 16) :
    ((b.followLamps s).asu.signals[g]).presented = (s.asu.signals[g]).presented ∧
      ((b.followLamps s).asu.signals[g]).kept = (s.asu.signals[g]).kept := by
  simp [State.followLamps, State.mapSignals]

@[simp] theorem State.keepShown_lamp (s : State) (g : Fin 16) (l : Lamp) :
    s.keepShown.lampRec g l = s.lampRec g l := by
  cases l <;> simp [State.lampRec, State.keepShown, State.mapSignals, SignalRec.lamp]

theorem State.keepShown_signal (s : State) (g : Fin 16) :
    (s.keepShown.asu.signals[g]).presented = (s.asu.signals[g]).presented ∧
      (s.keepShown.asu.signals[g]).kept = s.shown g := by
  simp [State.keepShown, State.mapSignals, State.allShown]

end Sys2Proof.Machine
end

