-- ==== Sys2Proof/Laws/Shown.lean ====
section
/-! SUPPORT. The shown aspect as a function of the records it is derived from, and what follows from
that: every event ends with the outputs at their levels, the shown aspects kept, and the proving
timers with their conditions. -/

namespace Sys2Proof.Machine

open Sys2Proof

/-- Two states alike in every record that the shown aspects are derived from (R93 to R97). -/
structure ShownInputs (s t : State) : Prop where
  config : t.config = s.config
  contacts : t.fsu.contacts = s.fsu.contacts
  counts : t.acu.sections = s.acu.sections
  points : t.pcu = s.pcu
  locks : t.lku = s.lku
  neighbours : t.hou.neighbours = s.hou.neighbours
  offers : t.hou.offers = s.hou.offers
  loader : t.sld = s.sld
  presented : ∀ g : Fin 16, (t.asu.signals[g]).presented = (s.asu.signals[g]).presented
  failed : ∀ (g : Fin 16) (l : Lamp), (t.lampRec g l).failed = (s.lampRec g l).failed
  stray : ∀ (g : Fin 16) (l : Lamp), (t.lampRec g l).stray = (s.lampRec g l).stray

variable {s t : State}

theorem ShownInputs.conditionBase (h : ShownInputs s t) (r : Fin 64) (c : RouteCfg) :
    t.conditionBase r c = s.conditionBase r c := by
  have hv : ∀ n, t.viewOf n = s.viewOf n := fun n => by simp [State.viewOf, h.neighbours]
  have hs : ∀ m, t.remoteSignal m = s.remoteSignal m := fun m => by
    simp [State.remoteSignal, h.config, hv]
  have ho : t.isOwn = s.isOwn := by funext a; simp [State.isOwn, h.loader]
  have hp : ∀ o, t.offerProven o = s.offerProven o := fun o => by
    simp [State.offerProven, hv, ho]
  have hk : t.offerStands = s.offerStands := by
    funext k; simp [State.offerStands, h.offers, hp]
  have hl : ∀ g l, t.lit g l = s.lit g l := fun g l => by simp [State.lit, h.contacts]
  have hr : t.redProved = s.redProved := by funext g; simp [State.redProved, hl, h.failed]
  have ha : t.pointsAt = s.pointsAt := by funext ps; simp [State.pointsAt, h.points]
  have he : ∀ e, t.exitSound e = s.exitSound e := fun e => by
    cases e <;> simp [State.exitSound, hs, h.failed]
  have hy : ∀ g : Fin 16,
      (t.asu.signals[g]).yellow.sound = (s.asu.signals[g]).yellow.sound := fun g => by
    have f := h.failed g .yellow; have k := h.stray g .yellow
    simp only [State.lampRec, SignalRec.lamp] at f k
    simp only [LampRec.sound, f, k]
  have hg : ∀ g : Fin 16,
      (t.asu.signals[g]).green.sound = (s.asu.signals[g]).green.sound := fun g => by
    have f := h.failed g .green; have k := h.stray g .green
    simp only [State.lampRec, SignalRec.lamp] at f k
    simp only [LampRec.sound, f, k]
  unfold State.conditionBase
  simp only [h.loader, h.locks, h.config, hk, hr, ha, he, hy, hg]

theorem ShownInputs.commanded (h : ShownInputs s t) (g : Fin 16) :
    t.commanded g = s.commanded g := by
  have hv : ∀ n, t.viewOf n = s.viewOf n := fun n => by simp [State.viewOf, h.neighbours]
  have hs : ∀ m, t.remoteSignal m = s.remoteSignal m := fun m => by
    simp [State.remoteSignal, h.config, hv]
  have hn : ∀ n k, t.neighbourView n k = s.neighbourView n k := fun n k => by
    simp [State.neighbourView, h.config, hv]
  have hp : t.provesFree = s.provesFree := by
    funext k; simp [State.provesFree, State.proves, h.config, h.counts, hn]
  have hc : t.callOnProves = s.callOnProves := by
    funext k; simp [State.callOnProves, h.config, h.counts, hn]
  have hd : ∀ r c, t.cautionCondition r c = s.cautionCondition r c := fun r c => by
    simp [State.cautionCondition, h.conditionBase, hp, h.locks]
  have ho : ∀ r c, t.callOnCondition r c = s.callOnCondition r c := fun r c => by
    simp [State.callOnCondition, h.conditionBase, hc]
  have hf : ∀ g, t.lockedFrom g = s.lockedFrom g := fun g => by
    simp [State.lockedFrom, h.config, h.locks]
  have hx : ∀ e, t.exitPart e = s.exitPart e := fun e => by
    cases e <;> simp [State.exitPart, hf, hd, hs]
  unfold State.commanded
  simp only [hf, hd, ho, hx]

theorem ShownInputs.shown (h : ShownInputs s t) (g : Fin 16)
    (hk : (t.asu.signals[g]).kept = (s.asu.signals[g]).kept) : t.shown g = s.shown g := by
  simp only [State.shown, h.commanded, h.presented, hk]

theorem ShownInputs.refreshOutputs (s : State) : ShownInputs s s.refreshOutputs := by
  constructor <;> simp [State.lampRec]

theorem ShownInputs.followLamps (b s : State) : ShownInputs s (b.followLamps s) := by
  constructor <;> try simp [State.followLamps, State.mapSignals]
  all_goals intro g l; cases l <;> simp [State.lampRec, SignalRec.lamp, LampRec.follow]

theorem ShownInputs.followReds (b s : State) : ShownInputs s (b.followReds s) := by
  constructor <;> simp [State.lampRec]

theorem ShownInputs.reported (b s : State) : ShownInputs s (b.reported s) := by
  constructor <;> simp [State.lampRec]

theorem ShownInputs.keepShown (s : State) : ShownInputs s s.keepShown := by
  constructor <;> simp
  exact fun g => (s.keepShown_signal g).1

theorem ShownInputs.trans {a b c : State} (h : ShownInputs a b) (k : ShownInputs b c) :
    ShownInputs a c where
  config := k.config.trans h.config
  contacts := k.contacts.trans h.contacts
  counts := k.counts.trans h.counts
  points := k.points.trans h.points
  locks := k.locks.trans h.locks
  neighbours := k.neighbours.trans h.neighbours
  offers := k.offers.trans h.offers
  loader := k.loader.trans h.loader
  presented g := (k.presented g).trans (h.presented g)
  failed g l := (k.failed g l).trans (h.failed g l)
  stray g l := (k.stray g l).trans (h.stray g l)

/-! ## Aspects in order -/

theorem Aspect.rank_inj {x y : Aspect} (h : x.rank = y.rank) : x = y := by
  cases x <;> cases y <;> simp_all [Aspect.rank]

@[simp] theorem rank_min (x y : Aspect) : (x.min y).rank = min x.rank y.rank := by
  cases x <;> cases y <;> rfl

/-- The shown aspect is no less restrictive than any of the three it is the least of. -/
theorem State.shown_le (s : State) (g : Fin 16) :
    (s.shown g).rank ≤ (s.commanded g).rank ∧
      (s.shown g).rank ≤ ((s.asu.signals[g]).presented).rank ∧
      (s.shown g).rank ≤ ((s.asu.signals[g]).kept).rank := by
  simp only [State.shown, rank_min]
  omega

/-- Where the shown aspect has been kept, a commanded aspect that rises does not lift it. -/
theorem State.shown_of_kept (hc : ∀ g, (s.shown g).rank ≤ (t.commanded g).rank) (g : Fin 16)
    (hp : (t.asu.signals[g]).presented = (s.asu.signals[g]).presented)
    (hk : (t.asu.signals[g]).kept = s.shown g) : t.shown g = s.shown g := by
  apply Aspect.rank_inj
  have h1 := hc g
  have h2 := (s.shown_le g).2.1
  simp only [State.shown, rank_min, hp, hk] at *
  omega

theorem State.keepShown_shown (s : State) (g : Fin 16) : s.keepShown.shown g = s.shown g := by
  refine State.shown_of_kept (fun g => ?_) g (s.keepShown_signal g).1 (s.keepShown_signal g).2
  rw [(ShownInputs.keepShown s).commanded]
  exact (s.shown_le g).1

/-! ## A cleared red flag -/

/-- Two states alike in every record that the commanded aspects are derived from, but that the
second may have red lamp-failed flags clear that the first has set. -/
structure RedsCleared (s t : State) : Prop where
  config : t.config = s.config
  contacts : t.fsu.contacts = s.fsu.contacts
  counts : t.acu.sections = s.acu.sections
  points : t.pcu = s.pcu
  locks : t.lku = s.lku
  neighbours : t.hou.neighbours = s.hou.neighbours
  offers : t.hou.offers = s.hou.offers
  loader : t.sld = s.sld
  red : ∀ g : Fin 16, (t.lampRec g .red).failed = true → (s.lampRec g .red).failed = true
  sound : ∀ g : Fin 16, (t.asu.signals[g]).yellow.sound = (s.asu.signals[g]).yellow.sound ∧
    (t.asu.signals[g]).green.sound = (s.asu.signals[g]).green.sound

theorem RedsCleared.conditionBase (h : RedsCleared s t) (r : Fin 64) (c : RouteCfg)
    (hs : s.conditionBase r c = true) : t.conditionBase r c = true := by
  have hv : ∀ n, t.viewOf n = s.viewOf n := fun n => by simp [State.viewOf, h.neighbours]
  have hr : ∀ m, t.remoteSignal m = s.remoteSignal m := fun m => by
    simp [State.remoteSignal, h.config, hv]
  have ho : t.isOwn = s.isOwn := by funext a; simp [State.isOwn, h.loader]
  have hp : ∀ o, t.offerProven o = s.offerProven o := fun o => by
    simp [State.offerProven, hv, ho]
  have hk : t.offerStands = s.offerStands := by
    funext k; simp [State.offerStands, h.offers, hp]
  have ha : t.pointsAt = s.pointsAt := by funext ps; simp [State.pointsAt, h.points]
  have hf : ∀ g, (s.lampRec g .red).failed = false → (t.lampRec g .red).failed = false := by
    intro g hg
    have := h.red g
    by_contra hn
    simp_all
  have hl : ∀ g l, t.lit g l = s.lit g l := fun g l => by simp [State.lit, h.contacts]
  have hx : s.exitSound c.plan.exit = true → t.exitSound c.plan.exit = true := by
    cases c.plan.exit with
    | localSignal g => simpa [State.exitSound] using hf g
    | remoteSignal m => simp [State.exitSound, hr]
  have hq : ∀ gs : List (Fin 16), gs.all s.redProved = true → gs.all t.redProved = true := by
    intro gs hg
    simp only [List.all_eq_true, State.redProved, Bool.and_eq_true, Bool.not_eq_true', hl] at *
    exact fun g m => ⟨(hg g m).1, hf g (hg g m).2⟩
  unfold State.conditionBase at *
  simp only [h.loader, h.locks, h.config, hk, ha, (h.sound c.entry).1, (h.sound c.entry).2,
    Bool.and_eq_true] at *
  obtain ⟨⟨⟨a, b⟩, d⟩, e⟩ := hs
  exact ⟨⟨⟨a, hq _ b⟩, d⟩, hx e⟩

/-- The commanded aspects are no more restrictive where red lamp-failed flags are clear that were
set. -/
theorem RedsCleared.commanded (h : RedsCleared s t) (g : Fin 16) :
    (s.commanded g).rank ≤ (t.commanded g).rank := by
  have hv : ∀ n, t.viewOf n = s.viewOf n := fun n => by simp [State.viewOf, h.neighbours]
  have hr : ∀ m, t.remoteSignal m = s.remoteSignal m := fun m => by
    simp [State.remoteSignal, h.config, hv]
  have hn : ∀ n k, t.neighbourView n k = s.neighbourView n k := fun n k => by
    simp [State.neighbourView, h.config, hv]
  have hp : t.provesFree = s.provesFree := by
    funext k; simp [State.provesFree, State.proves, h.config, h.counts, hn]
  have hc : t.callOnProves = s.callOnProves := by
    funext k; simp [State.callOnProves, h.config, h.counts, hn]
  have hf : ∀ g, t.lockedFrom g = s.lockedFrom g := fun g => by
    simp [State.lockedFrom, h.config, h.locks]
  have hd : ∀ r c, s.cautionCondition r c = true → t.cautionCondition r c = true := by
    intro r c
    simp only [State.cautionCondition, Bool.and_eq_true, hp, h.locks]
    exact fun k => ⟨⟨h.conditionBase r c k.1.1, k.1.2⟩, k.2⟩
  have ho : ∀ r c, s.callOnCondition r c = true → t.callOnCondition r c = true := by
    intro r c
    simp only [State.callOnCondition, Bool.and_eq_true, hc]
    exact fun k => ⟨h.conditionBase r c k.1, k.2⟩
  have hx : ∀ e, s.exitPart e = true → t.exitPart e = true := by
    intro e
    cases e with
    | localSignal g =>
      simp only [State.exitPart, hf, List.any_eq_true, Bool.and_eq_true]
      exact fun ⟨q, m, k, l⟩ => ⟨q, m, k, hd _ _ l⟩
    | remoteSignal m => simp [State.exitPart, hr]
  unfold State.commanded
  rw [hf g]
  cases (s.lockedFrom g).head? with
  | none => simp
  | some q =>
    obtain ⟨r, c⟩ := q
    cases hcls : c.cls with
    | main =>
      simp only [hcls]
      have h1 := hd r c
      have h2 := hx c.plan.exit
      cases hs1 : s.cautionCondition r c <;> cases ht1 : t.cautionCondition r c <;>
        cases hs2 : s.exitPart c.plan.exit <;> cases ht2 : t.exitPart c.plan.exit <;>
        simp_all [Aspect.rank]
    | callOn =>
      simp only [hcls]
      have h1 := ho r c
      cases hs1 : s.callOnCondition r c <;> cases ht1 : t.callOnCondition r c <;>
        simp_all [Aspect.rank]

theorem RedsCleared.clearRedLamps (b s : State) : RedsCleared s (b.clearRedLamps s) := by
  constructor <;> try simp
  · intro g
    unfold State.clearRedLamps
    rw [State.clearFlags_lamp]
    split <;> simp
  · have hy : ∀ (g : Fin 16) (l : Lamp), l ≠ .red →
        (b.clearRedLamps s).lampRec g l = s.lampRec g l := by
      intro g l hl
      unfold State.clearRedLamps
      rw [State.clearFlags_lamp]
      simp [hl]
    intro g
    have h1 := hy g .yellow (by decide)
    have h2 := hy g .green (by decide)
    simp only [State.lampRec, SignalRec.lamp] at h1 h2
    simp only [Fin.getElem_fin] at h1 h2
    rw [h1, h2]
    simp

/-- Where the shown aspects have been kept, the clearing of red flags leaves them. -/
theorem State.clearRedLamps_shown (b s : State)
    (hk : ∀ g : Fin 16, (s.asu.signals[g]).kept = s.shown g) (g : Fin 16) :
    (b.clearRedLamps s).shown g = s.shown g := by
  have hs := fun g : Fin 16 =>
    s.clearFlags_signal ((indices 16).filter fun g => b.redRestored s g) [.red] g
  refine State.shown_of_kept (fun g => ?_) g (hs g).1 ((hs g).2.trans (hk g))
  exact ((s.shown_le g).1).trans ((RedsCleared.clearRedLamps b s).commanded g)

/-! ## The outputs -/

/-- An output stands at its level in two states alike in the shown aspects, the half of the flash
phase, the points and the station state, or in neither. -/
theorem State.outputRight_congr (hs : ∀ g, t.shown g = s.shown g)
    (hh : t.fsu.onHalf = s.fsu.onHalf) (hl : t.sld = s.sld) (hp : t.pcu = s.pcu) (o : OutputRec) :
    t.outputRight o ↔ s.outputRight o := by
  unfold State.outputRight
  cases o.role <;> simp [hl, hp, hs, hh]

theorem OutputsFollow.congr (hs : ∀ g, t.shown g = s.shown g) (hf : t.fsu = s.fsu)
    (hl : t.sld = s.sld) (hp : t.pcu = s.pcu) (o : s.OutputsFollow) : t.OutputsFollow := by
  constructor
  · intro i
    rw [State.outputRight_congr hs (by rw [hf]) hl hp, hf]; exact o.1 i
  · intro i
    rw [State.outputRight_congr hs (by rw [hf]) hl hp, hf]; exact o.2 i

/-- The level `refreshOutputs` gives an output is the one its role calls for (R13, R15). -/
theorem OutputRec.level_right (s : State) (o : OutputRec) :
    s.outputRight { o with
      energised := o.level (s.sld.station == .run) s.fsu.onHalf s.shown s.pcu.points } := by
  unfold State.outputRight OutputRec.level
  cases o.role with
  | unbound => simp
  | lamp g l =>
    by_cases h : s.sld.station = .run
    · simp only [h, beq_self_eq_true, if_true]
      generalize s.shown g = a
      cases a <;> cases l <;> simp [demandOf, Demand.lights, lampLit]
    · simp [h]
  | drive p q =>
    by_cases h : s.sld.station = .run
    · simp only [h, beq_self_eq_true, if_true, PointRec.drive]
      generalize (s.pcu.points[p]).controller = c
      cases c <;> cases q <;> simp [Controller.target, Controller.moving]
    · simp [h]

theorem State.refreshOutputs_follow (s : State) : s.refreshOutputs.OutputsFollow := by
  have k := ShownInputs.refreshOutputs s
  have hs : (fun g : Fin 16 => (s.allShown)[g]) = s.shown := by funext g; simp [State.allShown]
  constructor
  all_goals
    intro i
    rw [State.outputRight_congr (fun g => k.shown g (by simp)) (by simp) (by simp) (by simp)]
    simp only [State.refreshOutputs, mapTab_get, hs]
    exact OutputRec.level_right s _

/-- The state in which the outputs of an event are set and the shown aspects kept. -/
def State.presentedState (b s : State) : State := (b.clearAspectLamps s).refreshOutputs.keepShown

theorem State.settled_eq (b s : State) :
    b.settled s = b.followReds (b.followLamps (b.clearRedLamps (b.presentedState s))) := rfl

theorem State.presentedState_kept (b s : State) (g : Fin 16) :
    ((b.presentedState s).asu.signals[g]).kept = (b.presentedState s).shown g := by
  rw [State.presentedState, State.keepShown_shown]
  exact (State.keepShown_signal _ g).2

theorem State.followLamps_shown (b s : State) (g : Fin 16) :
    (b.followLamps s).shown g = s.shown g :=
  (ShownInputs.followLamps b s).shown g (b.followLamps_signal s g).2

theorem State.followReds_shown (b s : State) (g : Fin 16) :
    (b.followReds s).shown g = s.shown g :=
  (ShownInputs.followReds b s).shown g (by simp)

theorem State.reported_shown (b s : State) (g : Fin 16) : (b.reported s).shown g = s.shown g :=
  (ShownInputs.reported b s).shown g (by simp)

/-- The shown aspects that an event leaves are those its outputs were set by. -/
theorem State.settled_shown (b s : State) (g : Fin 16) :
    (b.settled s).shown g = (b.presentedState s).shown g := by
  rw [State.settled_eq, State.followReds_shown, State.followLamps_shown,
    State.clearRedLamps_shown _ _ (State.presentedState_kept b s)]

theorem State.settled_signal (b s : State) (g : Fin 16) :
    ((b.settled s).asu.signals[g]).presented = (s.asu.signals[g]).presented ∧
      ((b.settled s).asu.signals[g]).kept = (b.settled s).shown g := by
  rw [State.settled_shown, State.settled_eq, (State.followReds_keeps _ _).2.2.2.2.2.2.2.2.1]
  constructor
  · rw [(b.followLamps_signal _ g).1]
    unfold State.clearRedLamps
    rw [(State.clearFlags_signal _ _ _ g).1, State.presentedState, (State.keepShown_signal _ g).1]
    simp only [State.refreshOutputs_keeps]
    unfold State.clearAspectLamps
    exact (State.clearFlags_signal _ _ _ g).1
  · rw [(b.followLamps_signal _ g).2]
    conv_lhs => unfold State.clearRedLamps
    rw [(State.clearFlags_signal _ _ _ g).2]
    exact State.presentedState_kept b s g

theorem State.settled_follow (b s : State) : (b.settled s).OutputsFollow := by
  have h0 := State.refreshOutputs_follow (b.clearAspectLamps s)
  have h1 : (b.presentedState s).OutputsFollow := by
    unfold State.presentedState
    exact OutputsFollow.congr (State.keepShown_shown _) (by simp) (by simp) (by simp) h0
  refine OutputsFollow.congr (s := b.presentedState s) (State.settled_shown b s) ?_ ?_ ?_ h1
  all_goals simp [State.settled_eq, State.presentedState]

/-- Every event ends with every output at its level (R13, R15). -/
theorem State.finish_follow (b s : State) : (b.finish s).OutputsFollow :=
  OutputsFollow.congr (State.reported_shown b (b.settled s))
    ((State.reported_keeps b (b.settled s)).2.2.2.2.1) (by simp) (by simp)
    (State.settled_follow b s)

/-- Every event keeps the shown aspect it leaves (R97, log 36). -/
theorem State.finish_kept (b s : State) (g : Fin 16) :
    ((b.finish s).asu.signals[g]).kept = (b.finish s).shown g := by
  unfold State.finish
  rw [State.reported_shown]
  simpa using (State.settled_signal b s g).2

/-- Two states whose lamps have the same timers. -/
def sameTimers (s t : State) : Prop :=
  ∀ (g : Fin 16) (l : Lamp), (t.lampRec g l).failureTimer = (s.lampRec g l).failureTimer ∧
    (t.lampRec g l).strayTimer = (s.lampRec g l).strayTimer ∧
    (t.lampRec g l).strayClearTimer = (s.lampRec g l).strayClearTimer

theorem sameTimers.trans {a b c : State} (h : sameTimers a b) (k : sameTimers b c) :
    sameTimers a c := fun g l =>
  ⟨(k g l).1.trans (h g l).1, (k g l).2.1.trans (h g l).2.1, (k g l).2.2.trans (h g l).2.2⟩

theorem State.putFailed_timers (s : State) (g : Fin 16) (l : Lamp) (v : Bool) :
    sameTimers s (s.putFailed g l v) := by
  intro g' l'
  simp only [State.putFailed, State.updSignal, State.updFaults, State.lampRec, upd_get]
  split
  · simp only [SignalRec.lamp_updLamp]
    split <;> simp
  · simp

theorem State.clearFlags_timers (s : State) (gs : List (Fin 16)) (ls : List Lamp) :
    sameTimers s (s.clearFlags gs ls) := by
  have one : ∀ (g : Fin 16) (s : State), sameTimers s (s.clearLamps g ls) := by
    intro g s
    unfold State.clearLamps
    induction ls generalizing s with
    | nil => simp [sameTimers]
    | cons x xs ih =>
      rw [State.forEach_cons]
      exact (s.putFailed_timers g x false).trans (ih _)
  unfold State.clearFlags
  induction gs generalizing s with
  | nil => simp [sameTimers]
  | cons x xs ih =>
    rw [State.forEach_cons]
    exact (one x s).trans (ih _)

theorem Timer.follow_running (before after : Bool) (t : Timer)
    (h : before = true → t.isRunning = true) :
    (t.follow before after).isRunning = after := by
  unfold Timer.follow
  cases after <;> cases before <;> simp_all [Timer.isRunning, Timer.start]

theorem LampTimersFollow.followLamps {b s : State} (hb : b.LampTimersFollow) (h : sameTimers b s) :
    (b.followLamps s).LampTimersFollow := by
  intro g l
  have hl : (b.followLamps s).lampRec g l = (s.lampRec g l).follow b s g l := by
    cases l <;> simp [State.lampRec, State.followLamps, State.mapSignals, SignalRec.lamp]
  have he : (b.followLamps s).energised g l = s.energised g l := by simp [State.energised]
  have hi : (b.followLamps s).lit g l = s.lit g l := by simp [State.lit]
  obtain ⟨h1, h2, h3⟩ := h g l
  obtain ⟨k1, k2, k3⟩ := hb g l
  rw [hl, he, hi]
  refine ⟨?_, ?_, ?_⟩
  · refine Timer.follow_running _ _ _ ?_
    rw [h1, k1]; simp [State.darkDriven]
  · refine Timer.follow_running _ _ _ ?_
    rw [h2, k2]; simp [State.litUndriven]
  · refine Timer.follow_running _ _ _ ?_
    rw [h3, k3]; simp [State.strayDark]

theorem LampTimersFollow.of_same {s t : State} (hs : s.LampTimersFollow) (hf : t.fsu = s.fsu)
    (ha : t.asu = s.asu) : t.LampTimersFollow := by
  intro g l
  have := hs g l
  simpa [State.lampRec, State.energised, State.lit, hf, ha] using this

theorem State.settled_timers {b s : State} (hb : b.LampTimersFollow) (h : sameTimers b s) :
    (b.settled s).LampTimersFollow := by
  unfold State.settled State.settleLamps
  refine LampTimersFollow.of_same (s := b.followLamps _) (LampTimersFollow.followLamps hb ?_)
    (State.followReds_keeps _ _).2.2.2.2.1 (by simp)
  have hr : ∀ x : State, sameTimers x x.refreshOutputs := fun x g l => by simp [State.lampRec]
  have hk : ∀ x : State, sameTimers x x.keepShown := fun x g l => by simp
  have h1 : sameTimers s (b.clearAspectLamps s) := State.clearFlags_timers _ _ _
  have h2 : ∀ x, sameTimers x (b.clearRedLamps x) := fun x => State.clearFlags_timers _ _ _
  exact h.trans (h1.trans ((hr _).trans ((hk _).trans (h2 _))))

/-- Every event keeps the proving timers with their conditions (R99, R101, R102). -/
theorem State.finish_timers {b s : State} (hb : b.LampTimersFollow) (h : sameTimers b s) :
    (b.finish s).LampTimersFollow :=
  LampTimersFollow.of_same (s := b.settled s) (State.settled_timers hb h) (by simp [State.finish])
    (by simp [State.finish])
end Sys2Proof.Machine
end

