-- ==== Sys2Proof/Laws/Event.lean ====
section
/-! SUPPORT. All that follows within an event, said once: `State.settled_consequences` for the
field, the lamps and the proven states, `State.finish_rest` for the whole. -/

namespace Sys2Proof.Machine

open Sys2Proof

/-! ## Lamps -/

theorem State.clearAspectLamps_lamp (b s : State) (g : Fin 16) (l : Lamp) :
    (b.clearAspectLamps s).lampRec g l =
      if b.freshTrial s g = true ∧ l ≠ .red then { s.lampRec g l with failed := false }
      else s.lampRec g l := by
  unfold State.clearAspectLamps
  rw [State.clearFlags_lamp]
  cases l <;> simp

theorem State.clearRedLamps_lamp (b s : State) (g : Fin 16) (l : Lamp) :
    (b.clearRedLamps s).lampRec g l =
      if b.redRestored s g = true ∧ l = .red then { s.lampRec g l with failed := false }
      else s.lampRec g l := by
  unfold State.clearRedLamps
  rw [State.clearFlags_lamp]
  simp

theorem State.freshTrial_congr {b s t : State} (hc : t.config = s.config) (hl : t.lku = s.lku)
    (g : Fin 16) : b.freshTrial t g = b.freshTrial s g := by
  simp only [State.freshTrial, hc, hl]

theorem State.settled_fsu (b s : State) : (b.settled s).fsu = (b.presentedState s).fsu := by
  simp [State.settled_eq]

/-- The red lamps that an event clears, seen from its end. -/
theorem State.redRestored_settled (b s : State) (g : Fin 16) :
    b.redRestored (b.presentedState s) g = b.lampRestored (b.settled s) g .red := by
  simp only [State.redRestored, State.lampRestored, State.energised, State.lit, State.settled_fsu]

theorem State.freshTrial_settled (b s : State) (g : Fin 16) :
    b.freshTrial s g = b.freshTrial (b.settled s) g :=
  (State.freshTrial_congr (by simp) (by simp) g).symm

/-- A lamp record just before the proving timers follow the event. -/
theorem State.cleared_lamp (b s : State) (g : Fin 16) (l : Lamp) :
    (b.clearRedLamps (b.presentedState s)).lampRec g l =
      if b.lampRestored (b.settled s) g l = true then { s.lampRec g l with failed := false }
      else s.lampRec g l := by
  have hp : (b.presentedState s).lampRec g l = (b.clearAspectLamps s).lampRec g l := by
    simp [State.presentedState, State.lampRec]
    cases l <;> simp [SignalRec.lamp, State.keepShown, State.mapSignals]
  rw [State.clearRedLamps_lamp, hp, State.clearAspectLamps_lamp, State.redRestored_settled,
    State.freshTrial_settled]
  cases l <;> simp only [State.lampRestored, ne_eq, reduceCtorEq, not_true, not_false_eq_true,
    and_true, and_false, if_false]
  all_goals split <;> simp_all

theorem State.settled_lamp (b s : State) (g : Fin 16) (l : Lamp) :
    (b.settled s).lampRec g l =
      ((b.clearRedLamps (b.presentedState s)).lampRec g l).follow b
        (b.clearRedLamps (b.presentedState s)) g l := by
  rw [State.settled_eq, ← State.followLamps_lamp]
  simp [State.lampRec]

/-- The flags of a lamp after an event (R100). -/
theorem State.settled_flags (b s : State) (g : Fin 16) (l : Lamp) :
    ((b.settled s).lampRec g l).stray = (s.lampRec g l).stray ∧
    ((b.settled s).lampRec g l).failed =
      ((s.lampRec g l).failed && !b.lampRestored (b.settled s) g l) := by
  rw [State.settled_lamp, State.cleared_lamp]
  unfold LampRec.follow
  split <;> simp_all

/-- The conditions of the proving timers, seen from the end of the event. -/
theorem State.settled_watch (b s : State) (g : Fin 16) (l : Lamp) :
    let m := b.clearRedLamps (b.presentedState s)
    m.darkDriven g l = (b.settled s).darkDriven g l ∧
      m.litUndriven g l = (b.settled s).litUndriven g l ∧
      m.strayDark g l = (b.settled s).strayDark g l := by
  intro m
  have hf : m.fsu = (b.settled s).fsu := by rw [State.settled_fsu]; simp [m]
  have hl := State.settled_lamp b s g l
  have h1 : ((b.settled s).lampRec g l).failed = (m.lampRec g l).failed := by rw [hl]; rfl
  have h2 : ((b.settled s).lampRec g l).stray = (m.lampRec g l).stray := by rw [hl]; rfl
  simp only [State.darkDriven, State.litUndriven, State.strayDark, State.energised, State.lit, hf,
    h1, h2, and_self]

/-- The proving timers of a lamp after an event (R99, R101, R102). -/
theorem State.settled_timersOf (b s : State) (g : Fin 16) (l : Lamp) :
    ((b.settled s).lampRec g l).failureTimer =
      (s.lampRec g l).failureTimer.follow (b.darkDriven g l) ((b.settled s).darkDriven g l) ∧
    ((b.settled s).lampRec g l).strayTimer =
      (s.lampRec g l).strayTimer.follow (b.litUndriven g l) ((b.settled s).litUndriven g l) ∧
    ((b.settled s).lampRec g l).strayClearTimer =
      (s.lampRec g l).strayClearTimer.follow (b.strayDark g l) ((b.settled s).strayDark g l) := by
  obtain ⟨h1, h2, h3⟩ := State.settled_watch b s g l
  rw [← h1, ← h2, ← h3, State.settled_lamp, State.cleared_lamp]
  unfold LampRec.follow
  split <;> simp

/-- What is in the fault set after an event (R100). -/
theorem State.settled_faults (b s : State) (c : Condition) :
    c ∈ (b.settled s).cmu.faults ↔ c ∈ s.cmu.faults ∧
      ¬∃ (g : Fin 16) (l : Lamp), b.lampRestored (b.settled s) g l = true ∧
        c = ⟨.lampFailed, lampElement g l⟩ := by
  have h1 : (b.settled s).cmu = (b.clearRedLamps (b.presentedState s)).cmu := by
    simp [State.settled_eq]
  have h2 : (b.presentedState s).cmu = (b.clearAspectLamps s).cmu := by
    simp [State.presentedState]
  rw [h1, State.clearRedLamps, State.mem_clearFlags, h2, State.clearAspectLamps, State.mem_clearFlags]
  have hf : ∀ g, b.freshTrial s g = true ↔ b.lampRestored (b.settled s) g .yellow = true := fun g => by
    rw [State.freshTrial_settled]; rfl
  simp only [List.mem_filter, List.mem_finRange, true_and, State.redRestored_settled, hf]
  constructor
  · rintro ⟨⟨hc, hy⟩, hr⟩
    refine ⟨hc, ?_⟩
    rintro ⟨g, l, hg, he⟩
    cases l with
    | red => exact hr g hg .red (by simp) he
    | yellow => exact hy g hg .yellow (by simp) he
    | green => exact hy g hg .green (by simp) he
  · rintro ⟨hc, hn⟩
    refine ⟨⟨hc, fun g hg l hl he => hn ⟨g, l, ?_, he⟩⟩, fun g hg l hl he => hn ⟨g, l, ?_, he⟩⟩
    · simp only [List.mem_cons, List.not_mem_nil, or_false] at hl
      rcases hl with rfl | rfl <;> exact hg
    · simp only [List.mem_singleton] at hl
      subst hl; exact hg

/-! ## Proven states -/

theorem State.portionProves_congr {s t : State} (hc : t.config = s.config) (hf : t.fsu = s.fsu)
    (hu : t.acu = s.acu) (hp : t.pcu = s.pcu) (ha : t.asu = s.asu)
    (hn : t.hou.neighbours = s.hou.neighbours) (p : Fin 16)
    (hh : (t.hou.portions[p]).hold = (s.hou.portions[p]).hold) :
    t.portionProves p = s.portionProves p := by
  have hv : ∀ n, t.viewOf n = s.viewOf n := fun n => by simp [State.viewOf, hn]
  have hw : ∀ n k, t.neighbourView n k = s.neighbourView n k := fun n k => by
    simp [State.neighbourView, hc, hv]
  have h1 : t.provesFree = s.provesFree := by
    funext k; simp [State.provesFree, State.proves, hc, hu, hw]
  have h2 : t.redProved = s.redProved := by
    funext g; simp [State.redProved, State.lit, State.lampRec, hf, ha]
  have h3 : t.pointsRestAt = s.pointsRestAt := by funext ps; simp [State.pointsRestAt, hp]
  have hd : t.holdOf (.portion p) = s.holdOf (.portion p) := hh
  unfold State.portionProves State.ownPoints
  rw [hd, hc, h1, h2, h3]

/-- A portion after the proving test of one portion (R154). -/
theorem State.provingTest_portion (s : State) (p q : Fin 16) :
    (s.provingTest p).hou.portions[q] =
      if p = q then
        { s.hou.portions[q] with state := (s.hou.portions[q]).state.proved (s.portionProves q) }
      else s.hou.portions[q] := by
  simp only [State.provingTest, State.updPortion, upd_get]
  split
  · next h => subst h; rfl
  · rfl

/-- A portion after the proving tests of a list without repeats (R154). -/
theorem State.provingTests_portion (s : State) (ps : List (Fin 16)) (hd : ps.Nodup) (q : Fin 16) :
    (s.provingTests ps).hou.portions[q] =
      if q ∈ ps then
        { s.hou.portions[q] with state := (s.hou.portions[q]).state.proved (s.portionProves q) }
      else s.hou.portions[q] := by
  unfold State.provingTests
  induction ps generalizing s with
  | nil => simp
  | cons x xs ih =>
    have hx := List.nodup_cons.mp hd
    rw [State.forEach_cons, ih _ hx.2]
    have hp : (s.provingTest x).portionProves q = s.portionProves q := by
      refine State.portionProves_congr (by simp) (by simp) (by simp) (by simp) (by simp) (by simp) q
        ?_
      rw [State.provingTest_portion]
      split <;> simp
    rw [State.provingTest_portion, hp]
    by_cases h : x = q
    · subst h; simp [hx.1]
    · simp [h, Ne.symm h]

theorem State.entryProven_congr {s t : State} (hc : t.config = s.config) (hf : t.fsu = s.fsu)
    (hp : t.pcu = s.pcu) (ha : t.asu = s.asu) : t.entryProven = s.entryProven := by
  funext e
  have h2 : t.redProved = s.redProved := by
    funext g; simp [State.redProved, State.lit, State.lampRec, hf, ha]
  simp [State.entryProven, hc, hp, h2]

theorem State.redChanged_congr {b s t : State} (hf : t.fsu = s.fsu) (ha : t.asu = s.asu)
    (g : Fin 16) : b.redChanged t g = b.redChanged s g := by
  simp [State.redChanged, State.lit, State.lampRec, hf, ha]

/-- The hosted portions after an event: those that hold a changed red lamp are tested again (R154).
-/
theorem State.followReds_portion (b s : State) (p : Fin 16) :
    (b.followReds s).hou.portions[p] =
      if b.redsOf (b.followReds s) p then
        { s.hou.portions[p] with
          state := (s.hou.portions[p]).state.proved ((b.followReds s).portionProves p) }
      else s.hou.portions[p] := by
  have hk := State.followReds_keeps b s
  have hh : ((b.followReds s).hou.portions[p]).hold = (s.hou.portions[p]).hold := by
    unfold State.followReds
    rw [State.provingTests_portion _ _ ((List.nodup_finRange 16).filter _)]
    split <;> simp
  have hr : b.redsOf (b.followReds s) p =
      (flankSignals s.config (s.hou.portions[p]).hold.flank).any fun g => b.redChanged s g := by
    rw [State.redsOf, hh, hk.2.2.2.1]
    congr 1
    funext g
    exact State.redChanged_congr hk.2.2.2.2.1 hk.2.2.2.2.2.2.2.2.1 g
  have hp : (b.followReds s).portionProves p = s.portionProves p :=
    State.portionProves_congr hk.2.2.2.1 hk.2.2.2.2.1 hk.2.2.2.2.2.1 hk.2.2.2.2.2.2.1
      hk.2.2.2.2.2.2.2.2.1 (by simp) p hh
  rw [hr, hp]
  unfold State.followReds
  rw [State.provingTests_portion _ _ ((List.nodup_finRange 16).filter _)]
  have hq : (s.proveGrants fun e => ((indices 16).filter fun g => b.redChanged s g).any fun g =>
      e == .signal g).portionProves p = s.portionProves p :=
    State.portionProves_congr (by simp) (by simp) (by simp) (by simp) (by simp) (by simp) p (by simp)
  rw [hq]
  simp [State.holdOf]

/-- The hosted grants after an event: those whose element is a changed red lamp are tested again
(R129). -/
theorem State.followReds_grant (b s : State) (k : Fin 8) :
    (b.followReds s).hou.grants[k] = (s.hou.grants[k]).map fun x =>
      if b.redUsed (b.followReds s) x then
        { x with proven := (b.followReds s).entryProven x.used } else x := by
  have hk := State.followReds_keeps b s
  have he : (b.followReds s).entryProven = s.entryProven :=
    State.entryProven_congr hk.2.2.2.1 hk.2.2.2.2.1 hk.2.2.2.2.2.2.1 hk.2.2.2.2.2.2.2.2.1
  have hr : ∀ x, b.redUsed (b.followReds s) x =
      match elementOf s.config x.used with
      | some (.signal g) => b.redChanged s g
      | _ => false := by
    intro x
    rw [State.redUsed, hk.2.2.2.1]
    cases elementOf s.config x.used with
    | none => rfl
    | some e => cases e <;> simp [State.redChanged_congr hk.2.2.2.2.1 hk.2.2.2.2.2.2.2.2.1]
  rw [he]
  simp only [hr]
  have hg : (b.followReds s).hou.grants = (s.proveGrants fun e =>
      ((indices 16).filter fun g => b.redChanged s g).any fun g => e == .signal g).hou.grants := by
    simp [State.followReds]
  rw [hg]
  simp only [State.proveGrants, State.mapGrants, mapTab_get]
  congr 1
  funext x
  congr 1
  cases elementOf s.config x.used with
  | none => simp
  | some e => cases e <;> simp

/-! ## The whole event -/

theorem State.settled_consequences (b u : State) : Consequences b u (b.settled u) where
  surroundings := by simp
  inputs := by simp
  lamps i := by
    have h : (b.settled u).fsu.lamps = (b.clearAspectLamps u).refreshOutputs.fsu.lamps := by
      rw [State.settled_fsu]; simp [State.presentedState]
    rw [h]
    simp [State.refreshOutputs, OutputRec.fixed]
  drives i := by
    have h : (b.settled u).fsu.drives = (b.clearAspectLamps u).refreshOutputs.fsu.drives := by
      rw [State.settled_fsu]; simp [State.presentedState]
    rw [h]
    simp [State.refreshOutputs, OutputRec.fixed]
  outputs := State.settled_follow b u
  counts := by simp
  points := by simp
  locks := by simp
  pool := by simp
  loader := by simp
  presented g := (State.settled_signal b u g).1
  kept g := (State.settled_signal b u g).2
  stray g l := (State.settled_flags b u g l).1
  failed g l := (State.settled_flags b u g l).2
  faults := State.settled_faults b u
  timers := State.settled_timersOf b u
  commands := by simp
  lines := by simp
  neighbours := by simp
  offers := by simp
  portions p := by
    have h := State.followReds_portion b (b.settleLamps u) p
    have e : (b.settleLamps u).hou = u.hou := by simp
    rw [e] at h
    exact h
  grants k := by
    have h := State.followReds_grant b (b.settleLamps u) k
    have e : (b.settleLamps u).hou = u.hou := by simp
    rw [e] at h
    exact h

/-! ## Reports -/

/-- Two states alike in everything that STATUS and DISPLAY report. -/
structure SameReport (s t : State) : Prop where
  config : t.config = s.config
  fsu : t.fsu = s.fsu
  acu : t.acu = s.acu
  pcu : t.pcu = s.pcu
  lku : t.lku = s.lku
  asu : t.asu = s.asu
  sld : t.sld = s.sld
  neighbours : t.hou.neighbours = s.hou.neighbours
  offers : t.hou.offers = s.hou.offers
  portions : t.hou.portions = s.hou.portions
  grants : t.hou.grants = s.hou.grants
  faults : t.cmu.faults = s.cmu.faults

variable {b u s t v : State}

theorem SameReport.shown (h : SameReport s t) (g : Fin 16) : t.shown g = s.shown g := by
  refine ShownInputs.shown ?_ g (by rw [h.asu])
  constructor <;> simp [h.config, h.fsu, h.acu, h.pcu, h.lku, h.sld, h.neighbours, h.offers, h.asu,
    State.lampRec]

theorem SameReport.status (h : SameReport s t) : t.statusContent = s.statusContent := by
  simp only [State.statusContent, State.headEntries, State.sectionEntries, State.signalEntries,
    State.portionEntries, State.grantEntries, State.offerEntries, State.lampRec, h.shown, h.config,
    h.acu, h.asu, h.sld, h.offers, h.portions, h.grants]

theorem SameReport.payload (h : SameReport s t) (page : Page) :
    t.pagePayload page = s.pagePayload page := by
  cases page
  · simp only [State.pagePayload, State.pageZeroContent, h.shown, h.config, h.sld, h.neighbours, h.lku,
      h.asu]
  · simp only [State.pagePayload, State.pageOneContent, h.config, h.acu, h.lku, h.pcu, h.faults]

theorem SameReport.zero (h : SameReport s t) : t.pageZeroContent = s.pageZeroContent := by
  simpa [State.pagePayload] using h.payload .zero

theorem SameReport.one (h : SameReport s t) : t.pageOneContent = s.pageOneContent := by
  simpa [State.pagePayload] using h.payload .one

theorem SameReport.refl (s : State) : SameReport s s := by constructor <;> rfl

theorem SameReport.trans {x y z : State} (h : SameReport x y) (k : SameReport y z) :
    SameReport x z := by
  constructor <;> simp [h.config, h.fsu, h.acu, h.pcu, h.lku, h.asu, h.sld, h.neighbours, h.offers,
    h.portions, h.grants, h.faults, k.config, k.fsu, k.acu, k.pcu, k.lku, k.asu, k.sld, k.neighbours,
    k.offers, k.portions, k.grants, k.faults]

theorem SameReport.statusChanged (s : State) : SameReport s s.statusChanged := by
  constructor <;> simp

theorem SameReport.pageChanged (s : State) (page : Page) : SameReport s (s.pageChanged page) := by
  constructor <;> simp

theorem SameReport.reported (b v : State) : SameReport v (b.reported v) := by
  constructor <;> simp

/-- What a change of content does to the slot and the times of STATUS (R146). -/
theorem State.statusChanged_spec (s : State) :
    (s.hou.statusPacing.isRunning = true →
      SameStatus { s with hou := { s.hou with statusChange := true } } s.statusChanged) ∧
    (s.hou.statusPacing.isRunning = false → s.sld.ownAddress ≠ none →
      StatusPlaced s s.statusChanged) := by
  refine ⟨fun h => ?_, fun h ha => ?_⟩
  · unfold State.statusChanged
    rw [if_pos h]
    constructor <;> rfl
  · obtain ⟨own, ho⟩ := Option.ne_none_iff_exists'.mp ha
    have hc := (SameReport.statusChanged s).status
    have he : s.statusChanged = s.placeStatus := by
      unfold State.statusChanged
      rw [if_neg (by simp [h])]
    rw [he] at hc ⊢
    have hp : s.sld.ownAddress.isNone = false := by simp [ho]
    constructor
    · rw [hc]
      simp only [State.placeStatus, hp]
      refine ⟨_, rfl, rfl, rfl, rfl, ?_⟩
      simp [ho, State.nextItem, State.nextTelegram]
    all_goals simp [State.placeStatus, hp, Config.statusPacing]

/-- How many numbers a telegram place takes. -/
def Numbered (n : Nat) (s t : State) : Prop :=
  t.slu.counter = s.slu.counter + BitVec.ofNat 8 n ∧ t.slu.placings = s.slu.placings + n

theorem Numbered.trans {m n : Nat} {x y z : State} (h : Numbered m x y) (k : Numbered n y z) :
    Numbered (m + n) x z := by
  constructor
  · rw [k.1, h.1, BitVec.ofNat_add, BitVec.add_assoc]
  · rw [k.2, h.2, Nat.add_assoc]

theorem Numbered.refl (s : State) : Numbered 0 s s := by simp [Numbered]

theorem State.statusChanged_numbered (s : State) : ∃ n, n ≤ 1 ∧ Numbered n s s.statusChanged := by
  unfold State.statusChanged
  split
  · exact ⟨0, by decide, by simp [Numbered]⟩
  · unfold State.placeStatus
    split
    · exact ⟨0, by decide, by simp [Numbered]⟩
    · exact ⟨1, by decide, by simp [Numbered, State.placeStatusSlot, StationLine.counted]⟩

theorem State.pageChanged_numbered (s : State) (page : Page) :
    ∃ n, n ≤ 1 ∧ Numbered n s (s.pageChanged page) := by
  unfold State.pageChanged
  split
  · exact ⟨0, by decide, by cases page <;> simp [Numbered, State.setPageTimes]⟩
  · exact ⟨1, by decide, by
      cases page <;>
        simp [Numbered, State.placePage, State.placeDisplaySlot, State.setPageTimes,
          StationLine.counted]⟩

/-- What a change of a page's content does to its slot and its times (R165). -/
theorem State.pageChanged_spec (s : State) (page : Page) :
    ((s.pageTimes page).pacing.isRunning = true →
      (s.pageChanged page).pageSlot page = s.pageSlot page ∧
        (s.pageChanged page).pageTimes page = { s.pageTimes page with change := true }) ∧
    ((s.pageTimes page).pacing.isRunning = false →
      (∃ i, (s.pageChanged page).pageSlot page = some i ∧
        i.telegram.payload = s.pagePayload page ∧ i.telegram.dest = 31) ∧
        (s.pageChanged page).pageTimes page = ⟨.startMs 100, false⟩) ∧
    ∀ other, other ≠ page → (s.pageChanged page).pageSlot other = s.pageSlot other ∧
      (s.pageChanged page).pageTimes other = s.pageTimes other := by
  refine ⟨fun h => ?_, fun h => ?_, fun other ho => ?_⟩
  · unfold State.pageChanged
    rw [if_pos h]
    cases page <;> exact ⟨rfl, rfl⟩
  · unfold State.pageChanged
    rw [if_neg (by simp [h])]
    cases page <;> exact ⟨⟨_, rfl, rfl, rfl⟩, rfl⟩
  · unfold State.pageChanged
    split <;> cases page <;> cases other <;> simp_all [State.pageSlot, State.setPageTimes,
      State.pageTimes, State.placePage, State.placeDisplaySlot, StationLine.counted]

/-! ## The event with its telegrams -/

theorem Consequences.report (h : Consequences b u v) : Consequences b u (b.reported v) := by
  have hk := SameReport.reported b v
  have hl : ∀ g l, (b.reported v).lampRec g l = v.lampRec g l := fun g l => by
    simp only [State.lampRec, hk.asu]
  have hr : ∀ g l, b.lampRestored (b.reported v) g l = b.lampRestored v g l := fun g l => by
    cases l <;> simp only [State.lampRestored, State.energised, State.lit, hk.fsu,
      State.freshTrial_congr hk.config hk.lku]
  have hc : ∀ g, b.redChanged (b.reported v) g = b.redChanged v g :=
    State.redChanged_congr hk.fsu hk.asu
  constructor
  · simpa using h.surroundings
  · simpa [hk.fsu] using h.inputs
  · simpa [hk.fsu] using h.lamps
  · simpa [hk.fsu] using h.drives
  · exact OutputsFollow.congr hk.shown hk.fsu hk.sld hk.pcu h.outputs
  · simpa using h.counts
  · simpa using h.points
  · simpa using h.locks
  · simpa using h.pool
  · simpa using h.loader
  · simpa [hk.asu] using h.presented
  · intro g; rw [hk.asu, hk.shown]; exact h.kept g
  · intro g l; rw [hl]; exact h.stray g l
  · intro g l; rw [hl, hr]; exact h.failed g l
  · intro c; simp only [hk.faults, hr]; exact h.faults c
  · intro g l
    have := h.timers g l
    simpa only [hl, State.darkDriven, State.litUndriven, State.strayDark, State.energised, State.lit,
      hk.fsu] using this
  · simpa using h.commands
  · simpa using h.lines
  · simpa using h.neighbours
  · simpa using h.offers
  · intro p
    have hd : b.redsOf (b.reported v) p = b.redsOf v p := by
      simp only [State.redsOf, hk.config, hk.portions, hc]
    rw [hd, State.portionProves_congr hk.config hk.fsu hk.acu hk.pcu hk.asu hk.neighbours p
      (by rw [hk.portions]), hk.portions]
    exact h.portions p
  · intro k
    have hd : ∀ x, b.redUsed (b.reported v) x = b.redUsed v x := fun x => by
      simp only [State.redUsed, hk.config, hc]
    rw [State.entryProven_congr hk.config hk.fsu hk.pcu hk.asu, hk.grants]
    simp only [hd]
    exact h.grants k

/-- The STATUS step of the reporting, where content changes as `m` says. -/
def State.statusStep (s : State) (m : Prop) [Decidable m] : State :=
  if m then s.statusChanged else s

/-- The step of a page in the reporting. -/
def State.pageStep (s : State) (page : Page) (m : Prop) [Decidable m] : State :=
  if m then s.pageChanged page else s

theorem SameReport.statusStep (s : State) (m : Prop) [Decidable m] :
    SameReport s (s.statusStep m) := by
  unfold State.statusStep
  split
  · exact .statusChanged s
  · exact .refl s

theorem SameReport.pageStep (s : State) (page : Page) (m : Prop) [Decidable m] :
    SameReport s (s.pageStep page m) := by
  unfold State.pageStep
  split
  · exact .pageChanged s page
  · exact .refl s

theorem State.statusStep_pages (s : State) (m : Prop) [Decidable m] (page : Page) :
    (s.statusStep m).pageSlot page = s.pageSlot page ∧
      (s.statusStep m).pageTimes page = s.pageTimes page := by
  unfold State.statusStep
  split
  · cases page <;> simp [State.pageSlot, State.pageTimes]
  · exact ⟨rfl, rfl⟩

theorem State.pageStep_status (s : State) (page : Page) (m : Prop) [Decidable m] :
    (s.pageStep page m).slu.statusSlot = s.slu.statusSlot ∧ (s.pageStep page m).hou = s.hou := by
  unfold State.pageStep
  split <;> simp

theorem State.pageStep_other (s : State) (page other : Page) (m : Prop) [Decidable m]
    (h : other ≠ page) : (s.pageStep page m).pageSlot other = s.pageSlot other ∧
      (s.pageStep page m).pageTimes other = s.pageTimes other := by
  unfold State.pageStep
  split
  · exact (s.pageChanged_spec page).2.2 other h
  · exact ⟨rfl, rfl⟩

theorem State.statusStep_numbered (s : State) (m : Prop) [Decidable m] :
    ∃ n, n ≤ 1 ∧ Numbered n s (s.statusStep m) ∧ (¬m → n = 0) := by
  unfold State.statusStep
  split
  · next h => exact (s.statusChanged_numbered).imp fun n k => ⟨k.1, k.2, fun hn => absurd h hn⟩
  · exact ⟨0, by decide, .refl s, fun _ => rfl⟩

theorem State.pageStep_numbered (s : State) (page : Page) (m : Prop) [Decidable m] :
    ∃ n, n ≤ 1 ∧ Numbered n s (s.pageStep page m) ∧ (¬m → n = 0) := by
  unfold State.pageStep
  split
  · next h => exact (s.pageChanged_numbered page).imp fun n k => ⟨k.1, k.2, fun hn => absurd h hn⟩
  · exact ⟨0, by decide, .refl s, fun _ => rfl⟩

theorem State.reported_eq (b v : State) : b.reported v =
    ((v.statusStep (b.statusMoved v)).pageStep .zero (b.pageMoved v .zero)).pageStep .one
      (b.pageMoved v .one) := by
  have hs : b.statusMoved v ↔ (b.sld.station = .run ∧ v.sld.station = .run) ∧
      b.statusContent ≠ v.statusContent := and_assoc.symm
  have hz : b.pageMoved v .zero ↔ (b.sld.station = .run ∧ v.sld.station = .run) ∧
      b.pageZeroContent ≠ v.pageZeroContent := and_assoc.symm
  have ho : b.pageMoved v .one ↔ (b.sld.station = .run ∧ v.sld.station = .run) ∧
      ¬(b.pageOneContent = v.pageOneContent ∧ b.cmu.faults = v.cmu.faults) := by
    rw [not_and_or]; exact and_assoc.symm
  unfold State.reported State.statusStep State.pageStep
  simp only [hs, hz, ho]
  by_cases hr : b.sld.station = .run ∧ v.sld.station = .run
  · simp only [hr, and_self, if_true, true_and, ne_eq, ite_not]
  · simp only [hr, if_false, false_and]

/-- The rest of an event, whatever state the event began in. -/
theorem State.finish_rest (b u : State) : RestOfEvent b u (b.finish u) := by
  have hv := State.settled_keeps b u
  have hr := SameReport.reported b (b.settled u)
  have hms : b.statusMoved (b.finish u) ↔ b.statusMoved (b.settled u) := by
    simp only [State.statusMoved, State.finish, hr.status, hr.sld]
  have hmp : ∀ page, b.pageMoved (b.finish u) page ↔ b.pageMoved (b.settled u) page := fun page => by
    cases page <;>
      simp only [State.pageMoved, State.finish, hr.zero, hr.one, hr.sld, hr.faults]
  have hslu : (b.settled u).slu = u.slu := by simp
  have hvp : ∀ page, (b.settled u).pageSlot page = u.pageSlot page ∧
      (b.settled u).pageTimes page = u.pageTimes page := fun page => by
    cases page <;> simp [State.pageSlot, State.pageTimes]
  have hpay : ∀ page, (b.finish u).pagePayload page = (b.settled u).pagePayload page :=
    fun page => hr.payload page
  have heq := State.reported_eq b (b.settled u)
  have hfin : b.finish u = b.reported (b.settled u) := rfl
  generalize hvn : b.settled u = v at *
  set a := v.statusStep (b.statusMoved v) with ha
  set z := a.pageStep .zero (b.pageMoved v .zero) with hz
  have hst : (b.finish u).slu.statusSlot = a.slu.statusSlot ∧ (b.finish u).hou = a.hou := by
    rw [hfin, heq]
    exact ⟨(z.pageStep_status .one _).1.trans (a.pageStep_status .zero _).1,
      (z.pageStep_status .one _).2.trans (a.pageStep_status .zero _).2⟩
  have hra := SameReport.statusStep v (b.statusMoved v)
  have hrz := SameReport.pageStep a .zero (b.pageMoved v .zero)
  have hzero : (b.finish u).pageSlot .zero = z.pageSlot .zero ∧
      (b.finish u).pageTimes .zero = z.pageTimes .zero := by
    rw [hfin, heq]
    exact z.pageStep_other .one .zero _ (by decide)
  have hone : z.pageSlot .one = u.pageSlot .one ∧ z.pageTimes .one = u.pageTimes .one := by
    have h1 := a.pageStep_other .zero .one (b.pageMoved v .zero) (by decide)
    have h2 := v.statusStep_pages (b.statusMoved v) .one
    exact ⟨h1.1.trans (h2.1.trans (hvp .one).1), h1.2.trans (h2.2.trans (hvp .one).2)⟩
  have haz : a.pageSlot .zero = u.pageSlot .zero ∧ a.pageTimes .zero = u.pageTimes .zero := by
    have h2 := v.statusStep_pages (b.statusMoved v) .zero
    exact ⟨h2.1.trans (hvp .zero).1, h2.2.trans (hvp .zero).2⟩
  refine ⟨?_, ?_, ?_, ?_, ?_, ?_, ?_, ?_⟩
  · rw [hfin]
    refine Consequences.report ?_
    rw [← hvn]
    exact State.settled_consequences b u
  · intro hm
    rw [hms] at hm
    have e : a = v := by simp [ha, State.statusStep, hm]
    rw [e] at hst
    constructor
    · rw [hst.1]; simp [hslu]
    · rw [hst.2]; simp [hv]
    · rw [hst.2]; simp [hv]
    · rw [hst.2]; simp [hv]
  · intro hm hp
    rw [hms] at hm
    have e : a = v.statusChanged := by simp [ha, State.statusStep, hm]
    have k := (v.statusChanged_spec).1 (by simpa [hv] using hp)
    rw [e] at hst
    constructor
    · rw [hst.1, k.slot]; simp [hslu]
    · rw [hst.2, k.period]; simp [hv]
    · rw [hst.2, k.pacing]; simp [hv]
    · rw [hst.2, k.change]
  · intro hm hp ho
    rw [hms] at hm
    have e : a = v.statusChanged := by simp [ha, State.statusStep, hm]
    have hs : (b.finish u).sld = v.sld := by rw [hfin]; exact hr.sld
    have k := (v.statusChanged_spec).2 (by simpa [hv] using hp) (by rw [← hs]; exact ho)
    have hc : (b.finish u).config = v.statusChanged.config := by rw [hfin, hr.config]; simp
    have hcon : (b.finish u).statusContent = v.statusChanged.statusContent := by
      rw [hfin, hr.status, (SameReport.statusChanged v).status]
    rw [e] at hst
    constructor
    · rw [hst.1, hcon]
      obtain ⟨i, h1, h2, h3, h4, h5⟩ := k.slot
      exact ⟨i, h1, h2, h3, by rw [h4, hslu], by rw [h5]; simp [hv]⟩
    · rw [hst.2, k.period, hc]
    · rw [hst.2, k.pacing]
    · rw [hst.2, k.change]
  · intro page hm
    rw [hmp] at hm
    cases page
    · have e : z = a := by simp [hz, State.pageStep, hm]
      rw [hzero.1, hzero.2, e]; exact haz
    · have e : b.finish u = z := by rw [hfin, heq]; simp [State.pageStep, hm]
      rw [e]; exact hone
  · intro page hm hp
    rw [hmp] at hm
    cases page
    · have e : z = a.pageChanged .zero := by simp [hz, State.pageStep, hm]
      have k := (a.pageChanged_spec .zero).1 (by rw [haz.2]; exact hp)
      rw [hzero.1, hzero.2, e, k.1, k.2, haz.1, haz.2]
      exact ⟨rfl, rfl⟩
    · have e : b.finish u = z.pageChanged .one := by rw [hfin, heq]; simp [State.pageStep, hm]
      have k := (z.pageChanged_spec .one).1 (by rw [hone.2]; exact hp)
      rw [e, k.1, k.2, hone.1, hone.2]
      exact ⟨rfl, rfl⟩
  · intro page hm hp
    rw [hmp] at hm
    rw [hpay]
    cases page
    · have e : z = a.pageChanged .zero := by simp [hz, State.pageStep, hm]
      have k := (a.pageChanged_spec .zero).2.1 (by rw [haz.2]; exact hp)
      rw [hzero.1, hzero.2, e, ← hra.payload]
      exact k
    · have e : b.finish u = z.pageChanged .one := by rw [hfin, heq]; simp [State.pageStep, hm]
      have k := (z.pageChanged_spec .one).2.1 (by rw [hone.2]; exact hp)
      rw [e, ← hra.payload, ← hrz.payload]
      exact k
  · obtain ⟨m, hm1, hm2, hm3⟩ := v.statusStep_numbered (b.statusMoved v)
    obtain ⟨n, hn1, hn2, hn3⟩ := a.pageStep_numbered .zero (b.pageMoved v .zero)
    obtain ⟨o, ho1, ho2, ho3⟩ := z.pageStep_numbered .one (b.pageMoved v .one)
    have k := (hm2.trans hn2).trans ho2
    rw [← heq, ← hfin] at k
    refine ⟨m + n + o, by omega, by rw [k.1, hslu], by rw [k.2, hslu], fun h1 h2 => ?_⟩
    rw [hms] at h1
    have h3 := hm3 h1
    have h4 := hn3 (fun q => h2 .zero ((hmp .zero).mpr q))
    have h5 := ho3 (fun q => h2 .one ((hmp .one).mpr q))
    omega

end Sys2Proof.Machine
end

