-- ==== Sys2Proof/Laws/Image.lean ====
section
/-! SUPPORT. What an accepted image gives the inputs and outputs, read from its records, and what a
chain of the flank table holds. -/

namespace Sys2Proof.Machine

open Sys2Proof

/-! ## Records found by their number -/

theorem noRepeats_iff_nodup {α : Type} [DecidableEq α] (l : List α) :
    noRepeats l = true ↔ l.Nodup := by
  induction l with
  | nil => simp [noRepeats]
  | cons x xs ih => simp [noRepeats, ih, List.nodup_cons]

/-- In a table without two records of one number, a search by number finds the record that carries
it. -/
theorem find?_of_noRepeats {α κ : Type} [DecidableEq κ] {l : List α} {key : α → κ} {p : α → Bool}
    {r : α} (once : noRepeats (l.map key) = true) (hr : r ∈ l) (hp : p r = true)
    (same : ∀ x ∈ l, p x = true → key x = key r) : l.find? p = some r := by
  rw [noRepeats_iff_nodup] at once
  cases found : l.find? p with
  | none => exact absurd hp (by simpa using List.find?_eq_none.mp found r hr)
  | some x =>
    have hx := List.mem_of_find?_eq_some found
    rw [List.inj_on_of_nodup_map once hx hr (same x hx (List.find?_some found))]

/-! ## The bindings of an accepted image -/

/-- A listed input has what its record says (R2, R3, R4). -/
theorem configuredInput_listed {i : RawImage} {r : RawInput}
    (once : noRepeats (i.inputs.map fun r => (r.cls, r.number)) = true) (hr : r ∈ i.inputs)
    (default : Nat) :
    configuredInput i r.cls default r.number =
      ⟨inputRoleOf r, r.inverted, .started (filterLength r.cls r.length)⟩ := by
  rw [configuredInput, find?_of_noRepeats once hr (by simp) (by simp +contextual)]

/-- An input that the image does not list has the values from before acceptance (log 41). -/
theorem configuredInput_unlisted {i : RawImage} {cls default number : Nat}
    (none_of_it : ∀ r ∈ i.inputs, r.cls = cls → r.number ≠ number) :
    configuredInput i cls default number = ⟨.unbound, false, .started default⟩ := by
  rw [configuredInput, List.find?_eq_none.mpr (by simpa using none_of_it)]

/-- A listed output has what its record says (R10). -/
theorem configuredOutput_listed {i : RawImage} {r : RawOutput}
    (once : noRepeats (i.outputs.map fun r => (r.cls, r.number)) = true) (hr : r ∈ i.outputs)
    (old : OutputRec) :
    configuredOutput i r.cls r.number old =
      ⟨outputRoleOf r, r.code == 1, r.safe == 1, old.energised⟩ := by
  rw [configuredOutput, find?_of_noRepeats once hr (by simp) (by simp +contextual)]

/-- An output that the image does not list has the values from before acceptance (log 41). -/
theorem configuredOutput_unlisted {i : RawImage} {cls number : Nat} {old : OutputRec}
    (none_of_it : ∀ r ∈ i.outputs, r.cls = cls → r.number ≠ number) :
    configuredOutput i cls number old = ⟨.unbound, false, false, old.energised⟩ := by
  rw [configuredOutput, List.find?_eq_none.mpr (by simpa using none_of_it)]

/-! ## Chains -/

/-- A chain begins with its entry where that entry is configured, and is empty where it is not. -/
theorem chainFrom_head? (cfg : ZoneConfig) (fuel : Nat) (e : Fin 48) :
    (chainFrom cfg (fuel + 1) e).head? = if (cfg.flank[e]).isSome then some e else none := by
  unfold chainFrom
  cases h : cfg.flank[e] with
  | none => simp
  | some c => cases hs : c.substitute <;> simp [hs]

/-- While entries may still follow, an entry of a chain is followed by its substitute exactly where
that one is configured (R118). -/
theorem chainFrom_next (cfg : ZoneConfig) {fuel i : Nat} {e a : Fin 48} (hi : i + 1 < fuel)
    (ha : (chainFrom cfg fuel e)[i]? = some a) (b : Fin 48) :
    (chainFrom cfg fuel e)[i + 1]? = some b ↔
      (cfg.flank[a]).bind (·.substitute) = some b ∧ (cfg.flank[b]).isSome = true := by
  induction fuel generalizing e i with
  | zero => omega
  | succ fuel ih =>
    rw [chainFrom] at ha ⊢
    cases h : cfg.flank[e] with
    | none => simp [h] at ha
    | some c =>
      cases hs : c.substitute with
      | none =>
        cases i with
        | zero => simp_all
        | succ i => simp [h, hs] at ha
      | some next =>
        simp only [h, hs] at ha ⊢
        cases i with
        | succ i => exact ih (by omega) ha
        | zero =>
          obtain rfl : e = a := by simpa using ha
          obtain ⟨fuel, rfl⟩ : ∃ n, fuel = n + 1 := ⟨fuel - 1, by omega⟩
          have head := chainFrom_head? cfg fuel next
          rw [List.head?_eq_getElem?] at head
          simp only [List.getElem?_cons_succ, head, h, Option.bind_some, hs]
          split <;> simp_all <;> rintro rfl <;> simp_all

end Sys2Proof.Machine
end

