-- ==== Sys2Proof/Laws/ImageChecks.lean ====
section
/-! SUPPORT. The image as read lies where R172 lays it, and each check of R170 fails exactly where
the rules refuse the image. -/

namespace Sys2Proof.Machine

open Sys2Proof

/-! ## Layout -/

theorem byteAt_record (bs : List Byte) (off size j : Nat) (h : j < size) :
    byteAt ((bs.drop off).take size) j = octet bs (off + j) := by
  simp [byteAt, octet, List.getD_eq_getElem?_getD, List.getElem?_drop, h]

/-- The records of a table, read by a function that looks at no byte beyond a record. -/
theorem recordsOf_map {α : Type} (bs : List Byte) (t size : Nat) (raw : List Byte → α)
    (read : (Nat → Nat) → α) (hs : (tableShapes.getD t (0, 0)).2 = size)
    (h : ∀ (r : List Byte) (f : Nat → Nat), (∀ j, j < size → byteAt r j = f j) →
      raw r = read f) :
    (recordsOf bs t).map raw = recordsAt bs t size read := by
  simp only [recordsOf, directoryAt, hs, recordsAt, List.map_map, wordAt, octetPair]
  refine List.map_congr_left fun k _ => h _ _ fun j hj => ?_
  rw [byteAt_record _ _ _ _ hj]
  rfl

/-- The image as read lies where R172 lays it. -/
theorem imageLayout_rawImage (bs : List Byte) : ImageLayout bs (rawImage bs) where
  header := by simp [rawImage, byteAt, wordAt, octet, octetPair, directoryAt]
  inputs := recordsOf_map bs 0 5 _ _ rfl fun r f h => by simp [rawInput, h]
  outputs := recordsOf_map bs 1 6 _ _ rfl fun r f h => by simp [rawOutput, h]
  heads := recordsOf_map bs 2 2 _ _ rfl fun r f h => by simp [rawMarked, h]
  sections := recordsOf_map bs 3 12 _ _ rfl fun r f h => by
    simp [rawSection, h, List.range_succ]
  remoteHeads := recordsOf_map bs 4 3 _ _ rfl fun r f h => by simp [rawRemoteHead, h]
  boundary := recordsOf_map bs 5 4 _ _ rfl fun r f h => by simp [rawBoundary, h]
  points := recordsOf_map bs 6 4 _ _ rfl fun r f h => by simp [rawPoint, h]
  signals := recordsOf_map bs 7 2 _ _ rfl fun r f h => by simp [rawMarked, h]
  routes := recordsOf_map bs 8 55 _ _ rfl fun r f h => by
    simp [rawRoute, h, listAt, pairsAt, slotsAt, storedList, storedPairs, List.range_succ]
  flank := recordsOf_map bs 9 6 _ _ rfl fun r f h => by simp [rawFlank, h]
  portions := recordsOf_map bs 10 42 _ _ rfl fun r f h => by
    simp [rawPortion, h, listAt, pairsAt, slotsAt, storedList, storedPairs, List.range_succ]
  neighbours := recordsOf_map bs 11 7 _ _ rfl fun r f h => by simp [rawNeighbour, wordAt, h]
  panels := recordsOf_map bs 12 3 _ _ rfl fun r f h => by simp [rawPanel, wordAt, h]

/-! ## Checks 1 to 4 -/

theorem checkRead_iff (delivered : List Byte) :
    checkRead delivered = true ↔ ¬ImageRefused delivered .read := by
  simp only [checkRead, ImageRefused, Bool.and_eq_true, decide_eq_true_eq, not_or, not_lt]
  rfl

theorem octet_take {delivered : List Byte} {n j : Nat} (h : j < n) :
    octet (delivered.take n) j = octet delivered j := by
  simp [octet, List.getD_eq_getElem?_getD, h]

/-- The bytes up to the image length, once check 1 has passed. -/
theorem take_length {delivered : List Byte} (h : checkRead delivered = true) :
    (delivered.take (octetPair delivered 4)).length = octetPair delivered 4 := by
  simp only [checkRead, Bool.and_eq_true, decide_eq_true_eq] at h
  exact List.length_take_of_le h.2

theorem exists_getElem?_iff {l : List Nat} {P : Nat → Nat → Prop} :
    (∃ t x, l[t]? = some x ∧ P t x) ↔ ∃ t, t < l.length ∧ P t (l.getD t 0) := by
  constructor
  · rintro ⟨t, x, h, p⟩
    obtain ⟨ht, rfl⟩ := List.getElem?_eq_some_iff.mp h
    exact ⟨t, ht, by simpa [ht] using p⟩
  · rintro ⟨t, ht, p⟩
    exact ⟨t, l[t], by simp [ht], by simpa [ht] using p⟩

theorem tableSizes (t : Nat) (h : t < 13) :
    [5, 6, 2, 12, 3, 4, 4, 2, 55, 6, 42, 7, 3].getD t 0 = (tableShapes.getD t (0, 0)).2 := by
  decide +revert

theorem tableCapacities (t : Nat) (h : t < 13) :
    [128, 80, 24, 32, 8, 32, 16, 16, 64, 48, 16, 4, 2].getD t 0 =
      (tableShapes.getD t (0, 0)).1 := by
  decide +revert

theorem octet_lt (bs : List Byte) (j : Nat) : octet bs j < 256 := (bs.getD j 0).isLt

/-- The image length as its own bytes give it: too short for a header either way, or the same. -/
theorem imageLength_take (delivered : List Byte) :
    let n := octetPair delivered 4
    imageLength (delivered.take n) = n ∨ (imageLength (delivered.take n) < 50 ∧ n < 50) := by
  intro n
  by_cases h : 6 ≤ n
  · left
    show octetPair (delivered.take n) 4 = n
    rw [octetPair, octet_take (by omega), octet_take (by omega)]
    rfl
  · right
    have h4 : octet delivered 4 = 0 := by
      have : octet delivered 4 * 256 + octet delivered 5 = n := rfl
      omega
    refine ⟨?_, by omega⟩
    show octet (delivered.take n) 4 * 256 + octet (delivered.take n) 5 < 50
    have h5 : octet (delivered.take n) 5 = 0 := by
      rw [octet, List.getD_eq_getElem?_getD, List.getElem?_eq_none (by simp; omega)]
      rfl
    have h4' : octet (delivered.take n) 4 = 0 := by
      by_cases hn : 4 < n
      · rw [octet_take hn, h4]
      · rw [octet, List.getD_eq_getElem?_getD, List.getElem?_eq_none (by simp; omega)]
        rfl
    omega

theorem checkHeader_iff (delivered : List Byte) :
    checkHeader (delivered.take (imageLength delivered)) = true ↔
      ¬ImageRefused delivered .header := by
  have hn : imageLength delivered = octetPair delivered 4 := rfl
  simp only [ImageRefused, exists_getElem?_iff, hn]
  generalize hb : delivered.take (octetPair delivered 4) = bs
  have := imageLength_take delivered
  simp only [hb] at this
  have shape : ∀ t, directoryAt bs t = (octetPair bs (11 + 3 * t), octet bs (13 + 3 * t)) :=
    fun _ => rfl
  simp only [checkHeader, Bool.and_eq_true, decide_eq_true_eq, beq_iff_eq, List.all_eq_true,
    List.mem_range, Bool.or_eq_true, not_or, not_exists, not_and, not_not, not_lt, shape]
  rcases this with e | ⟨short, short'⟩
  · rw [e]
    simp only [and_assoc]
    refine and_congr_right fun _ => and_congr_right fun _ => and_congr_right fun _ => ?_
    refine forall_congr' fun t => forall_congr' fun ht => ?_
    rw [tableSizes t ht]
    omega
  · constructor <;> intro h <;> omega

theorem checkCrc_iff {delivered : List Byte} (h : checkRead delivered = true)
    (hh : checkHeader (delivered.take (imageLength delivered)) = true) :
    checkCrc (delivered.take (imageLength delivered)) = true ↔ ¬ImageRefused delivered .crc := by
  have hn : imageLength delivered = octetPair delivered 4 := rfl
  have hl := take_length h
  have h50 : 50 ≤ octetPair delivered 4 := by
    rw [checkHeader_iff] at hh
    simp only [ImageRefused, not_or] at hh
    omega
  simp only [ImageRefused, hn]
  generalize delivered.take (octetPair delivered 4) = bs at *
  generalize octetPair delivered 4 = n at *
  subst hl
  have split : bs.drop (bs.length - 4) = [bs.getD (bs.length - 4) 0, bs.getD (bs.length - 4 + 1) 0,
      bs.getD (bs.length - 4 + 2) 0, bs.getD (bs.length - 4 + 3) 0] := by
    apply List.ext_getElem
    · simp; omega
    · intro i h1 h2
      simp only [List.length_cons, List.length_nil] at h2
      rw [List.getElem_drop]
      interval_cases i <;> simp [List.getD_eq_getElem?_getD] <;>
        rw [List.getElem?_eq_getElem (by omega)] <;> rfl
  simp only [checkCrc, split]
  generalize crc32 (bs.take (bs.length - 4)) = c
  simp only [beq_iff_eq, List.cons.injEq, and_true, not_exists, not_and, not_not, octet]
  constructor
  · rintro ⟨e0, e1, e2, e3⟩ j hj
    interval_cases j <;> simp only [Nat.add_zero, e0, e1, e2, e3, BitVec.extractLsb'_toNat,
      Nat.shiftRight_eq_div_pow] <;> norm_num
  · intro e
    have e0 := e 0 (by omega)
    have e1 := e 1 (by omega)
    have e2 := e 2 (by omega)
    have e3 := e 3 (by omega)
    refine ⟨?_, ?_, ?_, ?_⟩ <;> apply BitVec.eq_of_toNat_eq <;>
      simp only [Nat.add_zero] at e0 <;>
      simp only [e0, e1, e2, e3, BitVec.extractLsb'_toNat, Nat.shiftRight_eq_div_pow] <;> rfl

theorem checkCount_iff (delivered : List Byte) :
    checkCount (rawImage (delivered.take (imageLength delivered))) = true ↔
      ¬ImageRefused delivered .count := by
  have hn : imageLength delivered = octetPair delivered 4 := rfl
  simp only [ImageRefused, exists_getElem?_iff, hn]
  generalize delivered.take (octetPair delivered 4) = bs
  have counts := (imageLayout_rawImage bs).header.2.2.2
  generalize rawImage bs = i at *
  have one : 1 ≤ i.panels.length ↔ ¬i.panels = [] := by
    rw [← List.length_eq_zero_iff]; omega
  simp only [checkCount, Bool.and_eq_true, decide_eq_true_eq,
    List.all_eq_true, List.mem_range, not_or, not_exists, not_and, not_lt, counts, and_assoc, one]
  simp only [RawSection.isBoundary]
  refine and_congr_left fun _ => forall_congr' fun t => forall_congr' fun ht => ?_
  rw [tableCapacities t ht]
  simp [List.getD_eq_getElem?_getD, show t < 13 from ht]

/-- The own address that the header gives: 1 to 30, of 7 bytes read (R172). -/
theorem headerAddress_iff (delivered : List Byte) (a : Byte) :
    headerAddress delivered = some a ↔
      7 ≤ delivered.length ∧ delivered[6]? = some a ∧ 1 ≤ a.toNat ∧ a.toNat ≤ 30 := by
  unfold headerAddress
  by_cases h : 7 ≤ delivered.length
  · have e : delivered[6]? = some delivered[6] := by simp
    simp only [byteAt, List.getD_eq_getElem?_getD, e, Option.getD_some, h, true_and,
      Option.some.injEq]
    split_ifs with c
    · constructor
      · rintro ⟨⟩
        exact ⟨rfl, c⟩
      · rintro ⟨rfl, _⟩
        rfl
    · simp only [false_iff]
      rintro ⟨rfl, d⟩
      exact c d
  · simp [h]

/-! ## Check 5 -/

/-- At most one value is in a list exactly where any two of its values are equal. -/
theorem distinct_length_le_one {α : Type} [DecidableEq α] (l : List α) :
    (distinct l).length ≤ 1 ↔ ∀ x ∈ l, ∀ y ∈ l, x = y := by
  constructor
  · intro h x hx y hy
    have hx := (mem_distinct x l).mpr hx
    have hy := (mem_distinct y l).mpr hy
    match hd : distinct l, h with
    | [], _ => simp [hd] at hx
    | [a], _ => simp_all
  · intro h
    have nd := nodup_distinct l
    match hd : distinct l with
    | [] => simp
    | [a] => simp
    | a :: b :: rest =>
      have ha := (mem_distinct a l).mp (by simp [hd])
      have hb := (mem_distinct b l).mp (by simp [hd])
      simp [hd, h a ha b hb] at nd

theorem any_key_iff {α : Type} (l : List α) (key : α → Nat) (n : Nat) :
    l.any (fun r => key r == n) = true ↔ n ∈ l.map key := by
  simp

theorem not_misnumbered {α : Type} (l : List α) (key : α → Nat) (n : Nat) :
    ¬Misnumbered (l.map key) n ↔
      noRepeats (l.map key) = true ∧ l.all (fun r => decide (key r < n)) = true := by
  simp [Misnumbered, noRepeats_iff_nodup]

theorem inputFields_iff (i : RawImage) (r : RawInput) :
    (r.cls ≤ 1 && r.number < (if r.cls = 0 then 48 else 80) && r.role ≤ 7 &&
      i.inputRoleOk r) = true ↔ ¬i.InputBroken r := by
  rw [RawImage.InputBroken, ← any_key_iff, ← any_key_iff, ← any_key_iff]
  unfold RawImage.inputRoleOk RawImage.hasHead RawImage.hasPoint RawImage.hasSignal
  generalize i.heads.any _ = h
  generalize i.points.any _ = p
  generalize i.signals.any _ = g
  have number : (r.number < if r.cls = 0 then 48 else 80) ↔
      (r.cls = 0 → r.number < 48) ∧ (r.cls ≠ 0 → r.number < 80) := by split_ifs <;> simp [*]
  simp only [List.mem_cons, List.not_mem_nil, or_false, Bool.and_eq_true, decide_eq_true_eq, number]
  obtain ⟨cls, number, role, element, inverted, length⟩ := r
  rcases role with _ | _ | _ | _ | _ | role <;> cases h <;> cases p <;> cases g <;> simp <;> omega

theorem outputFields_iff (i : RawImage) (r : RawOutput) :
    (r.cls ≤ 1 && r.number < (if r.cls = 0 then 48 else 32) && r.role ≤ 5 && r.code ≤ 1 &&
      r.safe ≤ 1 && i.outputRoleOk r) = true ↔ ¬i.OutputBroken r := by
  rw [RawImage.OutputBroken, ← any_key_iff, ← any_key_iff]
  unfold RawImage.outputRoleOk RawImage.hasPoint RawImage.hasSignal
  generalize i.points.any _ = p
  generalize i.signals.any _ = g
  have number : (r.number < if r.cls = 0 then 48 else 32) ↔
      (r.cls = 0 → r.number < 48) ∧ (r.cls ≠ 0 → r.number < 32) := by split_ifs <;> simp [*]
  simp only [List.mem_cons, List.not_mem_nil, or_false, Bool.and_eq_true, decide_eq_true_eq, number]
  obtain ⟨cls, number, role, element, code, safe⟩ := r
  rcases role with _ | _ | _ | _ | role <;> cases p <;> cases g <;> simp <;> omega

/-- Numbers, fields and roles of inputs, outputs and elements. -/
theorem checkElements_iff (i : RawImage) :
    (checkNumbers i = true ∧ checkIoFields i = true ∧ checkAddresses i = true ∧
      checkElements i = true) ↔ ¬i.ElementsBroken := by
  have io : checkIoFields i = true ↔
      (∀ r ∈ i.inputs, ¬i.InputBroken r) ∧ ∀ r ∈ i.outputs, ¬i.OutputBroken r := by
    unfold checkIoFields
    rw [Bool.and_eq_true, List.all_eq_true, List.all_eq_true]
    exact and_congr (forall₂_congr fun r _ => inputFields_iff i r)
      (forall₂_congr fun r _ => outputFields_iff i r)
  have addresses : checkAddresses i = true ↔
      (let addresses := i.ownAddress :: (i.neighbours.map (·.address) ++ i.panels.map (·.address))
       (∀ a ∈ addresses, ¬(a = 0 ∨ 30 < a)) ∧ addresses.Nodup ∧
       (∀ n ∈ i.neighbours, ¬(n.code = 0 ∨ 3 < n.policy ∨ ∃ m ∈ i.neighbours, m.code ≠ n.code)) ∧
       ∀ p ∈ i.panels, ¬(p.code = 0 ∨ ∃ q ∈ i.panels, q.code ≠ p.code)) := by
    unfold checkAddresses
    simp only [Bool.and_eq_true, List.all_eq_true, decide_eq_true_eq, noRepeats_iff_nodup,
      distinct_length_le_one, List.forall_mem_map, and_assoc, not_or, not_lt, not_exists, not_and,
      not_not, ne_eq]
    constructor
    · rintro ⟨a, b, c, d, e, f⟩
      refine ⟨fun x hx => ⟨?_, (a x hx).2⟩, b, fun n hn => ⟨(c n hn).1, (c n hn).2, fun m hm => ?_⟩,
        fun p hp => ⟨d p hp, fun q hq => ?_⟩⟩
      · have := (a x hx).1; omega
      · exact e m hm n hn
      · exact f q hq p hp
    · rintro ⟨a, b, c, d⟩
      refine ⟨fun x hx => ⟨?_, (a x hx).2⟩, b, fun n hn => ⟨(c n hn).1, (c n hn).2.1⟩,
        fun p hp => (d p hp).1, fun m hm n hn => (c n hn).2.2 m hm,
        fun q hq p hp => (d p hp).2 q hq⟩
      have := (a x hx).1; omega
  have number : ∀ b : RawBoundary, (b.number < if b.kind = 0 then 32 else 16) ↔
      ¬(b.kind = 0 ∧ 32 ≤ b.number) ∧ ¬(b.kind ≠ 0 ∧ 16 ≤ b.number) := by
    intro b
    split_ifs <;> simp [*]
  have elements : checkElements i = true ↔
      (∀ r ∈ i.heads, ¬1 < r.reported) ∧ (∀ r ∈ i.signals, ¬1 < r.reported) ∧
      (∀ r ∈ i.remoteHeads, ¬(r.neighbour ∉ i.neighbours.map (·.index) ∨ 24 ≤ r.head)) ∧
      (∀ b ∈ i.boundary, ¬(b.neighbour ∉ i.neighbours.map (·.index) ∨ 2 < b.kind ∨
        (b.kind = 0 ∧ 32 ≤ b.number) ∨ (b.kind ≠ 0 ∧ 16 ≤ b.number))) ∧
      ∀ p ∈ i.points, ¬(p.track ∉ i.sections.map (·.number) ∨ 1 < p.individual) := by
    unfold checkElements
    simp only [← any_key_iff]
    simp only [RawImage.hasNeighbour, RawImage.hasSection, Bool.and_eq_true, List.all_eq_true,
      decide_eq_true_eq, and_assoc, not_or, not_lt, not_le, not_not, number]
  unfold RawImage.ElementsBroken
  simp only [not_or, not_misnumbered, not_exists, not_and, not_not, io, addresses, elements]
  unfold checkNumbers
  simp only [Bool.and_eq_true, noRepeats_iff_nodup, and_assoc]

/-- The neighbours whose remote heads bound a section, in a remote head table without an entry
twice. -/
theorem boundNeighbours_iff {i : RawImage} (once : noRepeats (i.remoteHeads.map (·.entry)) = true)
    (r : RawSection) (n : Nat) : n ∈ i.boundNeighbours r ↔ i.BoundedBy r n := by
  simp only [RawImage.boundNeighbours, RawImage.BoundedBy, List.mem_filterMap, List.mem_filter,
    Option.map_eq_some_iff]
  constructor
  · rintro ⟨b, ⟨hb, remote⟩, h, found, rfl⟩
    exact ⟨b, hb, remote, h, List.mem_of_find?_eq_some found,
      by simpa using List.find?_some found, rfl⟩
  · rintro ⟨b, hb, remote, h, hh, e, rfl⟩
    exact ⟨b, ⟨hb, remote⟩, h,
      find?_of_noRepeats once hh (by simp [e]) (by simp +contextual [e]), rfl⟩

/-- A list of keys holds one key as often as lists of a table have it, where no list has it
twice. -/
theorem count_flatMap_eq {α κ : Type} [BEq κ] [LawfulBEq κ] [DecidableEq κ] (l : List α)
    (keys : α → List κ) (k : κ) (once : ∀ r ∈ l, (keys r).Nodup) :
    (l.flatMap keys).count k = (l.filter fun r => k ∈ keys r).length := by
  induction l with
  | nil => simp
  | cons r rs ih =>
    have one : (keys r).count k = if k ∈ keys r then 1 else 0 := by
      split_ifs with h
      · exact List.count_eq_one_of_mem (once r (by simp)) h
      · exact List.count_eq_zero_of_not_mem h
    rw [List.flatMap_cons, List.count_append, one, ih fun x hx => once x (by simp [hx]),
      List.filter_cons]
    split_ifs <;> simp_all [Nat.add_comm]

theorem checkSections_iff {i : RawImage} (once : noRepeats (i.remoteHeads.map (·.entry)) = true) :
    checkSections i = true ↔ ¬i.SectionsBroken := by
  have each : ∀ r : RawSection,
      (1 ≤ r.count && r.count ≤ 4 &&
        r.bounds.all (fun b =>
          (if b.remote then i.hasRemoteHead b.index else i.hasHead b.index) &&
            (b.orientation == 1 || b.orientation == 255)) &&
        noRepeats (r.bounds.map fun b => (b.remote, b.index)) &&
        (r.neighbourNumber < 32 || r.neighbourNumber == 255) &&
        (!r.isBoundary || r.neighbourNumber ≠ 255) &&
        (distinct (i.boundNeighbours r)).length ≤ 1 && r.owner ≤ 4 &&
        (r.owner == 0 || (r.isBoundary && (i.boundNeighbours r).all (fun n => n + 1 == r.owner)))) =
        true ↔ ¬i.SectionBroken r := by
    intro r
    have bound : (r.bounds.all (fun b =>
          (if b.remote then i.hasRemoteHead b.index else i.hasHead b.index) &&
            (b.orientation == 1 || b.orientation == 255))) = true ↔
        ¬∃ b ∈ r.bounds, (b.remote = true ∧ b.index ∉ i.remoteHeads.map (·.entry)) ∨
          (b.remote = false ∧ b.index ∉ i.heads.map (·.number)) ∨
          (b.orientation ≠ 1 ∧ b.orientation ≠ 255) := by
      rw [List.all_eq_true]
      simp only [not_exists, not_and]
      refine forall₂_congr fun b _ => ?_
      rw [← any_key_iff, ← any_key_iff]
      unfold RawImage.hasRemoteHead RawImage.hasHead
      generalize i.remoteHeads.any _ = x
      generalize i.heads.any _ = y
      cases b.remote <;> cases x <;> cases y <;> simp <;> omega
    simp only [RawImage.SectionBroken, Bool.and_eq_true, bound, noRepeats_iff_nodup,
      distinct_length_le_one, boundNeighbours_iff once, List.all_eq_true, Bool.or_eq_true,
      decide_eq_true_eq, beq_iff_eq, and_assoc, RawSection.isBoundary]
    have remote : (r.bounds.any fun b => b.remote) = true ↔ ∃ b ∈ r.bounds, b.remote = true := by
      simp
    have local_ : (!r.bounds.any fun b => b.remote) = true ↔ ¬∃ b ∈ r.bounds, b.remote = true := by
      simp
    have bounded : ∀ n, i.BoundedBy r n → ∃ b ∈ r.bounds, b.remote = true :=
      fun n ⟨b, hb, h, _⟩ => ⟨b, hb, h⟩
    rw [remote, local_]
    simp only [not_or, not_lt, not_not]
    have single_iff : (∀ m, i.BoundedBy r m → ∀ n, i.BoundedBy r n → m = n) ↔
        ¬∃ m n, i.BoundedBy r m ∧ i.BoundedBy r n ∧ m ≠ n :=
      ⟨fun h ⟨m, n, hm, hn, ne⟩ => ne (h m hm n hn),
        fun h m hm n hn => by_contra fun ne => h ⟨m, n, hm, hn, ne⟩⟩
    refine and_congr_right fun _ => and_congr_right fun _ => and_congr_right fun refs =>
      and_congr_right fun _ => and_congr (by omega) (and_congr not_and_or.symm
        ((and_congr single_iff Iff.rfl).trans (and_congr_right fun single =>
          and_congr_right fun _ => ?_)))
    have named : (∃ b ∈ r.bounds, b.remote = true) → ∃ n, i.BoundedBy r n := by
      rintro ⟨b, hb, h⟩
      have : b.index ∈ i.remoteHeads.map (·.entry) := by
        by_contra hn
        exact refs ⟨b, hb, Or.inl ⟨h, hn⟩⟩
      obtain ⟨x, hx, e⟩ := List.mem_map.mp this
      exact ⟨x.neighbour, b, hb, h, x, hx, e, rfl⟩
    constructor
    · rintro (h | ⟨h, all⟩) ⟨zero, other⟩
      · exact zero h
      · obtain ⟨n, hn⟩ := named h
        exact other (by rw [← all n hn]; exact hn)
    · intro h
      by_cases zero : r.owner = 0
      · exact Or.inl zero
      · have own : i.BoundedBy r (r.owner - 1) := by
          by_contra hn
          exact h ⟨zero, hn⟩
        refine Or.inr ⟨bounded _ own, fun n hn => ?_⟩
        have : n = r.owner - 1 := by
          by_contra ne
          exact single ⟨n, _, hn, own, ne⟩
        omega
  unfold checkSections RawImage.SectionsBroken
  rw [Bool.and_eq_true, List.all_eq_true, not_or, forall₂_congr fun r _ => each r]
  simp only [not_exists, not_and, List.all_eq_true, decide_eq_true_eq, not_lt]
  refine and_congr_right fun good => ?_
  have nodup : ∀ r ∈ i.sections, (r.bounds.map fun b => (b.remote, b.index)).Nodup := by
    intro r hr
    have := good r hr
    simp only [RawImage.SectionBroken, not_or, not_not] at this
    exact this.2.2.2.1
  have counts := fun k => count_flatMap_eq i.sections
    (fun r => r.bounds.map fun b => (b.remote, b.index)) k nodup
  simp only [counts]
  constructor
  · intro h b
    by_cases hb : b ∈ i.sections.flatMap fun r => r.bounds.map fun b => (b.remote, b.index)
    · exact h b hb
    · rw [← counts, List.count_eq_zero_of_not_mem hb]
      omega
  · exact fun h b _ => h b

theorem listOk_iff {l : RawList} {least most : Nat} {has : Nat → Bool} {configured : List Nat}
    (slots : l.slots.length = most) (iff : ∀ k, has k = true ↔ k ∈ configured) :
    listOk l least has = true ↔ ¬l.Broken least most configured := by
  simp [listOk, RawList.Broken, slots, iff, and_assoc]

theorem pairsOk_iff {i : RawImage} {l : RawPairs} {most : Nat} (slots : l.slots.length = most) :
    pairsOk i l = true ↔ ¬l.Broken most i := by
  simp only [pairsOk, RawPairs.Broken, slots, RawImage.hasPoint, any_key_iff, Bool.and_eq_true,
    decide_eq_true_eq, List.all_eq_true, not_or, not_exists, not_and, not_lt, not_not]

theorem trackIn_iff {i : RawImage} (once : noRepeats (i.points.map (·.number)) = true)
    (path : RawList) (p : Nat × Nat) : i.trackIn path p = true ↔ ¬i.OffPath path.items p.1 := by
  unfold RawImage.trackIn RawImage.OffPath
  rw [not_not]
  cases found : i.points.find? (·.number == p.1) with
  | none =>
    have := List.find?_eq_none.mp found
    simp only [Bool.false_eq_true, false_iff]
    rintro ⟨q, hq, e, -⟩
    exact this q hq (by simp [e])
  | some q =>
    have hq := List.mem_of_find?_eq_some found
    have e : q.number = p.1 := by simpa using List.find?_some found
    simp only [List.contains_iff_mem]
    constructor
    · exact fun h => ⟨q, hq, e, h⟩
    · rintro ⟨x, hx, ex, h⟩
      have : i.points.find? (·.number == p.1) = some x :=
        find?_of_noRepeats once hx (by simp [ex]) (by simp +contextual [ex])
      rw [found] at this
      rw [Option.some.inj this]
      exact h

/-- The boundary sections of a neighbour, in an image whose sections pass. -/
theorem isBoundaryOf_iff {i : RawImage} (heads : noRepeats (i.remoteHeads.map (·.entry)) = true)
    (once : noRepeats (i.sections.map (·.number)) = true) (good : ¬i.SectionsBroken) (k n : Nat) :
    i.isBoundaryOf k n = true ↔ i.BoundarySection k n := by
  unfold RawImage.isBoundaryOf RawImage.BoundarySection
  cases found : i.sections.find? (·.number == k) with
  | none =>
    have := List.find?_eq_none.mp found
    simp only [Bool.false_eq_true, false_iff]
    rintro ⟨q, hq, e, -⟩
    exact this q hq (by simp [e])
  | some r =>
    have hr := List.mem_of_find?_eq_some found
    have e : r.number = k := by simpa using List.find?_some found
    have ok : ¬i.SectionBroken r := fun h => good (Or.inl ⟨r, hr, h⟩)
    simp only [RawImage.SectionBroken, not_or] at ok
    obtain ⟨-, -, refs, -, -, -, single, -, -⟩ := ok
    simp only [Bool.and_eq_true, List.all_eq_true, boundNeighbours_iff heads, beq_iff_eq,
      RawSection.isBoundary, List.any_eq_true]
    constructor
    · rintro ⟨⟨b, hb, remote⟩, all⟩
      have : b.index ∈ i.remoteHeads.map (·.entry) := by
        by_contra hn
        exact refs ⟨b, hb, Or.inl ⟨remote, hn⟩⟩
      obtain ⟨x, hx, ex⟩ := List.mem_map.mp this
      have bounded : i.BoundedBy r x.neighbour := ⟨b, hb, remote, x, hx, ex, rfl⟩
      exact ⟨r, hr, e, by rw [← all _ bounded]; exact bounded⟩
    · rintro ⟨x, hx, ex, bounded⟩
      have : i.sections.find? (·.number == k) = some x :=
        find?_of_noRepeats once hx (by simp [ex]) (by simp +contextual [ex])
      rw [found] at this
      obtain rfl := Option.some.inj this
      obtain ⟨b, hb, remote, -⟩ := id bounded
      refine ⟨⟨b, hb, remote⟩, fun m hm => ?_⟩
      by_contra ne
      exact single ⟨m, n, hm, bounded, ne⟩

/-- The slots of the lists of a route as stored. -/
def RawRoute.Stored (r : RawRoute) : Prop :=
  r.path.slots.length = 8 ∧ r.points.slots.length = 8 ∧ r.overlap.slots.length = 2 ∧
    r.overlapPoints.slots.length = 2 ∧ r.approach.slots.length = 3 ∧ r.flank.slots.length = 6

/-- The slots of the lists of a portion as stored. -/
def RawPortion.Stored (r : RawPortion) : Prop :=
  r.path.slots.length = 6 ∧ r.points.slots.length = 8 ∧ r.overlap.slots.length = 2 ∧
    r.overlapPoints.slots.length = 2 ∧ r.flank.slots.length = 6

theorem rawRoute_stored (bs : List Byte) : ∀ r ∈ (rawImage bs).routes, r.Stored := by
  intro r hr
  obtain ⟨b, -, rfl⟩ := List.mem_map.mp (show r ∈ (recordsOf bs 8).map rawRoute from hr)
  simp [RawRoute.Stored, rawRoute, listAt, pairsAt, slotsAt]

theorem rawPortion_stored (bs : List Byte) : ∀ r ∈ (rawImage bs).portions, r.Stored := by
  intro r hr
  obtain ⟨b, -, rfl⟩ := List.mem_map.mp (show r ∈ (recordsOf bs 10).map rawPortion from hr)
  simp [RawPortion.Stored, rawPortion, listAt, pairsAt, slotsAt]

/-- The exit of a route, as check 5 judges it. -/
theorem exit_iff {i : RawImage} (once : noRepeats (i.boundary.map (·.entry)) = true)
    (r : RawRoute) :
    (r.exitKind ≤ 1 && (if r.exitKind = 0 then i.hasSignal r.exitNumber && r.exitNumber ≠ r.entry
     else
      match i.boundary.find? (·.entry == r.exitNumber) with
      | none => false
      | some b => b.kind == 2 && r.neighbour ≠ 255 && b.neighbour == r.neighbour)) = true ↔
    ¬(1 < r.exitKind) ∧
    ¬(r.exitKind = 0 ∧ (r.exitNumber ∉ i.signals.map (·.number) ∨ r.exitNumber = r.entry)) ∧
    ¬(r.exitKind = 1 ∧ ¬∃ b ∈ i.boundary, b.entry = r.exitNumber ∧ b.kind = 2 ∧
      b.neighbour = r.neighbour ∧ r.neighbour ≠ 255) := by
  have remote : (match i.boundary.find? (·.entry == r.exitNumber) with
      | none => false
      | some b => b.kind == 2 && r.neighbour ≠ 255 && b.neighbour == r.neighbour) = true ↔
      ∃ b ∈ i.boundary, b.entry = r.exitNumber ∧ b.kind = 2 ∧
        b.neighbour = r.neighbour ∧ r.neighbour ≠ 255 := by
    cases found : i.boundary.find? (·.entry == r.exitNumber) with
    | none =>
      have := List.find?_eq_none.mp found
      simp only [Bool.false_eq_true, false_iff]
      rintro ⟨q, hq, e, -⟩
      exact this q hq (by simp [e])
    | some b =>
      have hb := List.mem_of_find?_eq_some found
      have e : b.entry = r.exitNumber := by simpa using List.find?_some found
      simp only [Bool.and_eq_true, beq_iff_eq, decide_eq_true_eq]
      constructor
      · rintro ⟨⟨k, n⟩, m⟩
        exact ⟨b, hb, e, k, m, n⟩
      · rintro ⟨x, hx, ex, k, m, n⟩
        have : i.boundary.find? (·.entry == r.exitNumber) = some x :=
          find?_of_noRepeats once hx (by simp [ex]) (by simp +contextual [ex])
        rw [found] at this
        obtain rfl := Option.some.inj this
        exact ⟨⟨k, n⟩, m⟩
  rw [Bool.and_eq_true, decide_eq_true_eq]
  by_cases zero : r.exitKind = 0
  · rw [if_pos zero, Bool.and_eq_true, RawImage.hasSignal, any_key_iff, decide_eq_true_eq]
    simp only [zero]
    tauto
  · rw [if_neg zero, remote]
    by_cases one : r.exitKind = 1
    · simp [one]
    · simp only [zero, one, false_and, not_false_eq_true, and_true]
      omega

/-- A path that passes has a first and a last section. -/
theorem path_ne_nil {l : RawList} {most : Nat} {configured : List Nat}
    (slots : l.slots.length = most) (h : ¬l.Broken 1 most configured) : l.items ≠ [] := by
  simp only [RawList.Broken, not_or] at h
  intro e
  have : l.items.length = min l.count l.slots.length := by simp [RawList.items]
  rw [e] at this
  simp at this
  omega

/-- What the checks of routes and portions rest on: tables without a number twice, and sections that
pass. -/
structure RawImage.Sound (i : RawImage) : Prop where
  heads : noRepeats (i.remoteHeads.map (·.entry)) = true
  sections : noRepeats (i.sections.map (·.number)) = true
  points : noRepeats (i.points.map (·.number)) = true
  boundary : noRepeats (i.boundary.map (·.entry)) = true
  flank : noRepeats (i.flank.map (·.entry)) = true
  good : ¬i.SectionsBroken

/-- The portion request of a route, as check 5 judges it. -/
theorem request_iff {i : RawImage} (sound : i.Sound) (r : RawRoute)
    (slots : r.path.slots.length = 8) (h : ¬r.path.Broken 1 8 (i.sections.map (·.number))) :
    (r.neighbour == 255 || (i.hasNeighbour r.neighbour && r.portion < 16 &&
      i.isBoundaryOf (r.path.items.getLastD 255) r.neighbour)) = true ↔
    ¬(r.neighbour ≠ 255 ∧ (r.neighbour ∉ i.neighbours.map (·.index) ∨ 16 ≤ r.portion ∨
      ¬∃ k, r.path.items.getLast? = some k ∧ i.BoundarySection k r.neighbour)) := by
  obtain ⟨k, hk⟩ : ∃ k, r.path.items.getLast? = some k :=
    ⟨_, List.getLast?_eq_getLast_of_ne_nil (path_ne_nil slots h)⟩
  have last : r.path.items.getLastD 255 = k := by
    rw [List.getLastD_eq_getLast?, hk, Option.getD_some]
  have named : i.hasNeighbour r.neighbour = true ↔ r.neighbour ∈ i.neighbours.map (·.index) :=
    any_key_iff _ _ _
  simp only [Bool.or_eq_true, Bool.and_eq_true, beq_iff_eq, decide_eq_true_eq, last, named,
    isBoundaryOf_iff sound.heads sound.sections sound.good, hk, Option.some.injEq,
    exists_eq_left']
  generalize i.BoundarySection k r.neighbour = B
  generalize (r.neighbour ∈ i.neighbours.map (·.index)) = N
  clear named last hk h sound
  by_cases r.neighbour = 255 <;> by_cases N <;> by_cases B <;> simp [*]

theorem checkRoutes_iff {i : RawImage} (sound : i.Sound) (stored : ∀ r ∈ i.routes, r.Stored) :
    checkRoutes i = true ↔ ¬∃ r ∈ i.routes, i.RouteBroken r := by
  unfold checkRoutes
  rw [List.all_eq_true]
  simp only [not_exists, not_and]
  refine forall₂_congr fun r hr => ?_
  obtain ⟨s1, s2, s3, s4, s5, s6⟩ := stored r hr
  have exits := exit_iff sound.boundary r
  rw [Bool.and_eq_true, decide_eq_true_eq] at exits
  simp only [RawImage.RouteBroken, not_or]
  simp only [Bool.and_eq_true]
  have sections : ∀ k, i.hasSection k = true ↔ k ∈ i.sections.map (·.number) :=
    any_key_iff _ _
  have flank : ∀ k, i.hasFlank k = true ↔ k ∈ i.flank.map (·.entry) := any_key_iff _ _
  simp only [listOk_iff s1 sections, listOk_iff s3 sections, listOk_iff s5 sections,
    listOk_iff s6 flank, pairsOk_iff s2, pairsOk_iff s4, List.all_eq_true, trackIn_iff sound.points,
    noRepeats_iff_nodup, and_assoc, decide_eq_true_eq]
  have callOn : r.cls ≤ 1 →
      ((r.cls == 0 || (r.overlap.count == 0 && r.overlapPoints.count == 0)) = true ↔
        ¬(r.cls = 1 ∧ (r.overlap.count ≠ 0 ∨ r.overlapPoints.count ≠ 0))) := by
    intro h
    simp only [Bool.or_eq_true, Bool.and_eq_true, beq_iff_eq]
    omega
  have request := request_iff sound r s1
  have entry : i.hasSignal r.entry = true ↔ r.entry ∈ i.signals.map (·.number) :=
    any_key_iff _ _ _
  constructor
  · rintro ⟨c, sg, ek, ex, p, a1, a2, a3, a4, a5, n1, n2, co, tr, rq⟩
    obtain ⟨x1, x2, x3⟩ := exits.mp ⟨ek, ex⟩
    exact ⟨by omega, not_not.mpr (entry.mp sg), x1, x2, x3, p, a1, a2, a3, a4, a5, not_not.mpr n1,
      not_not.mpr (by rw [List.map_append]; exact n2), (callOn c).mp co,
      fun ⟨q, hq, h⟩ => tr q hq h, (request p).mp rq⟩
  · rintro ⟨c, sg, x1, x2, x3, p, a1, a2, a3, a4, a5, n1, n2, co, tr, rq⟩
    obtain ⟨ek, ex⟩ := exits.mpr ⟨x1, x2, x3⟩
    refine ⟨by omega, entry.mpr (not_not.mp sg), ek, ex, p, a1, a2, a3, a4, a5, not_not.mp n1, ?_,
      (callOn (by omega)).mpr co, fun q hq h => tr ⟨q, hq, h⟩, (request p).mpr rq⟩
    rw [← List.map_append]
    exact not_not.mp n2

theorem checkPortions_iff {i : RawImage} (sound : i.Sound)
    (stored : ∀ r ∈ i.portions, r.Stored) :
    checkPortions i = true ↔ ¬∃ r ∈ i.portions, i.PortionBroken r := by
  unfold checkPortions
  rw [List.all_eq_true]
  simp only [not_exists, not_and]
  refine forall₂_congr fun r hr => ?_
  obtain ⟨s1, s2, s3, s4, s5⟩ := stored r hr
  simp only [RawImage.PortionBroken, not_or]
  simp only [Bool.and_eq_true]
  have sections : ∀ k, i.hasSection k = true ↔ k ∈ i.sections.map (·.number) :=
    any_key_iff _ _
  have flank : ∀ k, i.hasFlank k = true ↔ k ∈ i.flank.map (·.entry) := any_key_iff _ _
  simp only [listOk_iff s1 sections, listOk_iff s3 sections, listOk_iff s5 flank, pairsOk_iff s2,
    pairsOk_iff s4, List.all_eq_true, trackIn_iff sound.points, noRepeats_iff_nodup, and_assoc]
  have first : ¬r.path.Broken 1 6 (i.sections.map (·.number)) →
      (i.isBoundaryOf (r.path.items.headD 255) r.neighbour = true ↔
      ¬¬∃ k, r.path.items.head? = some k ∧ i.BoundarySection k r.neighbour) := by
    intro h
    obtain ⟨k, rest, e⟩ := List.exists_cons_of_ne_nil (path_ne_nil s1 h)
    rw [isBoundaryOf_iff sound.heads sound.sections sound.good, not_not]
    simp [e]
  have named : i.hasNeighbour r.neighbour = true ↔ r.neighbour ∈ i.neighbours.map (·.index) :=
    any_key_iff _ _ _
  have exit_ : i.hasSignal r.exit = true ↔ r.exit ∈ i.signals.map (·.number) :=
    any_key_iff _ _ _
  rw [named, exit_]
  constructor
  · rintro ⟨n, x, p, a1, a2, a3, a4, n1, n2, tr, b⟩
    exact ⟨not_not.mpr n, not_not.mpr x, p, a1, a2, a3, a4, not_not.mpr n1,
      not_not.mpr (by rw [List.map_append]; exact n2), fun ⟨q, hq, h⟩ => tr q hq h, (first p).mp b⟩
  · rintro ⟨n, x, p, a1, a2, a3, a4, n1, n2, tr, b⟩
    refine ⟨not_not.mp n, not_not.mp x, p, a1, a2, a3, a4, not_not.mp n1, ?_,
      fun q hq h => tr ⟨q, hq, h⟩, (first p).mpr b⟩
    rw [← List.map_append]
    exact not_not.mp n2

theorem checkFlankFields_iff (i : RawImage) :
    checkFlankFields i = true ↔ ¬∃ r ∈ i.flank, i.FlankBroken r := by
  unfold checkFlankFields
  rw [List.all_eq_true]
  simp only [not_exists, not_and]
  refine forall₂_congr fun r _ => ?_
  rw [RawImage.FlankBroken, ← any_key_iff, ← any_key_iff, ← any_key_iff, ← any_key_iff]
  unfold RawImage.hasBoundary RawImage.hasSignal RawImage.hasPoint RawImage.hasFlank
  generalize i.boundary.any _ = b
  generalize i.signals.any _ = g
  generalize i.points.any _ = p
  generalize i.flank.any _ = f
  cases r.viaMap <;> by_cases c : r.code = 2 <;> cases b <;> cases g <;> cases p <;> cases f <;>
    simp [c] <;> omega

/-- Check 5. -/
theorem checkReference_iff (delivered : List Byte) :
    checkReference (rawImage (delivered.take (imageLength delivered))) = true ↔
      ¬ImageRefused delivered .reference := by
  have hn : imageLength delivered = octetPair delivered 4 := rfl
  simp only [ImageRefused, hn]
  have routes := rawRoute_stored (delivered.take (octetPair delivered 4))
  have portions := rawPortion_stored (delivered.take (octetPair delivered 4))
  generalize rawImage (delivered.take (octetPair delivered 4)) = i at *
  have elements := checkElements_iff i
  simp only [checkReference, Bool.and_eq_true, checkFlankFields_iff, not_or]
  have sound : checkNumbers i = true → ¬i.SectionsBroken → i.Sound := by
    intro h good
    simp only [checkNumbers, Bool.and_eq_true] at h
    exact ⟨by simp [h], by simp [h], by simp [h], by simp [h], by simp [h], good⟩
  have once : checkNumbers i = true → noRepeats (i.remoteHeads.map (·.entry)) = true := by
    intro h
    simp only [checkNumbers, Bool.and_eq_true] at h
    simp [h]
  constructor
  · rintro ⟨⟨⟨⟨⟨⟨⟨n, io⟩, a⟩, e⟩, s⟩, r⟩, p⟩, f⟩
    have good := (checkSections_iff (once n)).mp s
    exact ⟨elements.mp ⟨n, io, a, e⟩, good, (checkRoutes_iff (sound n good) routes).mp r,
      (checkPortions_iff (sound n good) portions).mp p, f⟩
  · rintro ⟨e, good, r, p, f⟩
    obtain ⟨n, io, a, e⟩ := elements.mpr e
    exact ⟨⟨⟨⟨⟨⟨⟨n, io⟩, a⟩, e⟩, (checkSections_iff (once n)).mpr good⟩,
      (checkRoutes_iff (sound n good) routes).mpr r⟩,
      (checkPortions_iff (sound n good) portions).mpr p⟩, f⟩

/-! ## Checks 6 to 11 -/

theorem checkBinding_iff (i : RawImage) : checkBinding i = true ↔ ¬i.BindingBroken := by
  have hasIn : ∀ role n,
      ((i.inputs.filter (·.role ≠ 0)).any fun r => r.role == role && r.element == n) = true ↔
        role ≠ 0 ∧ ¬∀ r ∈ i.inputs, r.role = role → r.element ≠ n := by
    intro role n
    simp only [List.any_eq_true, List.mem_filter, decide_eq_true_eq, Bool.and_eq_true, beq_iff_eq]
    constructor
    · rintro ⟨r, ⟨hr, z⟩, e, f⟩
      exact ⟨by rw [← e]; exact z, fun h => h r hr e f⟩
    · rintro ⟨z, h⟩
      by_contra none
      exact h fun r hr e f => none ⟨r, ⟨hr, by rw [e]; exact z⟩, e, f⟩
  have hasOut : ∀ role n,
      ((i.outputs.filter (·.role ≠ 0)).any fun r => r.role == role && r.element == n) = true ↔
        role ≠ 0 ∧ ¬∀ r ∈ i.outputs, r.role = role → r.element ≠ n := by
    intro role n
    simp only [List.any_eq_true, List.mem_filter, decide_eq_true_eq, Bool.and_eq_true, beq_iff_eq]
    constructor
    · rintro ⟨r, ⟨hr, z⟩, e, f⟩
      exact ⟨by rw [← e]; exact z, fun h => h r hr e f⟩
    · rintro ⟨z, h⟩
      by_contra none
      exact h fun r hr e f => none ⟨r, ⟨hr, by rw [e]; exact z⟩, e, f⟩
  have ins : ((i.inputs.filter (·.role ≠ 0)).all fun r => (r.role ≤ 2) == (r.cls == 0)) = true ↔
      ¬∃ r ∈ i.inputs, (r.role ∈ [1, 2] ∧ r.cls ≠ 0) ∨ (3 ≤ r.role ∧ r.cls = 0) := by
    simp only [List.all_eq_true, List.mem_filter, decide_eq_true_eq, and_imp, not_exists, not_and]
    refine forall₂_congr fun r _ => ?_
    by_cases c : r.cls = 0 <;> by_cases l : r.role ≤ 2 <;> simp [c, l] <;> omega
  have outs : ((i.outputs.filter (·.role ≠ 0)).all fun r => (r.role ≤ 3) == (r.cls == 0)) = true ↔
      ¬∃ r ∈ i.outputs, (r.role ∈ [1, 2, 3] ∧ r.cls ≠ 0) ∨ (4 ≤ r.role ∧ r.cls = 0) := by
    simp only [List.all_eq_true, List.mem_filter, decide_eq_true_eq, and_imp, not_exists, not_and]
    refine forall₂_congr fun r _ => ?_
    by_cases c : r.cls = 0 <;> by_cases l : r.role ≤ 3 <;> simp [c, l] <;> omega
  unfold checkBinding RawImage.BindingBroken
  simp only [Bool.and_eq_true, ins, outs, noRepeats_iff_nodup, List.all_eq_true (l := i.heads),
    List.all_eq_true (l := i.points), List.all_eq_true (l := i.signals), hasIn, hasOut, not_or,
    and_assoc, not_not]
  simp only [List.mem_cons, List.not_mem_nil, or_false, exists_eq_or_imp, exists_eq_left, not_or,
    not_exists, not_and, ne_eq, OfNat.ofNat_ne_zero, one_ne_zero, not_false_eq_true, true_and,
    and_assoc]

theorem checkSafeState_iff {i : RawImage} (safe : ∀ r ∈ i.outputs, r.safe ≤ 1) :
    checkSafeState i = true ↔ ¬∃ r ∈ i.outputs, r.safe = 1 ∧ r.role ≠ 1 := by
  unfold checkSafeState
  simp only [List.all_eq_true, not_exists, not_and, Bool.or_eq_true, beq_iff_eq]
  refine forall₂_congr fun r hr => ?_
  have := safe r hr
  omega

/-- A record of a chain is that of its first entry, or in the chain of the substitute. -/
theorem mem_chain_succ {i : RawImage} (once : noRepeats (i.flank.map (·.entry)) = true)
    (fuel e : Nat) (x : RawFlank) : x ∈ i.chain (fuel + 1) e ↔
      ∃ r ∈ i.flank, r.entry = e ∧ (x = r ∨ x ∈ i.chain fuel r.substitute) := by
  rw [RawImage.chain]
  cases found : i.flank.find? (·.entry == e) with
  | none =>
    have := List.find?_eq_none.mp found
    simp only [List.not_mem_nil, false_iff]
    rintro ⟨r, hr, h, -⟩
    exact this r hr (by simp [h])
  | some r =>
    have hr := List.mem_of_find?_eq_some found
    have h : r.entry = e := by simpa using List.find?_some found
    simp only [List.mem_cons]
    constructor
    · exact fun hx => ⟨r, hr, h, hx⟩
    · rintro ⟨q, hq, hqe, hx⟩
      have : i.flank.find? (·.entry == e) = some q :=
        find?_of_noRepeats once hq (by simp [hqe]) (by simp +contextual [hqe])
      rw [found] at this
      obtain rfl := Option.some.inj this
      exact hx

/-- A chain is as long as its fuel where each entry is followed by a configured one. -/
theorem chain_full {i : RawImage} (once : noRepeats (i.flank.map (·.entry)) = true)
    (fuel e : Nat) : fuel + 1 ≤ (i.chain (fuel + 1) e).length ↔
      ∃ r ∈ i.flank, r.entry = e ∧ fuel ≤ (i.chain fuel r.substitute).length := by
  conv_lhs => rw [RawImage.chain]
  cases found : i.flank.find? (·.entry == e) with
  | none =>
    have := List.find?_eq_none.mp found
    simp only [List.length_nil, Nat.add_one_le_iff, Nat.not_lt_zero, false_iff]
    rintro ⟨r, hr, h, -⟩
    exact this r hr (by simp [h])
  | some r =>
    have hr := List.mem_of_find?_eq_some found
    have h : r.entry = e := by simpa using List.find?_some found
    simp only [List.length_cons, Nat.add_le_add_iff_right]
    constructor
    · exact fun hx => ⟨r, hr, h, hx⟩
    · rintro ⟨q, hq, hqe, hx⟩
      have : i.flank.find? (·.entry == e) = some q :=
        find?_of_noRepeats once hq (by simp [hqe]) (by simp +contextual [hqe])
      rw [found] at this
      obtain rfl := Option.some.inj this
      exact hx

/-- What a check of chains rests on: flank entries without a number twice, none of them 255, and
every substitute configured. -/
structure RawImage.ChainsSound (i : RawImage) : Prop where
  once : noRepeats (i.flank.map (·.entry)) = true
  named : ∀ r ∈ i.flank, r.entry ≠ 255
  substitutes : ∀ r ∈ i.flank, r.substitute ≠ 255 → ∃ q ∈ i.flank, q.entry = r.substitute

theorem mem_chain_three {i : RawImage} (sound : i.ChainsSound) (e : Nat) (x : RawFlank) :
    x ∈ i.chain 3 e ↔ i.Reaches [e] x := by
  have nil : ∀ e, i.chain 0 e = [] := fun _ => rfl
  simp only [mem_chain_succ sound.once, nil, List.not_mem_nil, or_false,
    RawImage.Reaches, List.mem_singleton, exists_eq_left, RawImage.Follows]
  constructor
  · rintro ⟨r, hr, h, rfl | ⟨q, hq, hqe, rfl | ⟨p, hp, hpe, rfl⟩⟩⟩
    · exact ⟨hr, Or.inl h⟩
    · exact ⟨hq, Or.inr (Or.inl ⟨r, hr, h, hqe.symm, sound.named _ hq⟩)⟩
    · exact ⟨hp, Or.inr (Or.inr ⟨q.entry, ⟨r, hr, h, hqe.symm, sound.named _ hq⟩,
        q, hq, rfl, hpe.symm, sound.named _ hp⟩)⟩
  · rintro ⟨hx, h | ⟨r, hr, h, s, -⟩ | ⟨m, ⟨r, hr, h, s, -⟩, q, hq, hm, t, -⟩⟩
    · exact ⟨x, hx, h, Or.inl rfl⟩
    · exact ⟨r, hr, h, Or.inr ⟨x, hx, s.symm, Or.inl rfl⟩⟩
    · exact ⟨r, hr, h, Or.inr ⟨q, hq, by rw [hm, s], Or.inr ⟨x, hx, t.symm, rfl⟩⟩⟩

theorem mem_chains {i : RawImage} (sound : i.ChainsSound) (entries : List Nat) (x : RawFlank) :
    x ∈ entries.flatMap (i.chain 3) ↔ i.Reaches entries x := by
  simp only [List.mem_flatMap, mem_chain_three sound, RawImage.Reaches, List.mem_singleton,
    exists_eq_left]
  constructor
  · rintro ⟨e, he, hx, h⟩
    exact ⟨hx, e, he, h⟩
  · rintro ⟨hx, e, he, h⟩
    exact ⟨e, he, hx, h⟩

theorem chain_long {i : RawImage} (sound : i.ChainsSound) (e : Nat) :
    (i.chain 4 e).length ≤ 3 ↔ ¬∃ a b c, i.Follows e a ∧ i.Follows a b ∧ i.Follows b c := by
  rw [← not_lt, not_iff_not]
  show 3 + 1 ≤ _ ↔ _
  simp only [chain_full sound.once, Nat.zero_le, and_true, RawImage.Follows]
  constructor
  · rintro ⟨p, hp, e, q, hq, f, m, hm, g, n, hn, h⟩
    exact ⟨q.entry, m.entry, n.entry, ⟨p, hp, e, f.symm, sound.named _ hq⟩,
      ⟨q, hq, rfl, g.symm, sound.named _ hm⟩, m, hm, rfl, h.symm, sound.named _ hn⟩
  · rintro ⟨a, b, c, ⟨p, hp, e, f, -⟩, ⟨q, hq, g, h, -⟩, m, hm, j, k, z⟩
    obtain ⟨n, hn, l⟩ := sound.substitutes m hm (by rw [k]; exact z)
    exact ⟨p, hp, e, q, hq, by rw [g, f], m, hm, by rw [j, h], n, hn, l⟩

theorem isSignal_iff (x : RawFlank) (g : Nat) : x.isSignal g = true ↔ x.NamesSignal g := by
  simp [RawFlank.isSignal, RawFlank.NamesSignal, and_assoc]

theorem isPoint_iff (x : RawFlank) (p : Nat) : x.isPoint p = true ↔ x.NamesPoint p := by
  simp [RawFlank.isPoint, RawFlank.NamesPoint, and_assoc]

theorem find?_boundary {i : RawImage} (once : noRepeats (i.boundary.map (·.entry)) = true)
    {b : RawBoundary} (hb : b ∈ i.boundary) {e : Nat} (h : b.entry = e) :
    i.boundary.find? (·.entry == e) = some b :=
  find?_of_noRepeats once hb (by simp [h]) (by simp +contextual [h])

/-- Two configured entries of the boundary map name one element. -/
theorem remoteNamed_iff {i : RawImage} (once : noRepeats (i.boundary.map (·.entry)) = true)
    {e f : Nat} (he : e ∈ i.boundary.map (·.entry)) (hf : f ∈ i.boundary.map (·.entry)) :
    i.remoteNamed e = i.remoteNamed f ↔ i.SameRemote e f := by
  obtain ⟨b, hb, rfl⟩ := List.mem_map.mp he
  obtain ⟨c, hc, rfl⟩ := List.mem_map.mp hf
  unfold RawImage.remoteNamed RawImage.SameRemote
  rw [find?_boundary once hb rfl, find?_boundary once hc rfl]
  simp only [Option.map_some, Option.some.injEq, Prod.mk.injEq]
  constructor
  · exact fun h => ⟨b, hb, c, hc, rfl, rfl, h⟩
  · rintro ⟨x, hx, y, hy, ex, ey, h⟩
    have eb := find?_boundary once hx ex
    rw [find?_boundary once hb rfl] at eb
    have ec := find?_boundary once hy ey
    rw [find?_boundary once hc rfl] at ec
    rw [Option.some.inj eb, Option.some.inj ec]
    exact h

theorem checkFlankChain_iff {i : RawImage} (chains : i.ChainsSound)
    (once : noRepeats (i.boundary.map (·.entry)) = true)
    (flank : ¬∃ r ∈ i.flank, i.FlankBroken r) (routes : ¬∃ r ∈ i.routes, i.RouteBroken r) :
    checkFlankChain i = true ↔ ¬i.ChainBroken := by
  have sects : (i.flank.all fun r => !r.viaMap ||
      (i.boundary.find? (·.entry == r.number)).all (·.kind ≠ 0)) = true ↔
      ¬∃ r ∈ i.flank, r.viaMap = true ∧ ∃ b ∈ i.boundary, b.entry = r.number ∧ b.kind = 0 := by
    simp only [List.all_eq_true, not_exists, not_and]
    refine forall₂_congr fun r _ => ?_
    cases r.viaMap with
    | false => simp
    | true =>
      simp only [Bool.not_true, Bool.false_or, forall_true_left]
      cases found : i.boundary.find? (·.entry == r.number) with
      | none =>
        have none_of_it := List.find?_eq_none.mp found
        simp only [Option.all_none, true_iff]
        exact fun b hb h => absurd (by simp [h]) (none_of_it b hb)
      | some b =>
        have hb := List.mem_of_find?_eq_some found
        have h : b.entry = r.number := by simpa using List.find?_some found
        simp only [Option.all_some, decide_eq_true_eq]
        constructor
        · intro k x hx ex
          have := find?_boundary once hx ex
          rw [found] at this
          rw [← Option.some.inj this]
          exact k
        · exact fun k => k b hb h
  have inRoute : ∀ r ∈ i.routes, ∀ x, i.Reaches r.flank.items x →
      ((!x.isSignal r.entry && !(r.exitKind = 0 && x.isSignal r.exitNumber) &&
        !(r.exitKind = 1 && x.viaMap && i.remoteNamed x.number == i.remoteNamed r.exitNumber) &&
        (r.points.items ++ r.overlapPoints.items).all fun p => !x.isPoint p.1) = true ↔
      ¬(x.NamesSignal r.entry ∨ (r.exitKind = 0 ∧ x.NamesSignal r.exitNumber) ∨
        (r.exitKind = 1 ∧ x.viaMap = true ∧ i.SameRemote x.number r.exitNumber) ∨
        ∃ p ∈ r.points.items ++ r.overlapPoints.items, x.NamesPoint p.1)) := by
    intro r hr x hx
    have remote : r.exitKind = 1 → x.viaMap = true →
        (i.remoteNamed x.number = i.remoteNamed r.exitNumber ↔
          i.SameRemote x.number r.exitNumber) := by
      intro one via
      refine remoteNamed_iff once ?_ ?_
      · by_contra h
        exact flank ⟨x, hx.1, Or.inr (Or.inr (Or.inl ⟨via, h⟩))⟩
      · by_contra h
        refine routes ⟨r, hr, Or.inr (Or.inr (Or.inr (Or.inr (Or.inl ⟨one, ?_⟩))))⟩
        rintro ⟨b, hb, e, -⟩
        exact h (List.mem_map.mpr ⟨b, hb, e⟩)
    simp only [Bool.and_eq_true, Bool.not_eq_true', ← Bool.not_eq_true,
      List.all_eq_true, isSignal_iff, isPoint_iff, decide_eq_true_eq, beq_iff_eq, not_or, not_and,
      not_exists, and_assoc]
    refine and_congr_right fun _ => and_congr (by tauto) (and_congr_left fun _ => ?_)
    by_cases one : r.exitKind = 1
    · by_cases via : x.viaMap = true
      · simp [one, via, remote one via]
      · simp [via]
    · simp [one]
  have inPortion : ∀ (r : RawPortion) (x : RawFlank),
      ((!x.viaMap && !x.isSignal r.exit &&
        (r.points.items ++ r.overlapPoints.items).all fun p => !x.isPoint p.1) = true ↔
      ¬(x.viaMap = true ∨ x.NamesSignal r.exit ∨
        ∃ p ∈ r.points.items ++ r.overlapPoints.items, x.NamesPoint p.1)) := by
    intro r x
    simp only [Bool.and_eq_true, Bool.not_eq_true', ← Bool.not_eq_true, List.all_eq_true,
      isSignal_iff, isPoint_iff, not_or, not_and, not_exists, and_assoc]
  unfold checkFlankChain RawImage.ChainBroken
  simp only [Bool.and_eq_true, sects, List.all_eq_true (l := i.flank),
    List.all_eq_true (l := i.routes), List.all_eq_true (l := i.portions), decide_eq_true_eq,
    chain_long chains, not_or, and_assoc]
  refine and_congr (by simp only [not_exists, not_and]) (and_congr_right fun _ => and_congr ?_
    (and_congr ?_ (and_congr ?_ (by rw [noRepeats_iff_nodup, not_not]))))
  · simp only [not_exists, not_and]
    refine forall₂_congr fun r hr => ?_
    rw [List.all_eq_true]
    refine forall_congr' fun x => ?_
    rw [mem_chains chains]
    exact forall_congr' fun hx => inRoute r hr x hx
  · simp only [not_exists, not_and]
    refine forall₂_congr fun r _ => ?_
    rw [List.all_eq_true]
    refine forall_congr' fun x => ?_
    rw [mem_chains chains]
    exact forall_congr' fun _ => inPortion r x
  · simp only [List.all_eq_true, List.mem_filter, decide_eq_true_eq, mem_chain_three chains,
      not_exists, not_and, and_imp, Bool.not_eq_true']
    exact forall_congr' fun r => forall₂_congr fun _ _ => forall₂_congr fun x _ => by simp

theorem checkBoundaryMap_iff (delivered : List Byte) :
    checkBoundaryMap (rawImage (delivered.take (imageLength delivered))) = true ↔
      ¬ImageRefused delivered .boundaryMap := by
  simp only [checkBoundaryMap, noRepeats_iff_nodup, ImageRefused, not_not]
  rfl

theorem checkRemoteHeads_iff {i : RawImage} (good : ¬i.ElementsBroken) :
    checkRemoteHeads i = true ↔ ¬¬(i.remoteHeads.map fun r => (r.neighbour, r.head)).Nodup := by
  have elements := ((checkElements_iff i).mpr good).2.2.2
  simp only [checkElements, Bool.and_eq_true] at elements
  rw [checkRemoteHeads, Bool.and_eq_true, noRepeats_iff_nodup, not_not]
  simp only [elements, true_and]

theorem checkSafetyTimes_iff (i : RawImage) : checkSafetyTimes i = true ↔ ¬i.TimesBroken := by
  unfold checkSafetyTimes RawImage.TimesBroken
  rw [Bool.and_eq_true, List.all_eq_true, List.all_eq_true, not_or]
  simp only [not_exists, not_and]
  refine and_congr (forall₂_congr fun p _ => ?_) (forall₂_congr fun r _ => ?_)
  · simp only [Bool.or_eq_true, Bool.and_eq_true, beq_iff_eq, decide_eq_true_eq]
    omega
  · simp only [Bool.or_eq_true, Bool.and_eq_true, beq_iff_eq, decide_eq_true_eq]
    omega

/-! ## All checks -/

/-- An image that passes check 5 has no element, route or flank entry that breaks it. -/
theorem checkReference_sound {i : RawImage} (h : checkReference i = true) :
    ¬i.ElementsBroken ∧ (¬∃ r ∈ i.flank, i.FlankBroken r) ∧
      noRepeats (i.boundary.map (·.entry)) = true ∧ i.ChainsSound := by
  simp only [checkReference, Bool.and_eq_true] at h
  obtain ⟨⟨⟨⟨⟨⟨⟨n, io⟩, a⟩, e⟩, s⟩, r⟩, p⟩, f⟩ := h
  have flank := (checkFlankFields_iff i).mp f
  have good := (checkElements_iff i).mp ⟨n, io, a, e⟩
  simp only [checkNumbers, Bool.and_eq_true, List.all_eq_true, decide_eq_true_eq] at n
  have entries : ∀ r ∈ i.flank, r.entry < 48 := n.1.1.1.1.2
  refine ⟨good, flank, by simp only [n], by simp only [n], ?_, ?_⟩
  · intro r hr h
    have := entries r hr
    omega
  · intro r hr h
    by_contra none
    refine flank ⟨r, hr, Or.inr (Or.inr (Or.inr (Or.inr (Or.inr ⟨h, ?_⟩))))⟩
    rintro hm
    obtain ⟨q, hq, e⟩ := List.mem_map.mp hm
    exact none ⟨q, hq, e⟩

/-- The first refusal, in the order of the codes, decides. -/
theorem first_refusal {delivered : List Byte} {first : ImageFault}
    (h : imageFault delivered = some first) (refused : ImageRefused delivered first)
    (before : ∀ w : ImageFault, w.code.toNat < first.code.toNat → ¬ImageRefused delivered w) :
    (∀ why, imageFault delivered = some why ↔ ImageRefused delivered why ∧
      ∀ w : ImageFault, w.code.toNat < why.code.toNat → ¬ImageRefused delivered w) ∧
    (imageFault delivered = none ↔ ∀ why, ¬ImageRefused delivered why) := by
  constructor
  · intro why
    rw [h, Option.some.injEq]
    constructor
    · rintro rfl
      exact ⟨refused, before⟩
    · rintro ⟨r, none⟩
      have codes : ∀ v w : ImageFault, v.code.toNat = w.code.toNat → v = w := by
        intro v w
        cases v <;> cases w <;> decide
      rcases lt_trichotomy first.code.toNat why.code.toNat with lt | eq | gt
      · exact absurd refused (none _ lt)
      · exact codes _ _ eq
      · exact absurd r (before _ gt)
  · rw [h]
    simp only [reduceCtorEq, false_iff]
    exact fun none => none _ refused

/-- The code of an image is that of the first check that the rules refuse it for, in the order of
R170; it passes where they refuse it for none. -/
theorem imageFault_iff (delivered : List Byte) :
    (∀ why, imageFault delivered = some why ↔ ImageRefused delivered why ∧
      ∀ w : ImageFault, w.code.toNat < why.code.toNat → ¬ImageRefused delivered w) ∧
    (imageFault delivered = none ↔ ∀ why, ¬ImageRefused delivered why) := by
  have c1 := checkRead_iff delivered
  have c2 := checkHeader_iff delivered
  have c3 := fun h hh => checkCrc_iff (delivered := delivered) h hh
  have c4 := checkCount_iff delivered
  have c5 := checkReference_iff delivered
  have c6 : checkBinding (rawImage (delivered.take (imageLength delivered))) = true ↔
    ¬ImageRefused delivered .binding := checkBinding_iff _
  have c9 := checkBoundaryMap_iff delivered
  have c11 : checkSafetyTimes (rawImage (delivered.take (imageLength delivered))) = true ↔
    ¬ImageRefused delivered .safetyTime := checkSafetyTimes_iff _
  have c7 : checkReference (rawImage (delivered.take (imageLength delivered))) = true →
      (checkSafeState (rawImage (delivered.take (imageLength delivered))) = true ↔
        ¬ImageRefused delivered .safeState) := by
    intro h
    refine checkSafeState_iff fun r hr => ?_
    have := (checkReference_sound h).1
    by_contra hs
    refine this (Or.inr (Or.inr (Or.inr (Or.inr (Or.inr (Or.inr (Or.inr (Or.inr (Or.inr (Or.inr
      (Or.inr (Or.inr (Or.inr (Or.inl ⟨r, hr, ?_⟩))))))))))))))
    exact Or.inr (Or.inr (Or.inr (Or.inr (Or.inr (Or.inl (by omega))))))
  have c8 : checkReference (rawImage (delivered.take (imageLength delivered))) = true →
      (checkFlankChain (rawImage (delivered.take (imageLength delivered))) = true ↔
        ¬ImageRefused delivered .flankChain) := by
    intro h
    obtain ⟨-, flank, once, chains⟩ := checkReference_sound h
    have := c5.mp h
    simp only [ImageRefused, not_or] at this
    exact checkFlankChain_iff chains once flank this.2.2.1
  have c10 : checkReference (rawImage (delivered.take (imageLength delivered))) = true →
      (checkRemoteHeads (rawImage (delivered.take (imageLength delivered))) = true ↔
        ¬ImageRefused delivered .remoteHead) := by
    intro h
    exact checkRemoteHeads_iff (checkReference_sound h).1
  by_cases h1 : checkRead delivered = true
  swap
  · have fault : imageFault delivered = some .read := by
      simp [imageFault, h1]
    refine first_refusal fault (not_not.mp (mt c1.mpr h1)) fun w hw => ?_
    cases w <;> first | assumption | exact absurd hw (by decide)
  have n1 := c1.mp h1
  by_cases h2 : checkHeader (delivered.take (imageLength delivered)) = true
  swap
  · have fault : imageFault delivered = some .header := by
      simp [imageFault, h1, h2]
    refine first_refusal fault (not_not.mp (mt c2.mpr h2)) fun w hw => ?_
    cases w <;> first | assumption | exact absurd hw (by decide)
  have n2 := c2.mp h2
  by_cases h3 : checkCrc (delivered.take (imageLength delivered)) = true
  swap
  · have fault : imageFault delivered = some .crc := by
      simp [imageFault, h1, h2, h3]
    refine first_refusal fault (not_not.mp (mt (c3 h1 h2).mpr h3)) fun w hw => ?_
    cases w <;> first | assumption | exact absurd hw (by decide)
  have n3 := (c3 h1 h2).mp h3
  by_cases h4 : checkCount (rawImage (delivered.take (imageLength delivered))) = true
  swap
  · have fault : imageFault delivered = some .count := by
      simp [imageFault, h1, h2, h3, h4]
    refine first_refusal fault (not_not.mp (mt c4.mpr h4)) fun w hw => ?_
    cases w <;> first | assumption | exact absurd hw (by decide)
  have n4 := c4.mp h4
  by_cases h5 : checkReference (rawImage (delivered.take (imageLength delivered))) = true
  swap
  · have fault : imageFault delivered = some .reference := by
      simp [imageFault, h1, h2, h3, h4, h5]
    refine first_refusal fault (not_not.mp (mt c5.mpr h5)) fun w hw => ?_
    cases w <;> first | assumption | exact absurd hw (by decide)
  have n5 := c5.mp h5
  by_cases h6 : checkBinding (rawImage (delivered.take (imageLength delivered))) = true
  swap
  · have fault : imageFault delivered = some .binding := by
      simp [imageFault, h1, h2, h3, h4, h5, h6]
    refine first_refusal fault (not_not.mp (mt c6.mpr h6)) fun w hw => ?_
    cases w <;> first | assumption | exact absurd hw (by decide)
  have n6 := c6.mp h6
  by_cases h7 : checkSafeState (rawImage (delivered.take (imageLength delivered))) = true
  swap
  · have fault : imageFault delivered = some .safeState := by
      simp [imageFault, h1, h2, h3, h4, h5, h6, h7]
    refine first_refusal fault (not_not.mp (mt (c7 h5).mpr h7)) fun w hw => ?_
    cases w <;> first | assumption | exact absurd hw (by decide)
  have n7 := (c7 h5).mp h7
  by_cases h8 : checkFlankChain (rawImage (delivered.take (imageLength delivered))) = true
  swap
  · have fault : imageFault delivered = some .flankChain := by
      simp [imageFault, h1, h2, h3, h4, h5, h6, h7, h8]
    refine first_refusal fault (not_not.mp (mt (c8 h5).mpr h8)) fun w hw => ?_
    cases w <;> first | assumption | exact absurd hw (by decide)
  have n8 := (c8 h5).mp h8
  by_cases h9 : checkBoundaryMap (rawImage (delivered.take (imageLength delivered))) = true
  swap
  · have fault : imageFault delivered = some .boundaryMap := by
      simp [imageFault, h1, h2, h3, h4, h5, h6, h7, h8, h9]
    refine first_refusal fault (not_not.mp (mt c9.mpr h9)) fun w hw => ?_
    cases w <;> first | assumption | exact absurd hw (by decide)
  have n9 := c9.mp h9
  by_cases h10 : checkRemoteHeads (rawImage (delivered.take (imageLength delivered))) = true
  swap
  · have fault : imageFault delivered = some .remoteHead := by
      simp [imageFault, h1, h2, h3, h4, h5, h6, h7, h8, h9, h10]
    refine first_refusal fault (not_not.mp (mt (c10 h5).mpr h10)) fun w hw => ?_
    cases w <;> first | assumption | exact absurd hw (by decide)
  have n10 := (c10 h5).mp h10
  by_cases h11 : checkSafetyTimes (rawImage (delivered.take (imageLength delivered))) = true
  swap
  · have fault : imageFault delivered = some .safetyTime := by
      simp [imageFault, h1, h2, h3, h4, h5, h6, h7, h8, h9, h10, h11]
    refine first_refusal fault (not_not.mp (mt c11.mpr h11)) fun w hw => ?_
    cases w <;> first | assumption | exact absurd hw (by decide)
  have n11 := c11.mp h11
  have passes : ∀ why, ¬ImageRefused delivered why := by
    intro why
    cases why <;> first | assumption | exact id
  have none : imageFault delivered = none := by
    simp [imageFault, h1, h2, h3, h4, h5, h6, h7, h8, h9, h10, h11]
  exact ⟨fun why => by simp [none, passes], by simp [none, passes]⟩

end Sys2Proof.Machine
end

