-- ==== Sys2Proof/Laws/ImageTables.lean ====
section
/-! SUPPORT. The tables that an accepted image puts into effect are those of its records. -/

namespace Sys2Proof.Machine

open Sys2Proof

theorem listed_tableOf {α β : Type} {n : Nat} {records : List α} {number : α → Nat} {f : α → β}
    {fits : α → β → Prop} (once : noRepeats (records.map number) = true)
    (fit : ∀ r ∈ records, fits r (f r)) :
    Listed (tableOf n records number f) records number fits := by
  intro k
  simp only [tableOf, Fin.getElem_fin, Vector.getElem_ofFn]
  constructor
  · intro r hr e
    refine ⟨f r, ?_, fit r hr⟩
    rw [find?_of_noRepeats once hr (by simp [e]) (by simp +contextual [e])]
    rfl
  · intro h
    rw [List.find?_eq_none.mpr (by simpa using h)]
    rfl

theorem index_val {n k : Nat} (h : k < n + 1) : (index n k).val = k := Nat.mod_eq_of_lt h

theorem indices_val {n : Nat} {l : List Nat} (h : ∀ k ∈ l, k < n + 1) :
    (l.map (index n)).map (·.val) = l := by
  rw [List.map_map]
  exact (List.map_congr_left fun k hk => index_val (h k hk)).trans (List.map_id l)

theorem storedPoints_pointList {l : RawPairs} (h : ∀ p ∈ l.items, p.1 < 16 ∧ p.2 ≤ 1) :
    storedPoints (pointList l) = l.items := by
  rw [storedPoints, pointList, List.map_map]
  refine (List.map_congr_left fun p hp => ?_).trans (List.map_id _)
  obtain ⟨h1, h2⟩ := h p hp
  have : p.2 = 0 ∨ p.2 = 1 := by omega
  ext
  · exact index_val h1
  · rcases this with e | e <;> simp [positionOf, e]

/-- The numbers of an image that passes check 5 lie in their ranges. -/
structure RawImage.Ranges (i : RawImage) : Prop where
  heads : ∀ k ∈ i.heads.map (·.number), k < 24
  sections : ∀ k ∈ i.sections.map (·.number), k < 32
  remoteHeads : ∀ k ∈ i.remoteHeads.map (·.entry), k < 8
  boundary : ∀ k ∈ i.boundary.map (·.entry), k < 32
  points : ∀ k ∈ i.points.map (·.number), k < 16
  signals : ∀ k ∈ i.signals.map (·.number), k < 16
  flank : ∀ k ∈ i.flank.map (·.entry), k < 48
  neighbours : ∀ k ∈ i.neighbours.map (·.index), k < 4

theorem planFits_of {i : RawImage} (ranges : i.Ranges) {path overlap flank : RawList}
    {points overlapPoints : RawPairs} {a b c d e f g h : Nat} (exit : ExitSignal)
    (h1 : ¬path.Broken a c (i.sections.map (·.number))) (h2 : ¬points.Broken e i)
    (h3 : ¬overlap.Broken b d (i.sections.map (·.number)))
    (h4 : ¬overlapPoints.Broken f i) (h5 : ¬flank.Broken g h (i.flank.map (·.entry))) :
    PlanFits path points overlap overlapPoints flank
      ⟨path.items.map (index 31), pointList points, overlap.items.map (index 31),
        pointList overlapPoints, flank.items.map (index 47), exit⟩ := by
  have lists : ∀ {l : RawList} {x y : Nat} {t : List Nat}, ¬l.Broken x y t →
      ∀ k ∈ l.items, k ∈ t := by
    intro l x y t h k hk
    by_contra hn
    exact h (Or.inr (Or.inr ⟨k, hk, hn⟩))
  have pairs : ∀ {l : RawPairs} {y : Nat}, ¬l.Broken y i → ∀ p ∈ l.items, p.1 < 16 ∧ p.2 ≤ 1 := by
    intro l y h p hp
    constructor
    · refine ranges.points _ ?_
      by_contra hn
      exact h (Or.inr ⟨p, hp, Or.inl hn⟩)
    · by_contra hn
      exact h (Or.inr ⟨p, hp, Or.inr (by omega)⟩)
  refine ⟨indices_val fun k hk => ranges.sections k (lists h1 k hk),
    storedPoints_pointList (pairs h2), indices_val fun k hk => ranges.sections k (lists h3 k hk),
    storedPoints_pointList (pairs h4), indices_val fun k hk => ranges.flank k (lists h5 k hk)⟩

theorem ranges_of {i : RawImage} (h : checkNumbers i = true) : i.Ranges := by
  simp only [checkNumbers, Bool.and_eq_true, List.all_eq_true, decide_eq_true_eq] at h
  obtain ⟨⟨⟨⟨⟨⟨⟨⟨⟨⟨⟨⟨⟨⟨⟨⟨⟨⟨⟨⟨⟨-, -⟩, -⟩, h1⟩, -⟩, h2⟩, -⟩, h3⟩, -⟩, h4⟩, -⟩, h5⟩, -⟩, h6⟩, -⟩, -⟩,
    -⟩, h7⟩, -⟩, -⟩, -⟩, h8⟩ := h
  constructor <;> simpa only [List.forall_mem_map]

theorem clamped_eq (default least most stored : Nat) :
    clamped default least most stored = withinRange default least most stored := rfl

/-- The tables that an image which passes every check puts into effect are those of its records. -/
theorem tablesOf_zoneConfig {delivered : List Byte} (passes : ∀ why, ¬ImageRefused delivered why) :
    TablesOf (rawImage (delivered.take (imageLength delivered)))
      (zoneConfig (rawImage (delivered.take (imageLength delivered)))) := by
  have reference := (checkReference_iff delivered).mpr (passes .reference)
  have bytes := imageLayout_rawImage (delivered.take (imageLength delivered))
  have parts := passes .reference
  have hn : imageLength delivered = octetPair delivered 4 := rfl
  simp only [ImageRefused, not_or, ← hn] at parts
  have codes : (∀ n ∈ (rawImage (delivered.take (imageLength delivered))).neighbours,
      n.code < 65536) ∧ ∀ n ∈ (rawImage (delivered.take (imageLength delivered))).panels,
      n.code < 65536 := by
    rw [bytes.neighbours, bytes.panels]
    simp only [recordsAt, List.forall_mem_map]
    constructor <;> intro k _
    · have a := octet_lt (delivered.take (imageLength delivered))
      have := a (octetPair (delivered.take (imageLength delivered)) (11 + 3 * 11) + k * 7 + 2)
      have := a (octetPair (delivered.take (imageLength delivered)) (11 + 3 * 11) + k * 7 + 3)
      omega
    · have a := octet_lt (delivered.take (imageLength delivered))
      have := a (octetPair (delivered.take (imageLength delivered)) (11 + 3 * 12) + k * 3 + 1)
      have := a (octetPair (delivered.take (imageLength delivered)) (11 + 3 * 12) + k * 3 + 2)
      omega
  generalize rawImage (delivered.take (imageLength delivered)) = i at *
  obtain ⟨elements, sections, routes, portions, flank⟩ := parts
  have numbers := ((checkElements_iff i).mpr elements).1
  have ranges := ranges_of numbers
  simp only [checkNumbers, Bool.and_eq_true] at numbers
  simp only [RawImage.ElementsBroken, not_or] at elements
  obtain ⟨-, -, -, -, -, -, -, -, -, -, -, -, -, -, addresses, -, neighbours, panels, -, -,
    remoteHeads, boundary, points⟩ := elements
  simp only [not_exists, not_and] at *
  constructor
  · exact ⟨rfl, rfl⟩
  · exact listed_tableOf (by simp only [numbers]) fun r _ => by simp
  · refine listed_tableOf (by simp only [numbers]) fun r hr => ?_
    have ok : ¬i.SectionBroken r := fun h => sections (Or.inl ⟨r, hr, h⟩)
    simp only [RawImage.SectionBroken, not_or, not_exists, not_and, not_not] at ok
    obtain ⟨-, -, refs, -, own, -, -, owner, -⟩ := ok
    refine ⟨?_, ?_, ?_⟩
    · simp only [sectionCfgOf, List.map_map]
      refine List.map_congr_left fun b hb => ?_
      obtain ⟨remote, local_, -⟩ := refs b hb
      have plus : (b.orientation == 1) = decide (b.orientation = 1) := rfl
      cases e : b.remote with
      | true => simp [e, index_val (ranges.remoteHeads _ (remote e)), plus]
      | false => simp [e, index_val (ranges.heads _ (local_ e)), plus]
    · simp only [sectionCfgOf]
      split_ifs with z
      · rfl
      · have : (index 3 (r.owner - 1)).val = r.owner - 1 := index_val (by omega)
        simp only [Option.map_some, this]
        congr 1
        omega
    · simp only [sectionCfgOf]
      split_ifs with z
      · rfl
      · rw [Option.map_some, index_val]
        by_contra h
        exact z (own (by omega))
  · refine listed_tableOf (by simp only [numbers]) fun r hr => ?_
    have := remoteHeads r hr
    simp only [not_or, not_not, not_le] at this
    exact ⟨index_val (ranges.neighbours _ this.1), index_val this.2⟩
  · refine listed_tableOf (by simp only [numbers]) fun r hr => ?_
    have := boundary r hr
    simp only [not_or, not_not, not_le, not_lt, not_and] at this
    refine ⟨index_val (ranges.neighbours _ this.1), ?_, ?_⟩
    · have : r.kind = 0 ∨ r.kind = 1 ∨ r.kind = 2 := by omega
      rcases this with e | e | e <;> simp [e, kindOfElement]
    · have : r.number < 256 := by
        have := this.2.2
        by_cases e : r.kind = 0
        · have := this.1 e; omega
        · have := this.2 e; omega
      simp [byteOf]; omega
  · refine listed_tableOf (by simp only [numbers]) fun r hr => ?_
    have := points r hr
    simp only [not_or, not_not, not_lt] at this
    exact ⟨index_val (ranges.sections _ this.1), by simp, rfl⟩
  · exact listed_tableOf (by simp only [numbers]) fun r _ => by simp
  · refine listed_tableOf (by simp only [numbers]) fun r hr => ?_
    have ok := routes r hr
    simp only [RawImage.RouteBroken, not_or, not_not] at ok
    obtain ⟨cls, entry, kind, near, far, path, points, overlap, overlapPoints, approach, flanks, -,
      -, -, -, request⟩ := ok
    refine ⟨?_, index_val (ranges.signals _ entry),
      planFits_of ranges _ path points overlap overlapPoints flanks, ?_, ?_, ?_, rfl, rfl, rfl⟩
    · simp only [routeCfgOf]
      split_ifs with z <;> simp [z]
    · simp only [routeCfgOf, planOfRoute]
      by_cases z : r.exitKind = 0
      · simp only [not_and, not_or, not_not] at near
        simp [z, index_val (ranges.signals _ (near z).1)]
      · have one : r.exitKind = 1 := by omega
        simp only [not_and, not_not] at far
        obtain ⟨b, hb, e, -⟩ := far one
        have : r.exitNumber < 31 + 1 := ranges.boundary _ (List.mem_map.mpr ⟨b, hb, e⟩)
        simp [one, index_val this]
    · refine indices_val fun k hk => ranges.sections k ?_
      by_contra h
      exact approach (Or.inr (Or.inr ⟨k, hk, h⟩))
    · simp only [routeCfgOf]
      split_ifs with z
      · rfl
      · simp only [not_and, not_or, not_not] at request
        obtain ⟨n, portion, -⟩ := request z
        simp [index_val (ranges.neighbours _ n), index_val (show r.portion < 15 + 1 by omega)]
  · refine listed_tableOf (by simp only [numbers]) fun r hr => ?_
    have ok := flank r hr
    simp only [RawImage.FlankBroken, not_or, not_and, not_not] at ok
    obtain ⟨code, -, via, signal, point, substitute⟩ := ok
    have three : r.code = 0 ∨ r.code = 1 ∨ r.code = 2 := by omega
    refine ⟨?_, ?_, by simp⟩
    · simp only [flankElementOf]
      cases e : r.viaMap with
      | true =>
        have : r.number < 31 + 1 := ranges.boundary _ (via e)
        rcases three with c | c | c <;> simp [c, index_val this, positionOf]
      | false =>
        have number : r.number < 15 + 1 := by
          by_cases c : r.code = 2
          · exact ranges.signals _ (signal e c)
          · exact ranges.points _ (point e c)
        rcases three with c | c | c <;> simp [c, index_val number, positionOf]
    · split_ifs with z
      · rfl
      · rw [Option.map_some, index_val (ranges.flank _ (substitute z))]
  · refine listed_tableOf (by simp only [numbers]) fun r hr => ?_
    have ok := portions r hr
    simp only [RawImage.PortionBroken, not_or, not_not] at ok
    obtain ⟨n, exit_, path, points, overlap, overlapPoints, flanks, -⟩ := ok
    exact ⟨index_val (ranges.neighbours _ n),
      planFits_of ranges _ path points overlap overlapPoints flanks, _, rfl,
      index_val (ranges.signals _ exit_)⟩
  · refine listed_tableOf (by simp only [numbers]) fun r hr => ?_
    have := neighbours r hr
    simp only [not_or] at this
    have policy : r.policy = 0 ∨ r.policy = 1 ∨ r.policy = 2 ∨ r.policy = 3 := by omega
    have address := addresses r.address (by simp; exact Or.inr (Or.inl ⟨r, hr, rfl⟩))
    have code := codes.1 r hr
    refine ⟨?_, ?_, rfl, rfl, ?_⟩
    · simp [byteOf]; omega
    · simp; omega
    · rcases policy with e | e | e | e <;> simp [e, policyOf]
  · intro k
    simp only [zoneConfig, Fin.getElem_fin, Vector.getElem_ofFn]
    constructor
    · intro r hr
      have mem := List.mem_of_getElem? hr
      have address := addresses r.address (by simp; exact Or.inr (Or.inr ⟨r, mem, rfl⟩))
      have code := codes.2 r mem
      refine ⟨_, by rw [hr]; rfl, ?_, ?_⟩
      · simp [byteOf]; omega
      · simp; omega
    · intro h
      rw [h]
      rfl

end Sys2Proof.Machine
end

