-- ==== Sys2Proof/WellFormed.lean ====
section
/-! DEFINITION. What makes a command a term that the part's surroundings could send, where the
operand types do not already say so: the sizes of what a line or the serial memory can carry. -/

namespace Sys2Proof

/-- A collected frame is of a telegram the lines can carry: 9 to 255 bytes (R133). -/
def Frame.wellFormed (f : Frame) : Bool := f.payload.length ≤ 246

/-- The serial memory delivers at most as many bytes as a 2-byte image length can name (R172). -/
def deliveredOk (delivered : List Byte) : Bool := delivered.length ≤ 65535

/-- An echo is of at least one and at most 255 bytes (R133, R136). -/
def echoOk (echo : List Byte) : Bool := 1 ≤ echo.length && echo.length ≤ 255

/-- The checks of one command. Element numbers are in range by their types. -/
def Instr.wellFormed : Instr → Bool
  | .reset => true
  | .configReadEnd delivered => deliveredOk delivered
  | .configReadTimeout delivered => deliveredOk delivered
  | .quietTimerExpiry => true
  | .stop delivered => deliveredOk delivered
  | .headObservation _ _ _ => true
  | .restTimerExpiry _ => true
  | .detectionObservation _ _ _ => true
  | .provingEdge _ _ _ => true
  | .flashBoundary => true
  | .failureTimerExpiry _ _ => true
  | .strayTimerExpiry _ _ => true
  | .strayClearTimerExpiry _ _ => true
  | .settleTimerExpiry _ => true
  | .moveTimerExpiry _ => true
  | .sectionNotice _ => true
  | .pointNotice _ => true
  | .settingTimerExpiry _ => true
  | .poolTimerExpiry _ => true
  | .command f => f.wellFormed
  | .setRoute => true
  | .cancelRoute => true
  | .movePoint => true
  | .block => true
  | .resetSection => true
  | .confirmReset => true
  | .clearNeighbourBlock => true
  | .clearFault => true
  | .unknownCommand => true
  | .resetWindowExpiry => true
  | .status f => f.wellFormed
  | .silenceTimerExpiry _ => true
  | .portionRequest f => f.wellFormed
  | .portionGrant f => f.wellFormed
  | .portionRefuse f => f.wellFormed
  | .portionRelease f => f.wellFormed
  | .flankRequest f => f.wellFormed
  | .flankGrant f => f.wellFormed
  | .flankRefuse f => f.wellFormed
  | .flankRelease f => f.wellFormed
  | .sectionReset f => f.wellFormed
  | .replyTimerExpiry _ => true
  | .panelSilenceTimerExpiry _ => true
  | .lineHealthTimerExpiry _ => true
  | .statusPeriodExpiry => true
  | .statusPacingEnd => true
  | .displayPeriodExpiry => true
  | .displayPacingEnd _ => true
  | .transmitAttempt _ _ => true
  | .telegramSent _ echo => echoOk echo
  | .attemptFailed _ echo => echoOk echo
  | .transmitGiveUp _ _ => true
  | .discardedTelegram _ f => f.wellFormed

/-- How many bytes a command brings in from a line or from the serial memory, a frame's nine bytes
beside its payload aside. -/
def Instr.carried : Instr → Nat
  | .reset => 0
  | .configReadEnd delivered => delivered.length
  | .configReadTimeout delivered => delivered.length
  | .quietTimerExpiry => 0
  | .stop delivered => delivered.length
  | .headObservation _ _ _ => 0
  | .restTimerExpiry _ => 0
  | .detectionObservation _ _ _ => 0
  | .provingEdge _ _ _ => 0
  | .flashBoundary => 0
  | .failureTimerExpiry _ _ => 0
  | .strayTimerExpiry _ _ => 0
  | .strayClearTimerExpiry _ _ => 0
  | .settleTimerExpiry _ => 0
  | .moveTimerExpiry _ => 0
  | .sectionNotice _ => 0
  | .pointNotice _ => 0
  | .settingTimerExpiry _ => 0
  | .poolTimerExpiry _ => 0
  | .command f => f.payload.length
  | .setRoute => 0
  | .cancelRoute => 0
  | .movePoint => 0
  | .block => 0
  | .resetSection => 0
  | .confirmReset => 0
  | .clearNeighbourBlock => 0
  | .clearFault => 0
  | .unknownCommand => 0
  | .resetWindowExpiry => 0
  | .status f => f.payload.length
  | .silenceTimerExpiry _ => 0
  | .portionRequest f => f.payload.length
  | .portionGrant f => f.payload.length
  | .portionRefuse f => f.payload.length
  | .portionRelease f => f.payload.length
  | .flankRequest f => f.payload.length
  | .flankGrant f => f.payload.length
  | .flankRefuse f => f.payload.length
  | .flankRelease f => f.payload.length
  | .sectionReset f => f.payload.length
  | .replyTimerExpiry _ => 0
  | .panelSilenceTimerExpiry _ => 0
  | .lineHealthTimerExpiry _ => 0
  | .statusPeriodExpiry => 0
  | .statusPacingEnd => 0
  | .displayPeriodExpiry => 0
  | .displayPacingEnd _ => 0
  | .transmitAttempt _ _ => 0
  | .telegramSent _ echo => echo.length
  | .attemptFailed _ echo => echo.length
  | .transmitGiveUp _ _ => 0
  | .discardedTelegram _ f => f.payload.length

end Sys2Proof
end

