-- ==== Sys2Proof/Laws/PerInstr.lean ====
section
/-! SUPPORT. The per-command law of the syntax: a well-formed command brings in no more bytes than
its line or the serial memory can carry (R133, R172). One lemma for each constructor. -/

namespace Sys2Proof.Laws.CarriesAtMost

open Sys2Proof

/-- A well-formed command carries at most 65535 bytes. -/
def Statement (i : Instr) : Prop := i.wellFormed = true → i.carried ≤ 65535

theorem reset : Statement (.reset) := by
  intro _; exact Nat.zero_le _

theorem configReadEnd (delivered : List Byte) : Statement (.configReadEnd delivered) := by
  simp [Statement, Instr.wellFormed, Instr.carried, deliveredOk]

theorem configReadTimeout (delivered : List Byte) : Statement (.configReadTimeout delivered) := by
  simp [Statement, Instr.wellFormed, Instr.carried, deliveredOk]

theorem quietTimerExpiry : Statement (.quietTimerExpiry) := by
  intro _; exact Nat.zero_le _

theorem stop (delivered : List Byte) : Statement (.stop delivered) := by
  simp [Statement, Instr.wellFormed, Instr.carried, deliveredOk]

theorem headObservation (head : Fin 24) (a b : Bool) : Statement (.headObservation head a b) := by
  intro _; exact Nat.zero_le _

theorem restTimerExpiry (head : Fin 24) : Statement (.restTimerExpiry head) := by
  intro _; exact Nat.zero_le _

theorem detectionObservation (point : Fin 16) (n r : Bool) : Statement
    (.detectionObservation point n r) := by
  intro _; exact Nat.zero_le _

theorem provingEdge (signal : Fin 16) (lamp : Lamp) (lit : Bool) : Statement
    (.provingEdge signal lamp lit) := by
  intro _; exact Nat.zero_le _

theorem flashBoundary : Statement (.flashBoundary) := by
  intro _; exact Nat.zero_le _

theorem failureTimerExpiry (signal : Fin 16) (lamp : Lamp) : Statement
    (.failureTimerExpiry signal lamp) := by
  intro _; exact Nat.zero_le _

theorem strayTimerExpiry (signal : Fin 16) (lamp : Lamp) : Statement
    (.strayTimerExpiry signal lamp) := by
  intro _; exact Nat.zero_le _

theorem strayClearTimerExpiry (signal : Fin 16) (lamp : Lamp) : Statement
    (.strayClearTimerExpiry signal lamp) := by
  intro _; exact Nat.zero_le _

theorem settleTimerExpiry (point : Fin 16) : Statement (.settleTimerExpiry point) := by
  intro _; exact Nat.zero_le _

theorem moveTimerExpiry (point : Fin 16) : Statement (.moveTimerExpiry point) := by
  intro _; exact Nat.zero_le _

theorem sectionNotice (number : Fin 32) : Statement (.sectionNotice number) := by
  intro _; exact Nat.zero_le _

theorem pointNotice (point : Fin 16) : Statement (.pointNotice point) := by
  intro _; exact Nat.zero_le _

theorem settingTimerExpiry (route : Fin 64) : Statement (.settingTimerExpiry route) := by
  intro _; exact Nat.zero_le _

theorem poolTimerExpiry (timer : Fin 16) : Statement (.poolTimerExpiry timer) := by
  intro _; exact Nat.zero_le _

theorem command (frame : Frame) : Statement (.command frame) := by
  simp only [Statement, Instr.wellFormed, Instr.carried, Frame.wellFormed, decide_eq_true_eq]
  omega

theorem setRoute : Statement (.setRoute) := by
  intro _; exact Nat.zero_le _

theorem cancelRoute : Statement (.cancelRoute) := by
  intro _; exact Nat.zero_le _

theorem movePoint : Statement (.movePoint) := by
  intro _; exact Nat.zero_le _

theorem block : Statement (.block) := by
  intro _; exact Nat.zero_le _

theorem resetSection : Statement (.resetSection) := by
  intro _; exact Nat.zero_le _

theorem confirmReset : Statement (.confirmReset) := by
  intro _; exact Nat.zero_le _

theorem clearNeighbourBlock : Statement (.clearNeighbourBlock) := by
  intro _; exact Nat.zero_le _

theorem clearFault : Statement (.clearFault) := by
  intro _; exact Nat.zero_le _

theorem unknownCommand : Statement (.unknownCommand) := by
  intro _; exact Nat.zero_le _

theorem resetWindowExpiry : Statement (.resetWindowExpiry) := by
  intro _; exact Nat.zero_le _

theorem status (frame : Frame) : Statement (.status frame) := by
  simp only [Statement, Instr.wellFormed, Instr.carried, Frame.wellFormed, decide_eq_true_eq]
  omega

theorem silenceTimerExpiry (neighbour : Fin 4) : Statement (.silenceTimerExpiry neighbour) := by
  intro _; exact Nat.zero_le _

theorem portionRequest (frame : Frame) : Statement (.portionRequest frame) := by
  simp only [Statement, Instr.wellFormed, Instr.carried, Frame.wellFormed, decide_eq_true_eq]
  omega

theorem portionGrant (frame : Frame) : Statement (.portionGrant frame) := by
  simp only [Statement, Instr.wellFormed, Instr.carried, Frame.wellFormed, decide_eq_true_eq]
  omega

theorem portionRefuse (frame : Frame) : Statement (.portionRefuse frame) := by
  simp only [Statement, Instr.wellFormed, Instr.carried, Frame.wellFormed, decide_eq_true_eq]
  omega

theorem portionRelease (frame : Frame) : Statement (.portionRelease frame) := by
  simp only [Statement, Instr.wellFormed, Instr.carried, Frame.wellFormed, decide_eq_true_eq]
  omega

theorem flankRequest (frame : Frame) : Statement (.flankRequest frame) := by
  simp only [Statement, Instr.wellFormed, Instr.carried, Frame.wellFormed, decide_eq_true_eq]
  omega

theorem flankGrant (frame : Frame) : Statement (.flankGrant frame) := by
  simp only [Statement, Instr.wellFormed, Instr.carried, Frame.wellFormed, decide_eq_true_eq]
  omega

theorem flankRefuse (frame : Frame) : Statement (.flankRefuse frame) := by
  simp only [Statement, Instr.wellFormed, Instr.carried, Frame.wellFormed, decide_eq_true_eq]
  omega

theorem flankRelease (frame : Frame) : Statement (.flankRelease frame) := by
  simp only [Statement, Instr.wellFormed, Instr.carried, Frame.wellFormed, decide_eq_true_eq]
  omega

theorem sectionReset (frame : Frame) : Statement (.sectionReset frame) := by
  simp only [Statement, Instr.wellFormed, Instr.carried, Frame.wellFormed, decide_eq_true_eq]
  omega

theorem replyTimerExpiry (record : Fin 8) : Statement (.replyTimerExpiry record) := by
  intro _; exact Nat.zero_le _

theorem panelSilenceTimerExpiry (panel : Fin 2) : Statement (.panelSilenceTimerExpiry panel) := by
  intro _; exact Nat.zero_le _

theorem lineHealthTimerExpiry (line : Line) : Statement (.lineHealthTimerExpiry line) := by
  intro _; exact Nat.zero_le _

theorem statusPeriodExpiry : Statement (.statusPeriodExpiry) := by
  intro _; exact Nat.zero_le _

theorem statusPacingEnd : Statement (.statusPacingEnd) := by
  intro _; exact Nat.zero_le _

theorem displayPeriodExpiry : Statement (.displayPeriodExpiry) := by
  intro _; exact Nat.zero_le _

theorem displayPacingEnd (page : Page) : Statement (.displayPacingEnd page) := by
  intro _; exact Nat.zero_le _

theorem transmitAttempt (line : Line) (idle : Nat) : Statement (.transmitAttempt line idle) := by
  intro _; exact Nat.zero_le _

theorem telegramSent (line : Line) (echo : List Byte) : Statement (.telegramSent line echo) := by
  simp only [Statement, Instr.wellFormed, Instr.carried, echoOk, Bool.and_eq_true, decide_eq_true_eq]
  omega

theorem attemptFailed (line : Line) (echo : List Byte) : Statement (.attemptFailed line echo) := by
  simp only [Statement, Instr.wellFormed, Instr.carried, echoOk, Bool.and_eq_true, decide_eq_true_eq]
  omega

theorem transmitGiveUp (line : Line) (seq : Byte) : Statement (.transmitGiveUp line seq) := by
  intro _; exact Nat.zero_le _

theorem discardedTelegram (kind : Byte) (frame : Frame) : Statement
    (.discardedTelegram kind frame) := by
  simp only [Statement, Instr.wellFormed, Instr.carried, Frame.wellFormed, decide_eq_true_eq]
  omega

end Sys2Proof.Laws.CarriesAtMost
end

