-- ==== Sys2Proof/Laws/Receiver.lean ====
section
/-! SUPPORT. The receivers: what taking the lines leaves as it was, and how a receiver runs. -/

namespace Sys2Proof.Machine

open Sys2Proof

@[simp] theorem State.receiveLines_keeps (s : State) :
    s.receiveLines.pending = s.pending ∧ s.receiveLines.ticks = s.ticks ∧
    s.receiveLines.config = s.config ∧ s.receiveLines.fsu = s.fsu ∧ s.receiveLines.acu = s.acu ∧
    s.receiveLines.pcu = s.pcu ∧ s.receiveLines.lku = s.lku ∧ s.receiveLines.asu = s.asu ∧
    s.receiveLines.rtp = s.rtp ∧ s.receiveLines.hou = s.hou ∧ s.receiveLines.cmu = s.cmu ∧
    s.receiveLines.sld = s.sld :=
  ⟨rfl, rfl, rfl, rfl, rfl, rfl, rfl, rfl, rfl, rfl, rfl, rfl⟩

@[simp] theorem State.receiveLines_pins (s : State) :
    s.receiveLines.pins = { s.pins with lineA := [], lineB := [] } := rfl

/-- Each receiver has run over what its line carried; the rest of the line's record stays. -/
@[simp] theorem State.receiveLines_line (s : State) (l : Line) :
    s.receiveLines.line l =
      { s.line l with receiver := ((s.line l).receiver.run (s.heard l)).1 } := by
  cases l <;> rfl

/-- All that taking the lines does to the station line unit. -/
@[simp] theorem State.receiveLines_slu (s : State) :
    s.receiveLines.slu = { s.slu with
      lineA := { s.slu.lineA with receiver := ((s.line .a).receiver.run (s.heard .a)).1 }
      lineB := { s.slu.lineB with receiver := ((s.line .b).receiver.run (s.heard .b)).1 } } := rfl

@[simp] theorem Receiver.run_nil (r : Receiver) : r.run [] = (r, []) := rfl

@[simp] theorem Receiver.run_cons (r : Receiver) (x : LineSymbol) (xs : List LineSymbol) :
    r.run (x :: xs) =
      (((r.take x).1.run xs).1, (r.take x).2.toList ++ ((r.take x).1.run xs).2) := rfl

/-- A receiver runs over one stretch of symbols after the other. -/
theorem Receiver.run_append (r : Receiver) (xs ys : List LineSymbol) :
    r.run (xs ++ ys) = (((r.run xs).1.run ys).1, (r.run xs).2 ++ ((r.run xs).1.run ys).2) := by
  induction xs generalizing r with
  | nil => simp
  | cons x xs ih => simp [ih]

/-- A byte joins the telegram being collected. -/
theorem Receiver.take_byte_of_bytes (b : Byte) (bs : List Byte) (n : Nat) :
    (⟨n, some bs⟩ : Receiver).take (.byte b) = (⟨0, some (collected bs b)⟩, none) := rfl

/-- A byte after 24 idle bit times begins a telegram. -/
theorem Receiver.take_byte_of_gap (b : Byte) {n : Nat} (h : frameGap ≤ n) :
    (⟨n, none⟩ : Receiver).take (.byte b) = (⟨0, some [b]⟩, none) := by
  simp [Receiver.take, Receiver.byte, h]

/-- An idle that reaches 24 bit times ends what was being collected. -/
theorem Receiver.take_idle_of_gap (r : Receiver) {n : Nat} (h : frameGap ≤ r.idle + n) :
    r.take (.idle n) = (⟨frameGap, none⟩, r.bytes) := by
  simp [Receiver.take, Receiver.wait, h]

/-- A shorter idle ends nothing. -/
theorem Receiver.take_idle_of_short (r : Receiver) {n : Nat} (h : r.idle + n < frameGap) :
    r.take (.idle n) = (⟨r.idle + n, r.bytes⟩, none) := by
  have e : min frameGap (r.idle + n) = r.idle + n := Nat.min_eq_right (Nat.le_of_lt h)
  simp [Receiver.take, Receiver.wait, e, Nat.ne_of_lt h]

end Sys2Proof.Machine
end

