-- ==== Sys2Proof/Laws/Rows.lean ====
section
/-! SUPPORT. What the events of the field, the timers of the lines and the periods leave as it was,
and the outcomes of a received frame. -/

namespace Sys2Proof.Machine

open Sys2Proof

@[simp] theorem State.observeHead_keeps (s : State) (h : Fin 24) (a b : Bool) :
    (s.observeHead h a b).pending = s.pending ∧ (s.observeHead h a b).ticks = s.ticks ∧
    (s.observeHead h a b).pins = s.pins ∧ (s.observeHead h a b).config = s.config ∧
    (s.observeHead h a b).fsu.contacts = s.fsu.contacts ∧
    (s.observeHead h a b).fsu.lamps = s.fsu.lamps ∧
    (s.observeHead h a b).fsu.drives = s.fsu.drives ∧
    (s.observeHead h a b).fsu.onHalf = s.fsu.onHalf ∧ (s.observeHead h a b).acu = s.acu ∧
    (s.observeHead h a b).pcu = s.pcu ∧ (s.observeHead h a b).lku = s.lku ∧
    (s.observeHead h a b).asu = s.asu ∧ (s.observeHead h a b).rtp = s.rtp ∧
    (s.observeHead h a b).slu = s.slu ∧ (s.observeHead h a b).hou = s.hou ∧
    (s.observeHead h a b).cmu = s.cmu ∧ (s.observeHead h a b).sld = s.sld := by
  simp [State.observeHead]

@[simp] theorem State.observePoint_keeps (s : State) (p : Fin 16) (n r : Bool) :
    (s.observePoint p n r).pending = s.pending ∧ (s.observePoint p n r).ticks = s.ticks ∧
    (s.observePoint p n r).pins = s.pins ∧ (s.observePoint p n r).config = s.config ∧
    (s.observePoint p n r).fsu.sensors = s.fsu.sensors ∧
    (s.observePoint p n r).fsu.lamps = s.fsu.lamps ∧
    (s.observePoint p n r).fsu.drives = s.fsu.drives ∧
    (s.observePoint p n r).fsu.onHalf = s.fsu.onHalf ∧ (s.observePoint p n r).acu = s.acu ∧
    (s.observePoint p n r).pcu = s.pcu ∧ (s.observePoint p n r).lku = s.lku ∧
    (s.observePoint p n r).asu = s.asu ∧ (s.observePoint p n r).rtp = s.rtp ∧
    (s.observePoint p n r).slu = s.slu ∧ (s.observePoint p n r).hou = s.hou ∧
    (s.observePoint p n r).cmu = s.cmu ∧ (s.observePoint p n r).sld = s.sld := by
  simp [State.observePoint]

@[simp] theorem State.observeProving_keeps (s : State) (g : Fin 16) (l : Lamp) (v : Bool) :
    (s.observeProving g l v).pending = s.pending ∧ (s.observeProving g l v).ticks = s.ticks ∧
    (s.observeProving g l v).pins = s.pins ∧ (s.observeProving g l v).config = s.config ∧
    (s.observeProving g l v).fsu.sensors = s.fsu.sensors ∧
    (s.observeProving g l v).fsu.lamps = s.fsu.lamps ∧
    (s.observeProving g l v).fsu.drives = s.fsu.drives ∧
    (s.observeProving g l v).fsu.onHalf = s.fsu.onHalf ∧ (s.observeProving g l v).acu = s.acu ∧
    (s.observeProving g l v).pcu = s.pcu ∧ (s.observeProving g l v).lku = s.lku ∧
    (s.observeProving g l v).asu = s.asu ∧ (s.observeProving g l v).rtp = s.rtp ∧
    (s.observeProving g l v).slu = s.slu ∧ (s.observeProving g l v).hou = s.hou ∧
    (s.observeProving g l v).cmu = s.cmu ∧ (s.observeProving g l v).sld = s.sld := by
  simp [State.observeProving]

@[simp] theorem State.countPassage_keeps (s : State) (h : Fin 24) (p : Passage) :
    (s.countPassage h p).pending = s.pending ∧ (s.countPassage h p).ticks = s.ticks ∧
    (s.countPassage h p).pins = s.pins ∧ (s.countPassage h p).config = s.config ∧
    (s.countPassage h p).fsu = s.fsu ∧ (s.countPassage h p).acu.baselines = s.acu.baselines ∧
    (s.countPassage h p).pcu = s.pcu ∧ (s.countPassage h p).lku = s.lku ∧
    (s.countPassage h p).asu = s.asu ∧ (s.countPassage h p).rtp = s.rtp ∧
    (s.countPassage h p).slu = s.slu ∧ (s.countPassage h p).hou = s.hou ∧
    (s.countPassage h p).cmu = s.cmu ∧ (s.countPassage h p).sld = s.sld := by
  simp [State.countPassage]

@[simp] theorem State.sequenceError_keeps (s : State) (h : Fin 24) (a b : Bool) :
    (s.sequenceError h a b).pending = s.pending ∧ (s.sequenceError h a b).ticks = s.ticks ∧
    (s.sequenceError h a b).pins = s.pins ∧ (s.sequenceError h a b).config = s.config ∧
    (s.sequenceError h a b).fsu = s.fsu ∧ (s.sequenceError h a b).acu.baselines = s.acu.baselines ∧
    (s.sequenceError h a b).pcu = s.pcu ∧ (s.sequenceError h a b).lku = s.lku ∧
    (s.sequenceError h a b).asu = s.asu ∧ (s.sequenceError h a b).rtp = s.rtp ∧
    (s.sequenceError h a b).slu = s.slu ∧ (s.sequenceError h a b).hou = s.hou ∧
    (s.sequenceError h a b).cmu.queue = s.cmu.queue ∧
    (s.sequenceError h a b).cmu.pendingReset = s.cmu.pendingReset ∧
    (s.sequenceError h a b).cmu.displayPeriod = s.cmu.displayPeriod ∧
    (s.sequenceError h a b).cmu.pageZero = s.cmu.pageZero ∧
    (s.sequenceError h a b).cmu.pageOne = s.cmu.pageOne ∧ (s.sequenceError h a b).sld = s.sld := by
  simp [State.sequenceError]

@[simp] theorem State.decodeHead_keeps (s : State) (h : Fin 24) (a b : Bool) :
    (s.decodeHead h a b).pending = s.pending ∧ (s.decodeHead h a b).ticks = s.ticks ∧
    (s.decodeHead h a b).pins = s.pins ∧ (s.decodeHead h a b).config = s.config ∧
    (s.decodeHead h a b).fsu = s.fsu ∧ (s.decodeHead h a b).acu.baselines = s.acu.baselines ∧
    (s.decodeHead h a b).pcu = s.pcu ∧ (s.decodeHead h a b).lku = s.lku ∧
    (s.decodeHead h a b).asu = s.asu ∧ (s.decodeHead h a b).rtp = s.rtp ∧
    (s.decodeHead h a b).slu = s.slu ∧ (s.decodeHead h a b).hou = s.hou ∧
    (s.decodeHead h a b).cmu.queue = s.cmu.queue ∧
    (s.decodeHead h a b).cmu.pendingReset = s.cmu.pendingReset ∧
    (s.decodeHead h a b).cmu.displayPeriod = s.cmu.displayPeriod ∧
    (s.decodeHead h a b).cmu.pageZero = s.cmu.pageZero ∧
    (s.decodeHead h a b).cmu.pageOne = s.cmu.pageOne ∧ (s.decodeHead h a b).sld = s.sld := by
  simp only [State.decodeHead]
  repeat' split
  all_goals simp

@[simp] theorem State.headObservation_keeps (s : State) (h : Fin 24) (a b : Bool) :
    (s.headObservation h a b).pending = s.pending ∧ (s.headObservation h a b).ticks = s.ticks ∧
    (s.headObservation h a b).pins = s.pins ∧ (s.headObservation h a b).config = s.config ∧
    (s.headObservation h a b).fsu.contacts = s.fsu.contacts ∧
    (s.headObservation h a b).fsu.lamps = s.fsu.lamps ∧
    (s.headObservation h a b).fsu.drives = s.fsu.drives ∧
    (s.headObservation h a b).fsu.onHalf = s.fsu.onHalf ∧
    (s.headObservation h a b).acu.baselines = s.acu.baselines ∧
    (s.headObservation h a b).pcu = s.pcu ∧ (s.headObservation h a b).lku = s.lku ∧
    (s.headObservation h a b).asu = s.asu ∧ (s.headObservation h a b).rtp = s.rtp ∧
    (s.headObservation h a b).slu = s.slu ∧ (s.headObservation h a b).hou = s.hou ∧
    (s.headObservation h a b).cmu.queue = s.cmu.queue ∧
    (s.headObservation h a b).cmu.pendingReset = s.cmu.pendingReset ∧
    (s.headObservation h a b).cmu.displayPeriod = s.cmu.displayPeriod ∧
    (s.headObservation h a b).cmu.pageZero = s.cmu.pageZero ∧
    (s.headObservation h a b).cmu.pageOne = s.cmu.pageOne ∧
    (s.headObservation h a b).sld = s.sld := by
  unfold State.headObservation
  repeat' split
  all_goals simp

@[simp] theorem State.restExpiry_keeps (s : State) (h : Fin 24) :
    (s.restExpiry h).pending = s.pending ∧ (s.restExpiry h).ticks = s.ticks ∧
    (s.restExpiry h).pins = s.pins ∧ (s.restExpiry h).config = s.config ∧
    (s.restExpiry h).fsu = s.fsu ∧ (s.restExpiry h).acu.sections = s.acu.sections ∧
    (s.restExpiry h).acu.baselines = s.acu.baselines ∧ (s.restExpiry h).pcu = s.pcu ∧
    (s.restExpiry h).lku = s.lku ∧ (s.restExpiry h).asu = s.asu ∧ (s.restExpiry h).rtp = s.rtp ∧
    (s.restExpiry h).slu = s.slu ∧ (s.restExpiry h).hou = s.hou ∧ (s.restExpiry h).cmu = s.cmu ∧
    (s.restExpiry h).sld = s.sld := by
  simp only [State.restExpiry]
  repeat' split
  all_goals simp

@[simp] theorem State.detectionFaults_keeps (s : State) (p : Fin 16) (x y : Detected) :
    (s.detectionFaults p x y).pending = s.pending ∧ (s.detectionFaults p x y).ticks = s.ticks ∧
    (s.detectionFaults p x y).pins = s.pins ∧ (s.detectionFaults p x y).config = s.config ∧
    (s.detectionFaults p x y).fsu = s.fsu ∧ (s.detectionFaults p x y).acu = s.acu ∧
    (s.detectionFaults p x y).pcu = s.pcu ∧ (s.detectionFaults p x y).lku = s.lku ∧
    (s.detectionFaults p x y).asu = s.asu ∧ (s.detectionFaults p x y).rtp = s.rtp ∧
    (s.detectionFaults p x y).slu = s.slu ∧ (s.detectionFaults p x y).hou = s.hou ∧
    (s.detectionFaults p x y).cmu.queue = s.cmu.queue ∧
    (s.detectionFaults p x y).cmu.pendingReset = s.cmu.pendingReset ∧
    (s.detectionFaults p x y).cmu.displayPeriod = s.cmu.displayPeriod ∧
    (s.detectionFaults p x y).cmu.pageZero = s.cmu.pageZero ∧
    (s.detectionFaults p x y).cmu.pageOne = s.cmu.pageOne ∧
    (s.detectionFaults p x y).sld = s.sld := by
  simp only [State.detectionFaults]
  split <;> split <;> split <;> (try split) <;> (try split) <;> simp

@[simp] theorem State.detect_keeps (s : State) (p : Fin 16) (x : Detected) :
    (s.detect p x).pending = s.pending ∧ (s.detect p x).ticks = s.ticks ∧
    (s.detect p x).pins = s.pins ∧ (s.detect p x).config = s.config ∧ (s.detect p x).fsu = s.fsu ∧
    (s.detect p x).acu = s.acu ∧ (s.detect p x).lku = s.lku ∧ (s.detect p x).asu = s.asu ∧
    (s.detect p x).rtp = s.rtp ∧ (s.detect p x).slu = s.slu ∧ (s.detect p x).hou = s.hou ∧
    (s.detect p x).cmu.queue = s.cmu.queue ∧ (s.detect p x).cmu.pendingReset = s.cmu.pendingReset ∧
    (s.detect p x).cmu.displayPeriod = s.cmu.displayPeriod ∧
    (s.detect p x).cmu.pageZero = s.cmu.pageZero ∧ (s.detect p x).cmu.pageOne = s.cmu.pageOne ∧
    (s.detect p x).sld = s.sld := by
  simp only [State.detect]
  split <;> simp

@[simp] theorem State.detectionObservation_keeps (s : State) (p : Fin 16) (n r : Bool) :
    (s.detectionObservation p n r).pending = s.pending ∧
    (s.detectionObservation p n r).ticks = s.ticks ∧ (s.detectionObservation p n r).pins = s.pins ∧
    (s.detectionObservation p n r).config = s.config ∧
    (s.detectionObservation p n r).fsu.sensors = s.fsu.sensors ∧
    (s.detectionObservation p n r).fsu.lamps = s.fsu.lamps ∧
    (s.detectionObservation p n r).fsu.drives = s.fsu.drives ∧
    (s.detectionObservation p n r).fsu.onHalf = s.fsu.onHalf ∧
    (s.detectionObservation p n r).acu = s.acu ∧ (s.detectionObservation p n r).lku = s.lku ∧
    (s.detectionObservation p n r).asu = s.asu ∧ (s.detectionObservation p n r).rtp = s.rtp ∧
    (s.detectionObservation p n r).slu = s.slu ∧ (s.detectionObservation p n r).hou = s.hou ∧
    (s.detectionObservation p n r).cmu.queue = s.cmu.queue ∧
    (s.detectionObservation p n r).cmu.pendingReset = s.cmu.pendingReset ∧
    (s.detectionObservation p n r).cmu.displayPeriod = s.cmu.displayPeriod ∧
    (s.detectionObservation p n r).cmu.pageZero = s.cmu.pageZero ∧
    (s.detectionObservation p n r).cmu.pageOne = s.cmu.pageOne ∧
    (s.detectionObservation p n r).sld = s.sld := by
  unfold State.detectionObservation
  repeat' split
  all_goals simp

@[simp] theorem State.settleExpiry_keeps (s : State) (p : Fin 16) :
    (s.settleExpiry p).pending = s.pending ∧ (s.settleExpiry p).ticks = s.ticks ∧
    (s.settleExpiry p).pins = s.pins ∧ (s.settleExpiry p).config = s.config ∧
    (s.settleExpiry p).fsu = s.fsu ∧ (s.settleExpiry p).acu = s.acu ∧
    (s.settleExpiry p).lku = s.lku ∧ (s.settleExpiry p).asu = s.asu ∧
    (s.settleExpiry p).rtp = s.rtp ∧ (s.settleExpiry p).slu = s.slu ∧
    (s.settleExpiry p).hou = s.hou ∧ (s.settleExpiry p).cmu = s.cmu ∧
    (s.settleExpiry p).sld = s.sld := by
  simp only [State.settleExpiry]
  repeat' split
  all_goals simp

@[simp] theorem State.moveExpiry_keeps (s : State) (p : Fin 16) :
    (s.moveExpiry p).pending = s.pending ∧ (s.moveExpiry p).ticks = s.ticks ∧
    (s.moveExpiry p).pins = s.pins ∧ (s.moveExpiry p).config = s.config ∧
    (s.moveExpiry p).fsu = s.fsu ∧ (s.moveExpiry p).acu = s.acu ∧ (s.moveExpiry p).lku = s.lku ∧
    (s.moveExpiry p).asu = s.asu ∧ (s.moveExpiry p).rtp = s.rtp ∧ (s.moveExpiry p).slu = s.slu ∧
    (s.moveExpiry p).hou = s.hou ∧ (s.moveExpiry p).cmu.queue = s.cmu.queue ∧
    (s.moveExpiry p).cmu.pendingReset = s.cmu.pendingReset ∧
    (s.moveExpiry p).cmu.displayPeriod = s.cmu.displayPeriod ∧
    (s.moveExpiry p).cmu.pageZero = s.cmu.pageZero ∧ (s.moveExpiry p).cmu.pageOne = s.cmu.pageOne ∧
    (s.moveExpiry p).sld = s.sld := by
  simp only [State.moveExpiry]
  repeat' split
  all_goals simp

@[simp] theorem State.failureExpiry_keeps (s : State) (g : Fin 16) (l : Lamp) :
    (s.failureExpiry g l).pending = s.pending ∧ (s.failureExpiry g l).ticks = s.ticks ∧
    (s.failureExpiry g l).pins = s.pins ∧ (s.failureExpiry g l).config = s.config ∧
    (s.failureExpiry g l).fsu = s.fsu ∧ (s.failureExpiry g l).acu = s.acu ∧
    (s.failureExpiry g l).pcu = s.pcu ∧ (s.failureExpiry g l).lku = s.lku ∧
    (s.failureExpiry g l).rtp = s.rtp ∧ (s.failureExpiry g l).slu = s.slu ∧
    (s.failureExpiry g l).hou = s.hou ∧ (s.failureExpiry g l).cmu.queue = s.cmu.queue ∧
    (s.failureExpiry g l).cmu.pendingReset = s.cmu.pendingReset ∧
    (s.failureExpiry g l).cmu.displayPeriod = s.cmu.displayPeriod ∧
    (s.failureExpiry g l).cmu.pageZero = s.cmu.pageZero ∧
    (s.failureExpiry g l).cmu.pageOne = s.cmu.pageOne ∧ (s.failureExpiry g l).sld = s.sld := by
  unfold State.failureExpiry
  repeat' split
  all_goals simp

@[simp] theorem State.strayExpiry_keeps (s : State) (g : Fin 16) (l : Lamp) :
    (s.strayExpiry g l).pending = s.pending ∧ (s.strayExpiry g l).ticks = s.ticks ∧
    (s.strayExpiry g l).pins = s.pins ∧ (s.strayExpiry g l).config = s.config ∧
    (s.strayExpiry g l).fsu = s.fsu ∧ (s.strayExpiry g l).acu = s.acu ∧
    (s.strayExpiry g l).pcu = s.pcu ∧ (s.strayExpiry g l).lku = s.lku ∧
    (s.strayExpiry g l).rtp = s.rtp ∧ (s.strayExpiry g l).slu = s.slu ∧
    (s.strayExpiry g l).hou = s.hou ∧ (s.strayExpiry g l).cmu.queue = s.cmu.queue ∧
    (s.strayExpiry g l).cmu.pendingReset = s.cmu.pendingReset ∧
    (s.strayExpiry g l).cmu.displayPeriod = s.cmu.displayPeriod ∧
    (s.strayExpiry g l).cmu.pageZero = s.cmu.pageZero ∧
    (s.strayExpiry g l).cmu.pageOne = s.cmu.pageOne ∧ (s.strayExpiry g l).sld = s.sld := by
  unfold State.strayExpiry
  repeat' split
  all_goals simp

@[simp] theorem State.strayClearExpiry_keeps (s : State) (g : Fin 16) (l : Lamp) :
    (s.strayClearExpiry g l).pending = s.pending ∧ (s.strayClearExpiry g l).ticks = s.ticks ∧
    (s.strayClearExpiry g l).pins = s.pins ∧ (s.strayClearExpiry g l).config = s.config ∧
    (s.strayClearExpiry g l).fsu = s.fsu ∧ (s.strayClearExpiry g l).acu = s.acu ∧
    (s.strayClearExpiry g l).pcu = s.pcu ∧ (s.strayClearExpiry g l).lku = s.lku ∧
    (s.strayClearExpiry g l).rtp = s.rtp ∧ (s.strayClearExpiry g l).slu = s.slu ∧
    (s.strayClearExpiry g l).hou = s.hou ∧ (s.strayClearExpiry g l).cmu.queue = s.cmu.queue ∧
    (s.strayClearExpiry g l).cmu.pendingReset = s.cmu.pendingReset ∧
    (s.strayClearExpiry g l).cmu.displayPeriod = s.cmu.displayPeriod ∧
    (s.strayClearExpiry g l).cmu.pageZero = s.cmu.pageZero ∧
    (s.strayClearExpiry g l).cmu.pageOne = s.cmu.pageOne ∧
    (s.strayClearExpiry g l).sld = s.sld := by
  unfold State.strayClearExpiry
  repeat' split
  all_goals simp

@[simp] theorem State.flashBoundary_keeps (s : State) :
    (s.flashBoundary).pending = s.pending ∧ (s.flashBoundary).ticks = s.ticks ∧
    (s.flashBoundary).pins = s.pins ∧ (s.flashBoundary).config = s.config ∧
    (s.flashBoundary).fsu.sensors = s.fsu.sensors ∧
    (s.flashBoundary).fsu.contacts = s.fsu.contacts ∧ (s.flashBoundary).fsu.lamps = s.fsu.lamps ∧
    (s.flashBoundary).fsu.drives = s.fsu.drives ∧ (s.flashBoundary).acu = s.acu ∧
    (s.flashBoundary).pcu = s.pcu ∧ (s.flashBoundary).lku = s.lku ∧ (s.flashBoundary).rtp = s.rtp ∧
    (s.flashBoundary).slu = s.slu ∧ (s.flashBoundary).hou = s.hou ∧ (s.flashBoundary).cmu = s.cmu ∧
    (s.flashBoundary).sld = s.sld := by
  simp [State.flashBoundary]

@[simp] theorem State.setPanelSilence_keeps (s : State) (p : Fin 2) (t : Timer) :
    (s.setPanelSilence p t).pending = s.pending ∧ (s.setPanelSilence p t).ticks = s.ticks ∧
    (s.setPanelSilence p t).pins = s.pins ∧ (s.setPanelSilence p t).config = s.config ∧
    (s.setPanelSilence p t).fsu = s.fsu ∧ (s.setPanelSilence p t).acu = s.acu ∧
    (s.setPanelSilence p t).pcu = s.pcu ∧ (s.setPanelSilence p t).lku = s.lku ∧
    (s.setPanelSilence p t).asu = s.asu ∧ (s.setPanelSilence p t).rtp = s.rtp ∧
    (s.setPanelSilence p t).slu.counter = s.slu.counter ∧
    (s.setPanelSilence p t).slu.placings = s.slu.placings ∧
    (s.setPanelSilence p t).slu.classOne = s.slu.classOne ∧
    (s.setPanelSilence p t).slu.statusSlot = s.slu.statusSlot ∧
    (s.setPanelSilence p t).slu.displayZero = s.slu.displayZero ∧
    (s.setPanelSilence p t).slu.displayOne = s.slu.displayOne ∧
    (s.setPanelSilence p t).slu.lineA = s.slu.lineA ∧
    (s.setPanelSilence p t).slu.lineB = s.slu.lineB ∧
    (s.setPanelSilence p t).slu.neighbourWindows = s.slu.neighbourWindows ∧
    (s.setPanelSilence p t).slu.panelWindows = s.slu.panelWindows ∧
    (s.setPanelSilence p t).hou = s.hou ∧ (s.setPanelSilence p t).cmu = s.cmu ∧
    (s.setPanelSilence p t).sld = s.sld := by
  simp [State.setPanelSilence]

@[simp] theorem State.panelExpiry_keeps (s : State) (p : Fin 2) :
    (s.panelExpiry p).pending = s.pending ∧ (s.panelExpiry p).ticks = s.ticks ∧
    (s.panelExpiry p).pins = s.pins ∧ (s.panelExpiry p).config = s.config ∧
    (s.panelExpiry p).fsu = s.fsu ∧ (s.panelExpiry p).acu = s.acu ∧ (s.panelExpiry p).pcu = s.pcu ∧
    (s.panelExpiry p).lku = s.lku ∧ (s.panelExpiry p).asu = s.asu ∧ (s.panelExpiry p).rtp = s.rtp ∧
    (s.panelExpiry p).slu.counter = s.slu.counter ∧
    (s.panelExpiry p).slu.placings = s.slu.placings ∧
    (s.panelExpiry p).slu.classOne = s.slu.classOne ∧
    (s.panelExpiry p).slu.statusSlot = s.slu.statusSlot ∧
    (s.panelExpiry p).slu.displayZero = s.slu.displayZero ∧
    (s.panelExpiry p).slu.displayOne = s.slu.displayOne ∧
    (s.panelExpiry p).slu.lineA = s.slu.lineA ∧ (s.panelExpiry p).slu.lineB = s.slu.lineB ∧
    (s.panelExpiry p).hou = s.hou ∧ (s.panelExpiry p).cmu = s.cmu ∧
    (s.panelExpiry p).sld = s.sld := by
  unfold State.panelExpiry
  repeat' split
  all_goals simp

@[simp] theorem State.healthExpiry_keeps (s : State) (l : Line) :
    (s.healthExpiry l).pending = s.pending ∧ (s.healthExpiry l).ticks = s.ticks ∧
    (s.healthExpiry l).pins = s.pins ∧ (s.healthExpiry l).config = s.config ∧
    (s.healthExpiry l).fsu = s.fsu ∧ (s.healthExpiry l).acu = s.acu ∧
    (s.healthExpiry l).pcu = s.pcu ∧ (s.healthExpiry l).lku = s.lku ∧
    (s.healthExpiry l).asu = s.asu ∧ (s.healthExpiry l).rtp = s.rtp ∧
    (s.healthExpiry l).slu.counter = s.slu.counter ∧
    (s.healthExpiry l).slu.placings = s.slu.placings ∧
    (s.healthExpiry l).slu.classOne = s.slu.classOne ∧
    (s.healthExpiry l).slu.statusSlot = s.slu.statusSlot ∧
    (s.healthExpiry l).slu.displayZero = s.slu.displayZero ∧
    (s.healthExpiry l).slu.displayOne = s.slu.displayOne ∧
    (s.healthExpiry l).slu.neighbourWindows = s.slu.neighbourWindows ∧
    (s.healthExpiry l).slu.panelWindows = s.slu.panelWindows ∧
    (s.healthExpiry l).slu.panelSilence = s.slu.panelSilence ∧ (s.healthExpiry l).hou = s.hou ∧
    (s.healthExpiry l).cmu.queue = s.cmu.queue ∧
    (s.healthExpiry l).cmu.pendingReset = s.cmu.pendingReset ∧
    (s.healthExpiry l).cmu.displayPeriod = s.cmu.displayPeriod ∧
    (s.healthExpiry l).cmu.pageZero = s.cmu.pageZero ∧
    (s.healthExpiry l).cmu.pageOne = s.cmu.pageOne ∧ (s.healthExpiry l).sld = s.sld := by
  unfold State.healthExpiry
  repeat' split
  all_goals simp

@[simp] theorem State.statusExpiry_keeps (s : State) :
    (s.statusExpiry).pending = s.pending ∧ (s.statusExpiry).ticks = s.ticks ∧
    (s.statusExpiry).pins = s.pins ∧ (s.statusExpiry).config = s.config ∧
    (s.statusExpiry).fsu = s.fsu ∧ (s.statusExpiry).acu = s.acu ∧ (s.statusExpiry).pcu = s.pcu ∧
    (s.statusExpiry).lku = s.lku ∧ (s.statusExpiry).asu = s.asu ∧ (s.statusExpiry).rtp = s.rtp ∧
    (s.statusExpiry).slu.classOne = s.slu.classOne ∧
    (s.statusExpiry).slu.displayZero = s.slu.displayZero ∧
    (s.statusExpiry).slu.displayOne = s.slu.displayOne ∧ (s.statusExpiry).slu.lineA = s.slu.lineA ∧
    (s.statusExpiry).slu.lineB = s.slu.lineB ∧
    (s.statusExpiry).slu.neighbourWindows = s.slu.neighbourWindows ∧
    (s.statusExpiry).slu.panelWindows = s.slu.panelWindows ∧
    (s.statusExpiry).slu.panelSilence = s.slu.panelSilence ∧
    (s.statusExpiry).hou.neighbours = s.hou.neighbours ∧
    (s.statusExpiry).hou.offers = s.hou.offers ∧ (s.statusExpiry).hou.lastId = s.hou.lastId ∧
    (s.statusExpiry).hou.portions = s.hou.portions ∧ (s.statusExpiry).hou.grants = s.hou.grants ∧
    (s.statusExpiry).cmu = s.cmu ∧ (s.statusExpiry).sld = s.sld := by
  unfold State.statusExpiry
  repeat' split
  all_goals simp

@[simp] theorem State.statusPacingEnd_keeps (s : State) :
    (s.statusPacingEnd).pending = s.pending ∧ (s.statusPacingEnd).ticks = s.ticks ∧
    (s.statusPacingEnd).pins = s.pins ∧ (s.statusPacingEnd).config = s.config ∧
    (s.statusPacingEnd).fsu = s.fsu ∧ (s.statusPacingEnd).acu = s.acu ∧
    (s.statusPacingEnd).pcu = s.pcu ∧ (s.statusPacingEnd).lku = s.lku ∧
    (s.statusPacingEnd).asu = s.asu ∧ (s.statusPacingEnd).rtp = s.rtp ∧
    (s.statusPacingEnd).slu.classOne = s.slu.classOne ∧
    (s.statusPacingEnd).slu.displayZero = s.slu.displayZero ∧
    (s.statusPacingEnd).slu.displayOne = s.slu.displayOne ∧
    (s.statusPacingEnd).slu.lineA = s.slu.lineA ∧ (s.statusPacingEnd).slu.lineB = s.slu.lineB ∧
    (s.statusPacingEnd).slu.neighbourWindows = s.slu.neighbourWindows ∧
    (s.statusPacingEnd).slu.panelWindows = s.slu.panelWindows ∧
    (s.statusPacingEnd).slu.panelSilence = s.slu.panelSilence ∧
    (s.statusPacingEnd).hou.neighbours = s.hou.neighbours ∧
    (s.statusPacingEnd).hou.offers = s.hou.offers ∧ (s.statusPacingEnd).hou.lastId = s.hou.lastId ∧
    (s.statusPacingEnd).hou.portions = s.hou.portions ∧
    (s.statusPacingEnd).hou.grants = s.hou.grants ∧ (s.statusPacingEnd).cmu = s.cmu ∧
    (s.statusPacingEnd).sld = s.sld := by
  simp only [State.statusPacingEnd]
  repeat' split
  all_goals simp

@[simp] theorem State.displayExpiry_keeps (s : State) :
    (s.displayExpiry).pending = s.pending ∧ (s.displayExpiry).ticks = s.ticks ∧
    (s.displayExpiry).pins = s.pins ∧ (s.displayExpiry).config = s.config ∧
    (s.displayExpiry).fsu = s.fsu ∧ (s.displayExpiry).acu = s.acu ∧ (s.displayExpiry).pcu = s.pcu ∧
    (s.displayExpiry).lku = s.lku ∧ (s.displayExpiry).asu = s.asu ∧ (s.displayExpiry).rtp = s.rtp ∧
    (s.displayExpiry).slu.classOne = s.slu.classOne ∧
    (s.displayExpiry).slu.statusSlot = s.slu.statusSlot ∧
    (s.displayExpiry).slu.lineA = s.slu.lineA ∧ (s.displayExpiry).slu.lineB = s.slu.lineB ∧
    (s.displayExpiry).slu.neighbourWindows = s.slu.neighbourWindows ∧
    (s.displayExpiry).slu.panelWindows = s.slu.panelWindows ∧
    (s.displayExpiry).slu.panelSilence = s.slu.panelSilence ∧ (s.displayExpiry).hou = s.hou ∧
    (s.displayExpiry).cmu.queue = s.cmu.queue ∧
    (s.displayExpiry).cmu.pendingReset = s.cmu.pendingReset ∧
    (s.displayExpiry).cmu.faults = s.cmu.faults ∧ (s.displayExpiry).sld = s.sld := by
  unfold State.displayExpiry
  repeat' split
  all_goals simp

@[simp] theorem State.displayPacingEnd_keeps (s : State) (page : Page) :
    (s.displayPacingEnd page).pending = s.pending ∧ (s.displayPacingEnd page).ticks = s.ticks ∧
    (s.displayPacingEnd page).pins = s.pins ∧ (s.displayPacingEnd page).config = s.config ∧
    (s.displayPacingEnd page).fsu = s.fsu ∧ (s.displayPacingEnd page).acu = s.acu ∧
    (s.displayPacingEnd page).pcu = s.pcu ∧ (s.displayPacingEnd page).lku = s.lku ∧
    (s.displayPacingEnd page).asu = s.asu ∧ (s.displayPacingEnd page).rtp = s.rtp ∧
    (s.displayPacingEnd page).slu.classOne = s.slu.classOne ∧
    (s.displayPacingEnd page).slu.statusSlot = s.slu.statusSlot ∧
    (s.displayPacingEnd page).slu.lineA = s.slu.lineA ∧
    (s.displayPacingEnd page).slu.lineB = s.slu.lineB ∧
    (s.displayPacingEnd page).slu.neighbourWindows = s.slu.neighbourWindows ∧
    (s.displayPacingEnd page).slu.panelWindows = s.slu.panelWindows ∧
    (s.displayPacingEnd page).slu.panelSilence = s.slu.panelSilence ∧
    (s.displayPacingEnd page).hou = s.hou ∧ (s.displayPacingEnd page).cmu.queue = s.cmu.queue ∧
    (s.displayPacingEnd page).cmu.pendingReset = s.cmu.pendingReset ∧
    (s.displayPacingEnd page).cmu.faults = s.cmu.faults ∧
    (s.displayPacingEnd page).cmu.displayPeriod = s.cmu.displayPeriod ∧
    (s.displayPacingEnd page).sld = s.sld := by
  simp only [State.displayPacingEnd]
  repeat' split
  all_goals simp

@[simp] theorem State.idleOverlaps_keeps (s : State) :
    (s.idleOverlaps).pending = s.pending ∧ (s.idleOverlaps).ticks = s.ticks ∧
    (s.idleOverlaps).pins = s.pins ∧ (s.idleOverlaps).config = s.config ∧
    (s.idleOverlaps).fsu = s.fsu ∧ (s.idleOverlaps).acu = s.acu ∧ (s.idleOverlaps).pcu = s.pcu ∧
    (s.idleOverlaps).lku.sections = s.lku.sections ∧ (s.idleOverlaps).lku.points = s.lku.points ∧
    (s.idleOverlaps).lku.signals = s.lku.signals ∧ (s.idleOverlaps).asu = s.asu ∧
    (s.idleOverlaps).rtp = s.rtp ∧ (s.idleOverlaps).slu = s.slu ∧
    (s.idleOverlaps).hou.neighbours = s.hou.neighbours ∧
    (s.idleOverlaps).hou.offers = s.hou.offers ∧ (s.idleOverlaps).hou.lastId = s.hou.lastId ∧
    (s.idleOverlaps).hou.grants = s.hou.grants ∧
    (s.idleOverlaps).hou.statusPeriod = s.hou.statusPeriod ∧
    (s.idleOverlaps).hou.statusPacing = s.hou.statusPacing ∧
    (s.idleOverlaps).hou.statusChange = s.hou.statusChange ∧ (s.idleOverlaps).cmu = s.cmu ∧
    (s.idleOverlaps).sld = s.sld := by
  simp [State.idleOverlaps]

@[simp] theorem State.startLines_keeps (s : State) :
    (s.startLines).pending = s.pending ∧ (s.startLines).ticks = s.ticks ∧
    (s.startLines).pins = s.pins ∧ (s.startLines).config = s.config ∧ (s.startLines).fsu = s.fsu ∧
    (s.startLines).acu = s.acu ∧ (s.startLines).pcu = s.pcu ∧ (s.startLines).lku = s.lku ∧
    (s.startLines).asu = s.asu ∧ (s.startLines).rtp = s.rtp ∧
    (s.startLines).slu.counter = s.slu.counter ∧ (s.startLines).slu.placings = s.slu.placings ∧
    (s.startLines).slu.classOne = s.slu.classOne ∧
    (s.startLines).slu.statusSlot = s.slu.statusSlot ∧
    (s.startLines).slu.displayZero = s.slu.displayZero ∧
    (s.startLines).slu.displayOne = s.slu.displayOne ∧
    (s.startLines).slu.neighbourWindows = s.slu.neighbourWindows ∧
    (s.startLines).slu.panelWindows = s.slu.panelWindows ∧
    (s.startLines).slu.panelSilence = s.slu.panelSilence ∧ (s.startLines).hou = s.hou ∧
    (s.startLines).cmu = s.cmu ∧ (s.startLines).sld = s.sld := by
  simp [State.startLines]

/-- A frame that is discarded records at most PAIRING_MISMATCH, or the good telegram of its line and
the hearing of its panel; a frame that is accepted leaves the records as `State.received` gives them
(R138, R139, R141, R142). -/
theorem receive_cases (kind : Byte) (f : Frame) (s : State) :
    (screened s kind f = none ∧ receive kind f s = .discarded s) ∨
    (∃ src code p, screened s kind f = some (src, code, p) ∧ f.code ≠ code ∧
      receive kind f s = .discarded (s.setFault .pairingMismatch f.source)) ∨
    (∃ src p, screened s kind f = some (src, f.code, p) ∧
    f.seq ∈ (s.goodTelegram f.line).window src ∧
      receive kind f s = .discarded ((s.goodTelegram f.line).hearFrom src)) ∨
    (∃ src p, screened s kind f = some (src, f.code, p) ∧
    f.seq ∉ (s.goodTelegram f.line).window src ∧
      receive kind f s = .accepted (s.received src f) src p) := by
  unfold receive
  split
  · next h => exact .inl ⟨h, rfl⟩
  · next src code p h =>
    by_cases hc : f.code = code
    · subst hc
      by_cases hw : f.seq ∈ (s.goodTelegram f.line).window src
      · exact .inr (.inr (.inl ⟨src, p, h, hw, by simp [hw]⟩))
      · exact .inr (.inr (.inr ⟨src, p, h, hw, by simp [hw, State.received]⟩))
    · exact .inr (.inl ⟨src, code, p, h, hc, by simp [hc]⟩)

end Sys2Proof.Machine
end

