-- ==== Sys2Proof/Tests/Slice0.lean ====
section
/-! SUPPORT. The model's own tests: the checks of WellFormed, the check values of R171 and R172,
single commands against the manual's tables, and one witness for each obligation that has
hypotheses: a station and operands that meet them, clause by clause. -/

open Sys2Proof Sys2Proof.Machine

namespace Sys2Proof.Tests

set_option Elab.async false

/-! ## A zone and a station in it -/

/-- Route 2: MAIN from signal 0 to signal 1 over sections 8 and 11, point 6 at NORMAL, overlap
section 9, approach section 10. -/
def route : RouteCfg :=
  ⟨.main, 0, ⟨[8, 11], [(6, .normal)], [9], [], [], .localSignal 1⟩, [10], none, 20, 60, 30⟩

/-- Route 4: MAIN from signal 1 over the overlaps of route 2 and of portion 1, with a remote flank
point and a portion of neighbour 0. -/
def beyond : RouteCfg :=
  ⟨.main, 1, ⟨[9, 12], [], [], [], [22], .remoteSignal 0⟩, [], some (0, 3), 20, 60, 30⟩

/-- Portion 1, hosted for neighbour 0: section 16 and overlap section 12. -/
def portion : PortionCfg := ⟨0, ⟨[16], [], [12], [], [], .localSignal 1⟩⟩

/-- Neighbour 0, at address 6, with a reply policy. -/
def neighbour (policy : ReplyPolicy) : NeighbourCfg := ⟨6, 0x1111, 10, 15, policy⟩

/-- A section bounded by one head. -/
def section1 (head : HeadRef) (plus : Bool) (number : Option (Fin 32)) : SectionCfg :=
  ⟨[⟨head, plus⟩], none, number⟩

/-- The zone, with the neighbour's reply policy. -/
def zone (policy : ReplyPolicy) : ZoneConfig :=
  let e := ZoneConfig.empty
  { e with
    heads := upd e.heads 0 fun _ => some true
    sections := upd (upd (upd (upd (upd (upd (upd e.sections 8 fun _ =>
      some (section1 (.localHead 0) true none)) 9 fun _ =>
      some (section1 (.localHead 0) false none)) 10 fun _ =>
      some (section1 (.localHead 1) true none)) 11 fun _ =>
      some (section1 (.localHead 1) false none)) 12 fun _ =>
      some (section1 (.localHead 2) true none)) 16 fun _ =>
      some (section1 (.remoteHead 0) true (some 4))) 17 fun _ =>
      some ⟨[⟨.remoteHead 1, false⟩], some 0, some 5⟩
    remoteHeads := upd (upd e.remoteHeads 0 fun _ => some ⟨0, 2⟩) 1 fun _ => some ⟨0, 3⟩
    points := upd (upd e.points 6 fun _ => some ⟨11, true, 8⟩) 7 fun _ => some ⟨11, false, 8⟩
    signals := upd (upd e.signals 0 fun _ => some true) 1 fun _ => some false
    boundary := upd e.boundary 0 fun _ => some ⟨0, .point, 4⟩
    flank := upd (upd (upd e.flank 20 fun _ => some ⟨.point 6 .normal, none, true⟩) 21 fun _ =>
      some ⟨.signal 1, none, true⟩) 22 fun _ => some ⟨.remotePoint 0 .normal, some 20, false⟩
    routes := upd (upd e.routes 2 fun _ => some route) 4 fun _ => some beyond
    portions := upd (upd e.portions 1 fun _ => some portion) 2 fun _ =>
      some { portion with requester := 1 }
    neighbours := upd (upd e.neighbours 0 fun _ => some (neighbour policy)) 1 fun _ =>
      some ⟨7, 0x1111, 10, 15, .wait⟩
    panels := upd e.panels 0 fun _ => some ⟨20, 0x1234⟩ }

/-- The station at address 5, in a station state, with every section CLEAR and every point detected
at NORMAL. -/
def station (at_ : StationState) (policy : ReplyPolicy := .block) : State :=
  { State.reset with
    config := zone policy
    sld := { Loader.reset with
      station := at_, check := .accepted, ownAddress := some 5, reading := .stopped }
    acu := { AxleCount.reset with
      sections := Vector.replicate 32 ⟨0, .clear, false, false⟩ }
    pcu := { points := Vector.replicate 16 ⟨.normal, .rest, none, .stopped, .stopped, false⟩ } }

/-- The station in RUN. -/
abbrev running : State := station .run

/-- A frame to the station on line A. -/
def frame (source dest seq : Byte) (code : Word) (p : Payload) : Frame :=
  (Telegram.mk source dest seq code p).frame .a

/-- A frame from the neighbour, addressed to the station. -/
def fromNeighbour (p : Payload) : Frame := frame 6 5 9 0x1111 p

/-- A COMMAND of the panel. -/
def fromPanel (code arg1 arg2 arg3 : Byte) : Frame :=
  frame 20 5 9 0x1234 (.command code arg1 arg2 arg3)

/-- A command at the head of the queue. -/
def queued (code arg1 arg2 arg3 : Byte) : QueuedCommand := ⟨0, 9, code, arg1, arg2, arg3⟩

/-- A station with one queued command. -/
def withCommand (s : State) (c : QueuedCommand) : State :=
  { s with cmu := { s.cmu with queue := [c] } }

/-- What exec leaves, the state before where it gives none. -/
def after (i : Instr) (s : State) : State :=
  match exec i s with
  | .next t => t
  | .fault _ => s
  | .refused _ => s


/-- Whether an outcome is a next state. -/
def isNext : Host.Outcome State Fault Refusal → Bool
  | .next _ => true
  | .fault _ => false
  | .refused _ => false

theorem next_after (i : Instr) (s : State) (h : isNext (exec i s) = true) :
    exec i s = .next (after i s) := by
  unfold after
  cases e : exec i s with
  | next t => rfl
  | fault r => rw [e] at h; cases h
  | refused r => rw [e] at h; cases h

/-- The fault set of a station rewritten. -/
def withFaults (s : State) (faults : List Condition) : State :=
  { s with cmu := { s.cmu with faults := faults } }

/-! ## The checks of WellFormed -/

/-- A frame of `n` payload bytes. -/
def frameOfSize (n : Nat) : Frame := ⟨.a, 255, 6, 5, 0, 0x1111, List.replicate n 0, 0⟩

theorem test_frame_size_refused :
    (Instr.status (frameOfSize 247)).wellFormed = false ∧
      (Instr.status (frameOfSize 246)).wellFormed = true := by decide +kernel

theorem test_delivered_size_refused :
    deliveredOk (List.replicate 65536 0) = false ∧ deliveredOk (List.replicate 65535 0) = true := by
  unfold deliveredOk
  rw [List.length_replicate, List.length_replicate]
  decide +kernel

theorem test_empty_echo_refused :
    (Instr.telegramSent .a []).wellFormed = false ∧
      (Instr.attemptFailed .b [0]).wellFormed = true := by decide +kernel

theorem test_long_echo_refused :
    (Instr.attemptFailed .a (List.replicate 256 0)).wellFormed = false ∧
      (Instr.telegramSent .a (List.replicate 255 0)).wellFormed = true := by decide +kernel

/-! ## Check values and byte layouts -/

/-- The nine characters of "123456789". -/
def nineDigits : List Byte := [0x31, 0x32, 0x33, 0x34, 0x35, 0x36, 0x37, 0x38, 0x39]

theorem test_crc16_check_value : crc16 nineDigits = 0x29B1 := by decide +kernel

theorem test_crc32_check_value : crc32 nineDigits = 0xCBF43926 := by decide +kernel

/-! ## Single commands against the manual's tables -/

/-- R18: from A_LEAVING, (0, 0) counts a forward passage; the total 65535 becomes 0. -/
theorem test_passage_wraps :
    (let s := running.updHead 0 fun r => { r with phase := .aLeaving, forward := 65535 }
     let t := after (.headObservation 0 false false) s
     ((t.acu.heads[0]).phase, (t.acu.heads[0]).forward, (t.acu.sections[8]).count,
       (t.acu.sections[8]).state)) = (.idle, 0, 1, .occupied) := by decide +kernel

/-- R27: the same passage at a section of orientation −1 with count 0 leaves it DISTURBED at 0. -/
theorem test_passage_below_zero_disturbs :
    (let s := running.updHead 0 fun r => { r with phase := .aLeaving }
     let t := after (.headObservation 0 false false) s
     ((t.acu.sections[9]).count, (t.acu.sections[9]).state)) = (0, .disturbed) := by decide +kernel

/-- R56, R65: (1, 1) is BOTH and sets POINT_CONTRADICTION. -/
theorem test_both_inputs_contradict :
    (let t := after (.detectionObservation 6 true true) running
     ((t.pcu.points[6]).detected, t.hasFault .pointContradiction 6)) = (.both, true) := by
  decide +kernel

/-- R75 to R84 with R161: the route locks at once with its point at rest at NORMAL, and is answered
DONE: sequence number, code, 0, 0. -/
theorem test_set_route_locks :
    (let t := after .setRoute (withCommand running (queued 1 2 0 0))
     ((t.lku.routes[2]).state, t.slu.classOne.map (·.telegram.payload))) =
      (.locked, [.commandResult 9 1 0 0]) := by decide +kernel

/-- R77: a held section is a CONFLICT, reason 2. -/
theorem test_set_route_conflict :
    (let s := running.updSectionLock 8 fun l => { l with holder := some ⟨.portion 1, .path⟩ }
     let t := after .setRoute (withCommand s (queued 1 2 0 0))
     ((t.lku.routes[2]).state, t.slu.classOne.map (·.telegram.payload))) =
      (.idle, [.commandResult 9 1 1 2]) := by decide +kernel

/-- R162: BLOCK of a signal, kind 2, on. -/
theorem test_block_signal :
    ((after .block (withCommand running (queued 4 2 1 1))).lku.signals[1]).blocked = true := by
  decide +kernel

/-- R46: the complement of 8 is 247; 246 is refused CONFIRM_MISMATCH, reason 21. -/
theorem test_confirm_mismatch :
    (let s := { running with cmu := { running.cmu with
       queue := [queued 6 8 246 0], pendingReset := some ⟨8, 20, .start 100⟩ } }
     let t := after .confirmReset s
     (t.cmu.pendingReset, t.slu.classOne.map (·.telegram.payload))) =
      (none, [.commandResult 9 6 1 21]) := by decide +kernel

/-- R153: a portion granted answers PORTION_GRANT with the number and the offer id of the request.
-/
theorem test_portion_granted :
    (let t := after (.portionRequest (fromNeighbour (.portionRequest 1 77))) running
     ((t.hou.portions[1]).requester, t.slu.classOne.map (·.telegram.payload))) =
      (some (0, 77), [.portionGrant 1 77]) := by decide +kernel

/-- R128: element code 2 is a signal at danger; the hold of signal 1 is counted. -/
theorem test_flank_signal_granted :
    (let t := after (.flankRequest (fromNeighbour (.flankRequest 5 2 1))) running
     ((t.lku.signals[1]).holds, t.slu.classOne.map (·.telegram.payload))) =
      (1, [.flankGrant 5]) := by decide +kernel

/-- R138: a frame with a wrong CRC leaves no trace. -/
theorem test_wrong_crc_is_dropped :
    (let f := fromNeighbour (.portionRequest 1 77)
     (after (.portionRequest { f with crc := f.crc + 1 }) running).slu) = running.slu := by
  decide +kernel

/-- R139, R160: an accepted COMMAND is queued and its number joins the panel's window. -/
theorem test_command_is_queued :
    (let t := after (.command (fromPanel 1 2 0 0)) running
     (t.cmu.queue, t.slu.panelWindows[0])) = ([queued 1 2 0 0], [9]) := by decide +kernel

/-- R169: STOP in RUN halts the station and switches the fault output on. -/
theorem test_stop_halts :
    (let t := after (.stop []) running
     (t.sld.station, t.faultOutput)) = (.halt, true) := by decide +kernel

/-- R166: an empty memory halts the station with code 1, and without an address it stays silent. -/
theorem test_empty_memory_halts :
    (let s := { State.reset with sld := { State.reset.sld with reading := .running 0 } }
     let t := after (.configReadTimeout []) s
     (t.sld.station, t.sld.faultCode, t.hasFault .configFault 1, t.hou.statusPeriod)) =
      (.halt, 1, true, .stopped) := by decide +kernel

/-- R135: at address 5 a class-1 telegram waits for 24 + 8 · 5 = 64 bit times. -/
theorem test_access_gap :
    (let s := running.toPanel 0 (.commandResult 9 1 0 0)
     ((after (.transmitAttempt .a 63) s).slu.lineA.attempt.isSome,
       (after (.transmitAttempt .a 64) s).slu.lineA.attempt.isSome)) = (false, true) := by
  decide +kernel

/-- R97: a flash boundary presents the commanded aspect; signal 1 ahead is at DANGER, so CAUTION. -/
theorem test_flash_boundary_presents :
    (let s := after .setRoute (withCommand running (queued 1 2 0 0))
     (s.shown 0, (after .flashBoundary s).shown 0)) = (.danger, .caution) := by decide +kernel

/-- R12: the flash phase changes its half every 0.5 s, which is 2000 sampling intervals. -/
theorem test_flash_half_is_queued :
    (State.tick { running with ticks := 1999 }).pending = [.flashBoundary] := by decide +kernel

/-- R131: after 24 bit times of idle the bytes of a STATUS, ten bit times each, are collected up to
the idle after them; after 23 none is. The length field of `[3, 7, 8, 9, 10]` keeps four bytes. -/
theorem test_receiver_frames :
    (Receiver.reset.run
      [.idle 24, .byte 3, .byte 7, .idle 4, .byte 8, .byte 9, .byte 10, .idle 24]).2 =
        [[3, 7, 8, 9]] ∧
      (Receiver.reset.run [.idle 23, .byte 3, .byte 7, .byte 8, .idle 24]).2 = [] := by
  decide +kernel

/-- R131, R133: what a line carried stands in the queue as the row of its kind. -/
theorem test_line_brings_telegram :
    (let bytes := (Telegram.mk 6 5 9 0x1111 (.flankGrant 4)).bytes
     let frames := (Receiver.reset.run
       (.idle 24 :: (bytes.map LineSymbol.byte ++ [.idle 24]))).2
     (frames.length, frames.head? == some bytes)) = (1, true) := by decide +kernel

/-- R63: the settle timer is taken first, and the held move begins; the expiry of the old move timer
does not happen to the new one. -/
theorem test_expiry_of_old_move_does_not_happen :
    (let s := running.updPoint 6 fun c => { c with
       controller := .movingR, move := .running 0, settle := .running 0, held := some .normal }
     let t := after (.moveTimerExpiry 6) (after (.settleTimerExpiry 6) s)
     ((t.pcu.points[6]).controller, t.hasFault .pointTimeout 6)) = (.movingN, false) := by
  decide +kernel

/-! ## Witnesses: the hypotheses of each obligation are met -/

theorem witness_StepRunsTheCommandInFront :
    ({ running with pending := [.flashBoundary, .setRoute] }).pending =
      .flashBoundary :: [.setRoute] := rfl

theorem witness_EmptyQueueLetsTimePass : running.pending = [] := rfl

/-- A filter of three samples before and at the sample that changes it; an interval in which every
input is sampled, and one in which the sensor inputs alone are. -/
theorem witness_ClockSamplesTheInputs :
    (∀ history ∈ [[true], [true, true]],
      (((⟨3, history, false⟩ : FilterRec).sample true).2 = true ↔ history = [true, true])) ∧
    ({ running with ticks := 19 }).pending = [] ∧ (19 + 1) % 20 = 0 ∧
      ({ running with ticks := 20 }).pending = [] ∧ ¬(20 + 1) % 20 = 0 := by decide +kernel

/-- The end of a base step in RUN. -/
theorem witness_ClockBringsItsWorkAbout :
    ({ running with ticks := 399 }).pending = [] ∧ (399 + 1) % 400 = 0 ∧
      running.sld.station = .run := by decide +kernel

/-- The bytes of a telegram between idles of 24 bit times; a byte after a shorter idle. -/
theorem witness_LinesAreFramedIntoTelegrams :
    (let xs : List (Byte × Nat) := [(3, 0), (7, 23), (8, 0)]
     24 ≤ 24 ∧ xs ≠ [] ∧ (∀ x, x ∈ xs → x.2 < 24)) ∧
    (⟨23, none⟩ : Receiver).bytes = none ∧ (⟨23, none⟩ : Receiver).idle < 24 ∧
    telegramRow (.flankGrant (fromNeighbour (.flankGrant 4))) =
      some (kindFlankGrant, fromNeighbour (.flankGrant 4)) := by
  and_intros <;> first | rfl | decide +kernel

/-- A STATUS with every list at its maximum. -/
def fullStatus : StatusContent where
  station := 2
  faultCode := 0
  heads := List.replicate 8 ⟨2, 65535, 0, 1⟩
  sections := List.replicate 8 ⟨4, 4⟩
  signals := List.replicate 8 ⟨1, 0x83⟩
  portions := List.replicate 16 ⟨1, 5, 9, 2⟩
  grants := List.replicate 8 ⟨5, 9, 6, 0x80⟩
  offers := List.replicate 8 ⟨5, 9, 1, 255⟩

/-- The premise on the payload, at its boundary, and for a payload that it does not bound. -/
theorem witness_TelegramBytesReadBack :
    (fullStatus.heads.length ≤ 8 ∧ fullStatus.sections.length ≤ 8 ∧
      fullStatus.signals.length ≤ 8 ∧ fullStatus.portions.length ≤ 16 ∧
      fullStatus.grants.length ≤ 8 ∧ fullStatus.offers.length ≤ 8) ∧
    (match Payload.flankGrant 9 with
      | .status _ => False
      | .displayZero _ => False
      | .displayOne _ => False
      | .commandResult _ _ _ _ => False
      | _ => True) := by
  refine ⟨by decide +kernel, trivial⟩

/-- The window of the panel or of neighbour 0 filled with `n` numbers from 20 on. -/
def withWindow (src : Source) (n : Nat) (s : State) : State :=
  s.updWindow src fun _ => (List.range n).map fun k => byteOf (20 + k)

theorem witness_DiscardedTelegramHasNoOtherEffect :
    (let f := { fromPanel 1 2 0 0 with crc := 0 }
     telegramRow (.command f) = some (kindCommand, f) ∧ screened running kindCommand f = none) ∧
    (let f := frame 20 5 9 0x4321 (.command 1 2 0 0)
     telegramRow (.discardedTelegram kindCommand f) = some (kindCommand, f) ∧
       screened running kindCommand f = some (.panel 0, 0x1234, .command 1 2 0 0) ∧
       f.code ≠ 0x1234) ∧
    (let f := frame 6 5 27 0x1111 (.flankGrant 4)
     let s := withWindow (.neighbour 0) 8 running
     telegramRow (.flankGrant f) = some (kindFlankGrant, f) ∧
       screened s kindFlankGrant f = some (.neighbour 0, f.code, .flankGrant 4) ∧
       f.seq ∈ s.window (.neighbour 0)) := by decide +kernel

theorem witness_AcceptanceUpdatesWindowAndLine :
    (let s := withWindow (.neighbour 0) 7
       (running.updLine .b fun r => { r with health := .expired })
     let f := fromNeighbour (.flankGrant 4)
     Accepts s kindFlankGrant f (.neighbour 0) (.flankGrant 4) ∧
       (s.window (.neighbour 0)).length < 8 ∧ (s.line (otherLine f.line)).health = .expired ∧
       Source.panel 0 ≠ .neighbour 0) ∧
    (let s := withWindow (.panel 0) 8 running
     Accepts s kindCommand (fromPanel 1 2 0 0) (.panel 0) (.command 1 2 0 0) ∧
       (s.window (.panel 0)).length = 8) := by decide +kernel

/-! An image: the two sensors of a head, the two sections it bounds, a point and a signal with their
contacts, lamps and drives, and a panel, laid out as R172 says. -/

/-- The records of the thirteen tables. -/
def imageTables : List (List (List Nat)) :=
  [[[0, 6, 1, 3, 3], [0, 47, 2, 3, 137], [1, 10, 3, 2, 0], [1, 11, 4, 2, 1], [1, 12, 5, 1, 17],
      [1, 13, 6, 1, 129], [1, 79, 7, 1, 16]],
    [[0, 4, 1, 1, 1, 1], [0, 5, 2, 1, 0, 0], [0, 47, 3, 1, 1, 0], [1, 8, 4, 2, 0, 0],
      [1, 31, 5, 2, 1, 0]],
    [[3, 1]],
    [[6, 0, 255, 1, 3, 255, 0, 0, 0, 0, 0, 0], [7, 0, 255, 1, 3, 1, 0, 0, 0, 0, 0, 0]],
    [], [], [[2, 6, 1, 8]], [[1, 1]], [], [], [], [], [[20, 0x12, 0x34]]]

/-- A 2-byte number of the image. -/
def twoBytes (n : Nat) : List Nat := [n / 256, n % 256]

/-- The directory of the tables, the first table at an offset. -/
def directory : Nat → List (List (List Nat)) → List Nat
  | _, [] => []
  | offset, t :: rest =>
    twoBytes offset ++ [t.length] ++ directory (offset + (t.map List.length).sum) rest

/-- An image of tables before its CRC-32, for own address 5. -/
def bodyOf (tables : List (List (List Nat))) : List Byte :=
  let body := tables.flatten.flatten
  ([0x42, 0x34, 0x31, 0x36] ++ twoBytes (50 + body.length + 4) ++ [5] ++ twoBytes 0 ++
    twoBytes 0 ++ directory 50 tables ++ body).map byteOf

/-- The whole image of tables. -/
def imageOf (tables : List (List (List Nat))) : List Byte :=
  let c := crc32 (bodyOf tables)
  bodyOf tables ++
    [c.extractLsb' 0 8, c.extractLsb' 8 8, c.extractLsb' 16 8, c.extractLsb' 24 8]

def imageBody : List Byte := bodyOf imageTables
def image : List Byte := imageOf imageTables

/-- A list with its count and its slots. -/
def slotted (slots : Nat) (items : List Nat) : List Nat :=
  items.length :: items ++ List.replicate (slots - items.length) 0

/-- Route 0 from signal 1 to the signal that entry 0 of the boundary map names, over an approach
section, with flank entries and its three times. -/
def routeRecord (approach flank times : List Nat) : List Nat :=
  [0, 0, 1, 1, 0] ++ slotted 8 [6, 7] ++ [1, 2, 0] ++ List.replicate 14 0 ++ slotted 2 [] ++
    [0, 0, 0, 0, 0] ++ slotted 3 approach ++ slotted 6 flank ++ [0, 3] ++ times

/-- A zone with a neighbour: section 7 is a boundary section, route 0 leads over it to the
neighbour's portion 3, entry 1 of the flank table names a point of the neighbour and has entry 0 as
substitute, and portion 0 is hosted. The flank table and the route are given. -/
def borderTables (flank : List (List Nat)) (route : List Nat) : List (List (List Nat)) :=
  [[[0, 6, 1, 3, 3], [0, 47, 2, 3, 137], [1, 10, 3, 2, 0], [1, 11, 4, 2, 1], [1, 12, 5, 1, 17],
      [1, 13, 6, 1, 129], [1, 79, 7, 1, 16], [1, 1, 5, 2, 0], [1, 2, 6, 2, 0], [1, 3, 7, 2, 0]],
    [[0, 4, 1, 1, 1, 1], [0, 5, 2, 1, 0, 0], [0, 47, 3, 1, 1, 0], [0, 6, 1, 2, 0, 0],
      [0, 7, 2, 2, 0, 0], [0, 8, 3, 2, 0, 0], [1, 8, 4, 2, 0, 0], [1, 31, 5, 2, 1, 0]],
    [[3, 1]],
    [[6, 0, 255, 1, 3, 255, 0, 0, 0, 0, 0, 0], [7, 1, 4, 2, 3, 1, 128, 255, 0, 0, 0, 0]],
    [[0, 0, 9]], [[0, 0, 2, 9], [1, 0, 1, 5]], [[2, 6, 1, 3]], [[1, 1], [2, 0]], [route], flank,
    [[0, 0] ++ slotted 6 [7] ++ List.replicate 17 0 ++ slotted 2 [6] ++ List.replicate 5 0 ++
      slotted 6 [0] ++ [1]],
    [[0, 6, 0x11, 0x11, 0, 0, 0]], [[20, 0x12, 0x34]]]

/-- The flank table of that zone. -/
def borderFlank : List (List Nat) := [[0, 2, 2, 255, 1, 0], [1, 129, 1, 0, 0, 0]]

/-- That zone, with the times of its route at the lower ends of their ranges. -/
def border : List (List (List Nat)) := borderTables borderFlank (routeRecord [] [1] [5, 10, 5])

set_option maxRecDepth 8192 in
/-- The zone passes every check of R170; its magic value changed, a section twice in its route, a
detection role missing and a move limit of 2 s give the codes of their checks. -/
theorem test_border_images_pass_or_have_their_code :
    imageFault (imageOf border) = none ∧
    imageFault ((imageOf border).set 0 0x43) = some .header ∧
    imageFault (imageOf (borderTables borderFlank (routeRecord [6] [1] [5, 10, 5]))) =
      some .reference ∧
    imageFault (imageOf (border.set 0 (border.headD []).tail)) = some .binding ∧
    imageFault (imageOf (border.set 6 [[2, 6, 1, 2]])) = some .safetyTime := by decide +kernel

/-- An image of one table. -/
def only (t : Nat) (records : List (List Nat)) : RawImage :=
  rawImage (bodyOf ((List.replicate 13 []).set t records))

/-- What each check from the fourth on refuses: three panels, and none; a track section that is not
configured; safe state ON of a yellow lamp; a chain of four entries, and one that returns on itself;
two map entries of one signal; two entries of one remote head. Times at the ends of their ranges
pass, and times one beyond them fail. -/
theorem test_each_check_refuses_what_its_rules_name :
    checkCount (only 12 [[20, 1, 1], [21, 1, 1], [22, 1, 1]]) = false ∧
    checkCount (only 12 []) = false ∧ checkCount (only 12 [[20, 1, 1], [21, 1, 1]]) = true ∧
    checkElements (only 6 [[2, 6, 1, 8]]) = false ∧
    checkSafeState (only 1 [[0, 5, 2, 1, 0, 1]]) = false ∧
    checkSafeState (only 1 [[0, 5, 1, 1, 0, 1]]) = true ∧
    (let chain := fun (last : Nat) => only 9 [[0, 0, 2, 1, 0, 0], [1, 0, 3, 2, 0, 0],
       [2, 0, 4, last, 0, 0], [3, 0, 5, 255, 0, 0]]
     checkFlankChain (chain 3) = false ∧ checkFlankChain (chain 1) = false ∧
       checkFlankChain (chain 255) = true) ∧
    checkBoundaryMap (only 5 [[0, 0, 2, 9], [2, 0, 2, 9]]) = false ∧
    checkBoundaryMap (only 5 [[0, 0, 2, 9], [2, 1, 2, 9]]) = true ∧
    (checkRemoteHeads { only 4 [[0, 0, 9], [1, 0, 9]] with neighbours := [rawNeighbour []] } =
      false ∧
     checkRemoteHeads { only 4 [[0, 0, 9], [1, 0, 8]] with neighbours := [rawNeighbour []] } =
      true) ∧
    (∀ v ∈ [0, 3, 15], checkSafetyTimes (only 6 [[2, 6, 1, v]]) = true) ∧
    (∀ v ∈ [2, 16], checkSafetyTimes (only 6 [[2, 6, 1, v]]) = false) ∧
    (∀ v ∈ [[5, 10, 5], [60, 240, 120], [0, 10, 0]],
      checkSafetyTimes (only 8 [routeRecord [] [] v]) = true) ∧
    ∀ v ∈ [[4, 10, 5], [61, 10, 5], [5, 9, 5], [5, 0, 5], [5, 241, 5], [5, 10, 4], [5, 10, 121]],
      checkSafetyTimes (only 8 [routeRecord [] [] v]) = false := by decide +kernel

set_option maxRecDepth 8192 in
/-- An image, with inputs and outputs that it lists and that it does not list; a CRC-32 that does
not agree, in an image whose header gives an address; no image at all, and the reading limit at its
end. Images that every other check refuses are in the tests before. -/
theorem witness_ImageChecksDecideQuietOrHalt :
    (let i := rawImage (image.take (imageLength image))
     (⟨0, 47, 2, 3, true, 9⟩ ∈ i.inputs ∧ ⟨1, 10, 3, 2, false, 0⟩ ∈ i.inputs ∧
       ⟨1, 79, 7, 1, false, 16⟩ ∈ i.inputs) ∧
     (∀ r ∈ i.inputs, (r.cls = 0 → r.number ≠ 8) ∧ (r.cls = 1 → r.number ≠ 47)) ∧
     (⟨0, 4, 1, 1, 1, 1⟩ ∈ i.outputs ∧ ⟨1, 31, 5, 2, 1, 0⟩ ∈ i.outputs) ∧
     ∀ r ∈ i.outputs, (r.cls = 0 → r.number ≠ 8) ∧ (r.cls = 1 → r.number ≠ 5)) ∧
    State.reset.sld.station = .config ∧ imageFault image = none ∧
      imageFault (imageBody ++ [0, 0, 0, 0]) = some .crc ∧
      headerAddress (imageBody ++ [0, 0, 0, 0]) = some 5 ∧ imageFault [] = some .read ∧
      headerAddress [] = none ∧ (Timer.running 0).due = true := by decide +kernel

/-- A flank entry that names the exit signal of a route under another entry of the boundary map than
the route does: the route's exit all the same (R118, check 8). -/
theorem test_exit_signal_named_by_another_entry_fails_check_eight :
    (let i : RawImage := { rawImage [] with
       boundary := [⟨4, 0, 2, 9⟩, ⟨5, 0, 2, 9⟩, ⟨6, 0, 2, 8⟩]
       routes := [{ rawRoute [] with exitKind := 1, exitNumber := 4, flank := ⟨1, [20]⟩ }] }
     checkFlankChain { i with flank := [⟨20, 2, true, 5, 255, 0⟩] } = false ∧
       checkFlankChain { i with flank := [⟨20, 2, true, 6, 255, 0⟩] } = true) := by decide +kernel

theorem witness_QuietTimerExpiryEntersRun :
    (let s : State := { station .quiet with
       sld := { (station .quiet).sld with quiet := .running 0 } }
     s.sld.station = .quiet ∧ s.sld.quiet.due = true ∧ s.sld.ownAddress ≠ none ∧
       { s with sld := { s.sld with ownAddress := none } }.sld.ownAddress = none) := by
  decide +kernel

theorem witness_StopHaltsTheStation :
    State.reset.sld.station = .config ∧ (station .halt).sld.station = .halt ∧
      (station .quiet).sld.station = .quiet ∧
      (let s := withCommand running (queued 1 2 0 0)
       s.sld.station = .run ∧ (∀ c ∈ s.cmu.queue, (s.config.panels[c.panel]).isSome = true) ∧
         s.cmu.queue.length ≤ 16 ∧ s.cmu.queue ≠ []) := by decide +kernel

/-- The station with head 0 in a phase, the totals at their last value. -/
def headIn (p : Phase) : State :=
  running.updHead 0 fun r => { r with phase := p, forward := 65535, backward := 65535 }

theorem witness_PassageTableMovesHeadAndSections :
    ((headIn .idle).config.heads[0]).isSome = true ∧
      (((headIn .aBoth).acu.heads[0]).phase = .aBoth ∧
        (Phase.aBoth, false, true, Phase.aLeaving) ∈
          ([(.idle, true, false, .aFirst), (.idle, false, true, .bFirst),
          (.aFirst, true, true, .aBoth), (.aBoth, false, true, .aLeaving),
          (.bFirst, true, true, .bBoth), (.bBoth, true, false, .bLeaving),
          (.aFirst, false, false, .idle), (.aBoth, true, false, .aFirst),
          (.aLeaving, true, true, .aBoth), (.bFirst, false, false, .idle),
          (.bBoth, false, true, .bFirst), (.bLeaving, true, true, .bBoth)] :
            List (Phase × Bool × Bool × Phase))) ∧
      ((headIn .aLeaving).acu.heads[0]).phase = .aLeaving ∧
      ((headIn .bLeaving).acu.heads[0]).phase = .bLeaving := by decide +kernel

theorem witness_SequenceErrorFaultsTheHeadUntilItRests :
    (((headIn .aFirst).config.heads[0]).isSome = true ∧
      ((headIn .aFirst).acu.heads[0]).phase.pair = some (true, false) ∧ false ≠ true ∧
      true ≠ false) ∧
    (let s := (headIn .faulted).updHead 0 fun r => { r with rest := .running 0 }
     (s.acu.heads[0]).phase = .faulted ∧ (s.config.heads[0]).isSome = true ∧
       (s.acu.heads[0]).rest.due = true) := by decide +kernel

/-- Beyond both ends of the count, and between them: at 0, at 1 and at 999. -/
theorem witness_SignedChangeFollowsTheSectionTable :
    (-1 : Int) ≠ 0 ∧ ((0 : Nat) : Int) + (-1) < 0 ∧ (999 : Int) < ((999 : Nat) : Int) + 1 ∧
      (((1 : Nat) : Int) + (-1) = 0) ∧ (1 ≤ ((0 : Nat) : Int) + 1) ∧
      (((998 : Nat) : Int) + 1 ≤ 999) ∧
      (⟨1, .sweeping, false, false⟩ : SectionRec).state = .sweeping ∧
      (⟨0, .prepared, false, false⟩ : SectionRec).state = .prepared := by decide

/-- From NORMAL to each other position, the point at rest and in a move. -/
theorem witness_DetectionChangeIsSupervised :
    (∀ new ∈ [Detected.reverse, .none, .both], ∃ n r : Bool,
      (running.config.points[6]).isSome = true ∧ (running.pcu.points[6]).detected = .normal ∧
        Detected.of n r = new ∧ new ≠ .normal) ∧
    (let s := running.updPoint 6 fun c => { c with controller := .movingR }
     (s.pcu.points[6]).controller.target = some .reverse ∧ (s.pcu.points[6]).detected = .normal ∧
       Detected.of false true = detectedAt .reverse) ∧
    (running.pcu.points[6]).controller = .rest := by decide +kernel

/-- Point 6 in a move to REVERSE with both timers at their end, and a held target. -/
def moving (held : Option Position) : State :=
  running.updPoint 6 fun c => { c with
    controller := .moving .reverse, move := .running 0, settle := .running 0, held := held }

theorem witness_TimersEndTheMoveOfAPoint :
    ((moving none).pcu.points[6]).settle.due = true ∧
      ((moving none).pcu.points[6]).controller = .moving .reverse ∧
      ((moving none).pcu.points[6]).held = none ∧
      ((moving (some .normal)).pcu.points[6]).settle.due = true ∧
      ((moving (some .normal)).pcu.points[6]).controller = .moving .reverse ∧
      ((moving (some .normal)).pcu.points[6]).held = some Position.reverse.other ∧
      ((moving none).pcu.points[6]).move.due = true ∧ (moving none).FaultsOrdered := by
  and_intros
  all_goals first
    | decide +kernel
    | (unfold State.FaultsOrdered; decide +kernel)

/-- The proving input of the green lamp of signal 0 at contact 3. -/
def proved : State :=
  { running with fsu := { running.fsu with
    contacts := upd running.fsu.contacts 3 fun r => { r with role := .prove 0 .green } } }

theorem witness_ProvingEdgeIsTakenByTheLamp :
    proved.LampTimersFollow ∧ (∃ i : Fin 80, (proved.fsu.contacts[i]).role = .prove 0 .green) ∧
      ((1, .red) : Fin 16 × Lamp) ≠ (0, .green) := by
  refine ⟨?_, ⟨3, by decide +kernel⟩, by decide⟩
  intro g l
  cases l <;> revert g <;> decide +kernel

theorem witness_LampTimerExpiriesMarkAndClearTheLamp :
    (let s := running.updSignal 0 fun r => r.updLamp .red fun m => { m with
       failureTimer := .running 0, strayTimer := .running 0, strayClearTimer := .running 0 }
     (s.lampRec 0 .red).failureTimer.due = true ∧ s.lit 0 .red = false ∧
       (s.lampRec 0 .red).strayTimer.due = true ∧
       (s.lampRec 0 .red).strayClearTimer.due = true) := by decide +kernel

/-- Route 2 in a state of its own, with what it holds and the status of its path sections. -/
def routeAs (state : RouteState) (status : PathStatus) : State :=
  let l := running.lku
  { running with lku := { l with
    sections := upd (upd (upd l.sections 8 fun _ => ⟨some ⟨.route 2, .path⟩, false⟩) 11 fun _ =>
      ⟨some ⟨.route 2, .path⟩, false⟩) 9 fun _ => ⟨some ⟨.route 2, .overlap⟩, false⟩
    points := upd l.points 6 fun _ => ⟨some ⟨.route 2, .path⟩, 0, 0, false⟩
    signals := upd l.signals 0 fun _ => ⟨some ⟨.route 2, .entry⟩, 0, false⟩
    routes := upd l.routes 2 fun r => { r with
      state := state, hold := ⟨Vector.replicate 8 status, .held, []⟩ } } }

/-- Route 2 before a train. -/
abbrev routeIn (state : RouteState) : State := routeAs state .locked

/-- A train on section 8, its notice not yet taken. -/
def entered (state : RouteState) : State := (routeIn state).updSection 8 (SectionRec.change 1)

/-- Portion 1 for neighbour 0 in a state, with its sections, both with a notice to take; a train is
on section 16. -/
def hosting (state : PortionState) (overlap : OverlapState) : State :=
  let s := running.updPortion 1 fun r => { r with
    state := state
    requester := some (0, 77)
    hold := ⟨Vector.replicate 8 .seenOccupied, overlap, []⟩ }
  let s := s.updSectionLock 16 fun _ => ⟨some ⟨.portion 1, .path⟩, false⟩
  let s := s.updSectionLock 12 fun _ => ⟨some ⟨.portion 1, .overlap⟩, false⟩
  (s.updSection 16 fun _ => ⟨0, .clear, true, true⟩).updSection 12 fun _ => ⟨0, .clear, false, true⟩

theorem witness_SectionNoticeFollowsItsHolder :
    (let s := running.updSection 8 (SectionRec.change 1)
     s.sld.station = .run ∧ (s.config.sections[8]).isSome = true ∧
       (s.acu.sections[8]).chg = true ∧ (s.lku.sections[8]).holder = none) ∧
    (∀ state ∈ [RouteState.locked, .approachHeld, .setting, .idle],
      let s := entered state
      s.sld.station = .run ∧ (s.config.sections[8]).isSome = true ∧
        (s.acu.sections[8]).chg = true ∧ (s.lku.sections[8]).holder = some ⟨.route 2, .path⟩ ∧
        s.config.routes[2] = some route ∧ (s.lku.routes[2]).state = state ∧
        (s.acu.sections[8]).occ = true ∧ (pathOf s.config (.route 2)).head? = some 8 ∧
        (s.asu.signals[0]).presented = .danger) ∧
    (let s := (routeIn .locked).updSection 11 (SectionRec.change 1)
     (s.acu.sections[11]).chg = true ∧ (s.lku.sections[11]).holder = some ⟨.route 2, .path⟩ ∧
       (pathOf s.config (.route 2)).head? ≠ some 11 ∧ (s.lku.routes[2]).state = .locked) ∧
    (let s := (routeIn .overlapHeld).updSection 9 fun x => { x with occ := true, chg := true }
     (s.acu.sections[9]).chg = true ∧ (s.lku.sections[9]).holder = some ⟨.route 2, .overlap⟩ ∧
       (s.lku.routes[2]).pool = .none ∧ overlapOf s.config (.route 2) = [9] ∧
       (s.acu.sections[9]).state = .clear ∧
       ((s.updSection 9 (SectionRec.change 1)).acu.sections[9]).state ≠ .clear) ∧
    (∀ state ∈ [PortionState.setting, .proven, .overlapHeld, .idle],
      let s := hosting state .none
      s.sld.station = .run ∧ (s.config.sections[16]).isSome = true ∧
        (s.acu.sections[16]).chg = true ∧ (s.acu.sections[16]).occ = true ∧
        (s.lku.sections[16]).holder = some ⟨.portion 1, .path⟩ ∧
        (s.hou.portions[1]).state = state ∧ (pathOf s.config (.portion 1)).head? = some 16) ∧
    (let s := hosting .overlapHeld .held
     (s.acu.sections[12]).chg = true ∧ (s.lku.sections[12]).holder = some ⟨.portion 1, .overlap⟩ ∧
       (pathOf s.config (.portion 1)).head? ≠ some 12 ∧ overlapOf s.config (.portion 1) = [12] ∧
       (s.acu.sections[12]).state = .clear) := by and_intros <;> decide +kernel

/-- Route 2 IN_USE, the train seen on both its sections and now on section 11 alone. -/
def trainAhead : State :=
  { routeAs .inUse .seenOccupied with acu := { running.acu with
    sections := upd (upd running.acu.sections 8 fun x => { x with chg := true }) 11 fun x =>
      { x with count := 1, state := .occupied } } }

/-- The same train gone from both sections. -/
def trainGone : State :=
  { trainAhead with acu := { trainAhead.acu with
    sections := upd trainAhead.acu.sections 11 fun _ => ⟨0, .clear, false, true⟩ } }

/-- A notice on the way of a train, at which section 8 goes and 11 stays; the last notice, by which
the path of the route and of the portion ends. -/
theorem witness_TrainIsFollowedThroughThePath :
    (∀ s ∈ [trainAhead, trainGone], s.sld.station = .run ∧ (s.config.sections[8]).isSome = true ∧
      (s.acu.sections[8]).chg = true ∧ (s.lku.sections[8]).holder = some ⟨.route 2, .path⟩ ∧
      (pathOf s.config (.route 2)).length ≤ 8 ∧ (s.lku.routes[2]).state = .inUse ∧
      (s.config.routes[2]).isSome = true ∧ (s.lku.routes[2]).hold.overlap = .held ∧
      overlapTime s.config 2 ≠ 0) ∧
    (after (.sectionNotice 8) trainAhead).lku.sections[11].holder = some ⟨.route 2, .path⟩ ∧
    (after (.sectionNotice 8) trainGone).lku.sections[11].holder = none ∧
    (let s := hosting .inUse .held
     (s.acu.sections[16]).chg = true ∧ (s.lku.sections[16]).holder = some ⟨.portion 1, .path⟩ ∧
       (pathOf s.config (.portion 1)).length ≤ 8 ∧ (s.hou.portions[1]).state = .inUse ∧
       (after (.sectionNotice 16) s).hou.portions[1].state = .idle) := by
  and_intros <;> decide +kernel

/-- The notice of section 8 then frees it (R105). -/
theorem witness_NoticeFreesAPathSectionOnlyWhenClear :
    exec (.sectionNotice 8) trainAhead = .next (after (.sectionNotice 8) trainAhead) ∧
      (trainAhead.lku.sections[8]).holder = some ⟨.route 2, .path⟩ ∧
      ((after (.sectionNotice 8) trainAhead).lku.sections[8]).holder = none :=
  ⟨next_after _ _ (by decide +kernel), by decide +kernel⟩

/-- A hosted grant of flank entry 20 to neighbour 0. -/
def grantOf20 : Grant := ⟨0, 77, 20, 20, true, false⟩

theorem witness_PointNoticeMakesTheTests :
    (let s := ((routeIn .setting).updPoint 6 fun c => { c with chg := true }).updGrant 0 fun _ =>
       some grantOf20
     s.config.routes[2] = some route ∧ s.config.portions[1] = some portion ∧
       s.sld.station = .run ∧ (s.config.points[6]).isSome = true ∧ (s.pcu.points[6]).chg = true ∧
       (s.lku.routes[2]).state = .setting ∧
       ((s.ownPoints (.route 2)).any fun q => q.1 == 6) = true ∧ s.complete 2 = true ∧
       elementOf s.config grantOf20.used = some (.point 6 .normal)) ∧
    (let s := ((hosting .setting .held).updPortion 1 fun r => { r with
       hold := { r.hold with flank := [⟨20, none⟩] } }).updPoint 6 fun c => { c with chg := true }
     ((s.ownPoints (.portion 1)).any fun q => q.1 == 6) = true ∧
       (s.hou.portions[1]).state = .setting) := by
  decide +kernel

/-- Every pool timer taken but those from `n` on; timer 0 is that of route 2, and routes wait. -/
def pooled (state : RouteState) (n : Nat) (queue : List (Fin 64)) : State :=
  { routeIn state with rtp :=
    { timers := Vector.ofFn fun k => if k.val = 0 then some ⟨2, .running 0⟩
        else if k.val < n then some ⟨60, .running 9⟩ else none
      queue := queue } }

/-- The neighbour heard. -/
def heard (s : State) : State :=
  s.updNeighbour 0 fun r => { r with state := .alive, silence := .start 15 }

/-- An offer of neighbour 0 at record 0: portion 3 or flank element 4. -/
def offerAs (kind : OfferKind) (state : OfferState) (resends : Nat) : Offer :=
  ⟨77, kind, 0, 3, 0, 2, state, resends, .running 0⟩

/-- A SENT offer of route 2 in SETTING to the neighbour, and its reference. -/
def offeringRoute (policy : ReplyPolicy) (o : Offer) : State :=
  ((heard { routeIn .setting with config := zone policy }).updOffer 0 fun _ => some o).updRoute 2
    fun r => { r with offers := [0] }

/-- The offer, in SENT, is the only reference of a route. -/
theorem offeringRoute_offers :
    ∀ r : Fin 64, ((offeringRoute .wait (offerAs .portion .sent 0)).lku.routes[r]).offers =
      if r = 2 then [0] else [] := by decide +kernel

theorem offeringRoute_owned (policy : ReplyPolicy) (o : Offer) (h : o.route = 2) :
    (offeringRoute policy o).OffersOwned := by
  intro r k hk
  have e : (offeringRoute policy o).lku =
      (offeringRoute .wait (offerAs .portion .sent 0)).lku := rfl
  have f : (offeringRoute policy o).hou.offers[(0 : Fin 8)] = some o := rfl
  rw [e, offeringRoute_offers] at hk
  by_cases hr : r = 2
  · rw [if_pos hr, List.mem_singleton] at hk
    subst hk
    exact ⟨o, f, h.trans hr.symm⟩
  · simp [hr] at hk

/-- Route 2 with a claim of entry 20 in its held-flank set, one in the lock table, and the offer of
its portion; with no pool reference, a queue place, and timer 0 while route 61 waits. -/
theorem witness_SettingExpiryReleasesItsClaimsAndOffers :
    (let s := (offeringRoute .block (offerAs .portion .sent 0)).updRoute 2 fun r => { r with
       setting := .running 0, hold := { r.hold with flank := [⟨20, none⟩] } }
     let s := s.updPointLock 6 fun l => { l with claimsN := 1 }
     (s.lku.routes[2]).state = .setting ∧ (s.lku.routes[2]).setting.due = true ∧
       NamesElement s.config (s.lku.routes[2]).hold.entries (.point 6 .normal) ∧
       ((after (.settingTimerExpiry 2) s).lku.points[6]).claimsN = 0 ∧
       (after (.settingTimerExpiry 2) s).slu.classOne.map (·.telegram.payload) =
         [.portionRelease 3 77]) ∧
    ∀ pool ∈ [PoolRef.none, .queued, .timer 0],
      let s := (pooled .setting 16 [61]).updRoute 2 fun r => { r with
        setting := .running 0, pool := pool }
      (s.lku.routes[2]).state = .setting ∧ (s.lku.routes[2]).setting.due = true ∧
        (s.lku.routes[2]).pool = pool ∧ s.rtp.queue = 61 :: [] ∧ (61 : Fin 64) ≠ 2 := by
  and_intros <;> decide +kernel

theorem witness_SettingExpiryReleasesTheRoute :
    (let s := (routeIn .setting).updRoute 2 fun r => { r with setting := .running 0 }
     (s.lku.routes[2]).state = .setting ∧ (s.lku.routes[2]).setting.due = true ∧
       s.config.routes[2] = some route ∧
       ∀ q : Fin 64, q ≠ 2 → (s.lku.routes[q]).state = .idle) := by
  decide +kernel

theorem witness_PoolGrantsLowestFreeTimerAndServesTheQueue :
    (running.config.routes[2] = some route ∧ running.rtp.timers[0] = none ∧
      (∀ j : Fin 16, j < 0 → running.rtp.timers[j] ≠ none)) ∧
    (let s := pooled .overlapHeld 15 []
     s.rtp.timers[15] = none ∧ (∀ j : Fin 16, j < 15 → s.rtp.timers[j] ≠ none)) ∧
    (∀ k : Fin 16, (pooled .approachHeld 16 []).rtp.timers[k] ≠ none) ∧
    (let s := pooled .approachHeld 16 [61]
     s.rtp.timers[0] = some ⟨2, .running 0⟩ ∧ (Timer.running 0).due = true ∧
       (2 : Fin 64) ∉ s.rtp.queue ∧
       (s.lku.routes[2]).state = .approachHeld ∧ s.rtp.queue = 61 :: []) ∧
    (let s := pooled .overlapHeld 16 []
     s.rtp.timers[0] = some ⟨2, .running 0⟩ ∧ (s.lku.routes[2]).state = .overlapHeld ∧
       s.rtp.queue = [] ∧ overlapOf s.config (.route 2) = [9] ∧
       ((s.acu.sections[9]).state = .clear ∧ (s.acu.sections[9]).occ = false)) ∧
    (let s := (pooled .overlapHeld 16 []).updSection 9 fun r => { r with occ := true }
     9 ∈ overlapOf s.config (.route 2) ∧
       ¬((s.acu.sections[9]).state = .clear ∧ (s.acu.sections[9]).occ = false)) := by
  decide +kernel

/-- Route 2 in APPROACH_HELD at the expiry of its timer, with a claim of entry 20 in its held-flank
set, one in the lock table, and the offer of its portion: claim and offer are given back. -/
theorem witness_PoolExpiryReleasesClaimsAndOffers :
    (let s := (offeringRoute .block (offerAs .portion .sent 0)).updRoute 2 fun r => { r with
       state := .approachHeld, pool := .timer 0, hold := { r.hold with flank := [⟨20, none⟩] } }
     let s := (s.updPointLock 6 fun l => { l with claimsN := 1 }).updPoolTimer 0
       (some ⟨2, .running 0⟩)
     s.rtp.timers[0] = some ⟨2, .running 0⟩ ∧ (Timer.running 0).due = true ∧
       (2 : Fin 64) ∉ s.rtp.queue ∧ (s.lku.routes[2]).state = .approachHeld ∧
       NamesElement s.config (s.lku.routes[2]).hold.entries (.point 6 .normal) ∧
       ((after (.poolTimerExpiry 0) s).lku.points[6]).claimsN = 0 ∧
       (after (.poolTimerExpiry 0) s).slu.classOne.map (·.telegram.payload) =
         [.portionRelease 3 77]) := by decide +kernel

/-! ### Panel commands -/

/-- A station with `n` commands in its queue. -/
def queueOf (n : Nat) (s : State) : State :=
  { s with cmu := { s.cmu with queue := List.replicate n (queued 1 2 0 0) } }

theorem witness_CommandArrivalFollowsTheStationState :
    ∀ s ∈ [queueOf 7 running, queueOf 8 running, station .halt, station .quiet],
      Accepts s kindCommand (fromPanel 1 2 0 0) (.panel 0) (.command 1 2 0 0) ∧
        ((s.sld.station = .run ∧ s.cmu.queue.length < 8) ∨
          (s.sld.station = .run ∧ s.cmu.queue.length = 8) ∨ s.sld.station = .halt ∨
          s.sld.station = .quiet) := by decide +kernel

/-- A point's lock and record with a command in the queue. -/
def pointAs (lock : PointLock) (point : PointRec) (c : QueuedCommand) : State :=
  withCommand ((running.updPointLock 6 fun _ => lock).updPoint 6 fun _ => point) c

/-- A point at rest at NORMAL. -/
def resting : PointRec := ⟨.normal, .rest, none, .stopped, .stopped, false⟩

/-- Route 2 with its entry signal held, blocked or held at danger; with a path section held or
blocked, its point claimed for the other position or off its own with an occupied track, its overlap
blocked. -/
theorem witness_SettingChecksRefuseInOrder :
    (let c := queued 1 2 0 0
     let entry := fun (l : SignalLock) => withCommand (running.updSignalLock 0 fun _ => l) c
     let part := fun (k : Fin 32) (l : SectionLock) =>
       withCommand (running.updSectionLock k fun _ => l) c
     let point := fun (l : PointLock) (x : PointRec) => pointAs l x c
     (∀ s ∈ [withCommand (routeIn .locked) c, entry ⟨some ⟨.portion 1, .entry⟩, 1, true⟩,
         entry ⟨none, 1, true⟩, entry ⟨none, 1, false⟩, part 8 ⟨some ⟨.portion 1, .path⟩, true⟩,
         part 11 ⟨none, true⟩, part 9 ⟨none, true⟩, point ⟨none, 0, 1, true⟩ resting,
         point ⟨none, 0, 0, true⟩ { resting with detected := .reverse }],
       Takes s cmdSetRoute c [] ∧ configured s.config.routes c.arg1 = some (2, route)) ∧
     ((withCommand (routeIn .locked) c).lku.routes[2]).state ≠ .idle ∧
     ((entry ⟨none, 1, true⟩).lku.routes[2]).state = .idle ∧
     (∀ k ∈ [8, 11, 9], ((part 8 ⟨none, false⟩).lku.sections[(k : Fin 32)]).holder = none) ∧
     (running.pcu.points[6]).detected = detectedAt .normal ∧
     ((part 9 ⟨none, true⟩).lku.points[6]).holder = none) := by decide +kernel

/-- Route 4 with its neighbour silent, ALIVE and BLOCKED, ALIVE; its flank search by the remote
point; no offer record free. -/
theorem witness_SettingChecksReachTheNeighbour :
    (let c := queued 1 4 0 0
     let s := withCommand (heard running) c
     Takes s cmdSetRoute c [] ∧ configured s.config.routes c.arg1 = some (4, beyond) ∧
       beyond.request = some (0, 3) ∧ (running.hou.neighbours[0]).state ≠ .alive ∧
       (s.hou.neighbours[0]).state = .alive ∧ (s.hou.neighbours[0]).blocked = false ∧
       s.flankSearch beyond.plan.flank = some [22] ∧ s.freeRecords = 8 ∧
       remoteCount s.config beyond [22] = 2 ∧
       (withCommand running c).flankSearch beyond.plan.flank = some [20] ∧
       ((withCommand running c).updPointLock 6 fun l => { l with claimsR := 1 }).flankSearch
         beyond.plan.flank = none) := by decide +kernel

/-- A chosen list, the head of its chain passed over; a chain of three entries; and each kind of
element claimable. -/
theorem witness_FlankSearchChoosesTheFirstClaimable :
    running.config.flank[22] = some ⟨.remotePoint 0 .normal, some 20, false⟩ ∧
      chainOf running.config 22 = [22, 20] ∧
      (let back : FlankCfg := ⟨.remotePoint 0 .normal, some 22, false⟩
       let cfg := { running.config with flank := running.config.flank.set 20 (some back) }
       chainOf cfg 22 = [22, 20, 22]) ∧
      running.flankSearch [22, 20] = some [20, 20] ∧
      (heard running).flankSearch [22, 20] = some [22, 20] ∧
      running.claimable [] (.signal 1) = true ∧
      (heard running).claimable [] (.remotePoint 0 .normal) = true ∧
      running.claimable [] (.remotePoint 0 .normal) = false := by decide +kernel

theorem witness_SetRouteTakesAllOrNothing :
    (let c := queued 1 64 0 0
     Takes (withCommand running c) cmdSetRoute c [] ∧
       configured (zone .block).routes c.arg1 = none) ∧
    (let c := queued 1 2 0 0
     let s := withCommand (running.updSectionLock 8 fun l => { l with blocked := true }) c
     Takes s cmdSetRoute c [] ∧ configured s.config.routes c.arg1 = some (2, route) ∧
       (s.taken []).checkRoute 2 route = .error .blocked) ∧
    (let c := queued 1 2 0 0
     let s := withCommand running c
     Takes s cmdSetRoute c [] ∧ configured s.config.routes c.arg1 = some (2, route) ∧
       (s.taken []).checkRoute 2 route = .ok [] ∧
       8 ∈ route.plan.path ∧ 8 ∉ route.plan.overlap ∧ 9 ∈ route.plan.overlap) ∧
    (let s := withCommand running (queued 1 2 0 0)
     (after .setRoute s).lku.routes[2].state = .locked) ∧
    (let s := withCommand (running.updPoint 6 fun c => { c with detected := .reverse })
       (queued 1 2 0 0)
     (s.taken []).checkRoute 2 route = .ok [] ∧
       (after .setRoute s).lku.routes[2].state = .setting ∧
       (after .setRoute s).pcu.points[6].controller = .movingN) := by
  and_intros <;> decide +kernel

/-- Route 4: its portion asked for under the next id that no record holds, its remote point under
the one after; the last id given out was 254 and record 0 holds 255. -/
theorem witness_SetRouteMakesItsOffers :
    (let c := queued 1 4 0 0
     let s := withCommand (heard running) c
     let s := { s with hou := { s.hou with lastId := 254 } }
     let s := s.updOffer 0 fun _ => some ⟨255, .flank, 1, 4, 0, 60, .sent, 0, .running 9⟩
     Takes s cmdSetRoute c [] ∧ configured s.config.routes c.arg1 = some (4, beyond) ∧
       (s.taken []).checkRoute 4 beyond = .ok [22] ∧
       elementOf s.config 22 = some (.remotePoint 0 .normal) ∧
       s.config.boundary[0] = some ⟨0, .point, 4⟩ ∧
       (let t := after .setRoute s
        (t.lku.routes[4]).state = .setting ∧ (t.lku.routes[4]).offers = [1, 2] ∧
          t.hou.offers[1] = some ⟨0, .portion, 0, 3, 0, 4, .sent, 0, .start 10⟩ ∧
          t.hou.offers[2] = some ⟨1, .flank, 0, 4, 0, 4, .sent, 0, .start 10⟩ ∧
          (t.lku.routes[4]).hold.flank = [⟨22, some 2⟩] ∧ t.hou.lastId = 1 ∧
          t.slu.classOne.map (fun i => (i.telegram.payload, i.telegram.dest)) =
            [(.portionRequest 3 0, 6), (.flankRequest 1 0 4, 6), (.commandResult 9 1 0 0, 20)])) :=
  by and_intros <;> decide +kernel

/-- Route 4 takes the overlap of route 2, in IN_USE, and in OVERLAP_HELD without a timer, with timer
0, and with a place in the queue. -/
theorem witness_TakeoverDispossessesThePredecessors :
    (∀ s ∈ [routeIn .inUse, routeIn .overlapHeld,
        (pooled .overlapHeld 16 [61]).updRoute 2 fun r => { r with pool := .timer 0 },
        (pooled .overlapHeld 16 [2]).updRoute 2 fun r => { r with pool := .queued }],
      let c := queued 1 4 0 0
      let s := withCommand (heard s) c
      Takes s cmdSetRoute c [] ∧ configured s.config.routes c.arg1 = some (4, beyond) ∧
        (s.taken []).checkRoute 4 beyond = .ok [22] ∧ 9 ∈ beyond.plan.path ∧
        (s.lku.sections[9]).holder = some ⟨.route 2, .overlap⟩ ∧
        (planOf s.config (.route 2)).map (·.exit) = some (.localSignal beyond.entry)) ∧
    (let s := heard (hosting .inUse .held)
     12 ∈ beyond.plan.path ∧ (s.lku.sections[12]).holder = some ⟨.portion 1, .overlap⟩ ∧
       (planOf s.config (.portion 1)).map (·.exit) = some (.localSignal beyond.entry)) := by
  and_intros <;> decide +kernel

theorem witness_CancelRouteFollowsTheRouteState :
    (let c := queued 2 64 0 0
     Takes (withCommand running c) cmdCancelRoute c [] ∧
       configured (zone .block).routes c.arg1 = none) ∧
    (∀ state ∈ [RouteState.idle, .setting, .locked, .inUse, .approachHeld, .overlapHeld],
      let c := queued 2 2 0 0
      let s := withCommand (routeIn state) c
      Takes s cmdCancelRoute c [] ∧ configured s.config.routes c.arg1 = some (2, route) ∧
        (s.lku.routes[2]).state = state ∧
        ∀ k ∈ route.approach, s.proves k = true ∧ (s.acu.sections[k]).occ = false) ∧
    (let s := (routeIn .locked).updSection 10 fun x => { x with occ := true }
     10 ∈ route.approach ∧ ¬(s.proves 10 = true ∧ (s.acu.sections[10]).occ = false)) := by
  decide +kernel

/-- Point 6 (individual moves) is held, blocked, over an occupied track, at rest, moving and FAILED;
point 7 admits no individual move. -/
theorem witness_MovePointChecksThenMoves :
    (let c := queued 3 6 2 0
     Takes (withCommand running c) cmdMovePoint c [] ∧ c.arg2 ≠ 0 ∧ c.arg2 ≠ 1) ∧
    (let c := queued 3 16 1 0
     Takes (withCommand running c) cmdMovePoint c [] ∧
       c.arg2 = (if Position.reverse = .normal then 0 else 1) ∧
       configured running.config.points c.arg1 = none) ∧
    (let c := queued 3 6 1 0
     Takes (withCommand running c) cmdMovePoint c [] ∧
       c.arg2 = (if Position.reverse = .normal then 0 else 1) ∧
       configured running.config.points c.arg1 = some (6, ⟨11, true, 8⟩) ∧
       configured running.config.points 7 = some (7, ⟨11, false, 8⟩) ∧
       (running.lku.points[6]).holder = none ∧ (running.lku.points[6]).claimsN = 0 ∧
       (running.lku.points[6]).claimsR = 0 ∧ (running.lku.points[6]).blocked = false ∧
       (running.acu.sections[11]).state = .clear ∧ (running.acu.sections[11]).occ = false ∧
       (running.pcu.points[6]).controller = .rest ∧
       (running.pcu.points[6]).detected ≠ detectedAt .reverse) ∧
    (let c := queued 3 6 0 0
     let free : PointLock := ⟨none, 0, 0, false⟩
     let at_ : PointRec := ⟨.normal, .rest, none, .stopped, .stopped, false⟩
     (∀ s ∈ [pointAs { free with claimsR := 1 } at_ c, pointAs { free with blocked := true } at_ c,
         pointAs free at_ c, pointAs free { at_ with controller := .movingR } c,
         pointAs free { at_ with controller := .failed } c],
       Takes s cmdMovePoint c [] ∧ c.arg2 = (if Position.normal = .normal then 0 else 1) ∧
         configured s.config.points c.arg1 = some (6, ⟨11, true, 8⟩)) ∧
     at_.detected = detectedAt .normal ∧
     ((running.updSection 11 fun x => { x with occ := true }).acu.sections[11]).occ = true) := by
  decide +kernel

/-- Each kind with on and with off, at a configured and at an unconfigured number; and both tests of
the arguments at their boundaries. -/
theorem witness_BlockChangesOneFlag :
    (∀ c ∈ [queued 4 3 8 0, queued 4 0 8 2, queued 4 0 8 1, queued 4 1 6 0, queued 4 2 1 1],
      Takes (withCommand running c) cmdBlock c []) ∧
      3 ≤ (queued 4 3 8 0).arg1.toNat ∧ 2 ≤ (queued 4 0 8 2).arg3.toNat ∧
      (queued 4 0 8 1).arg3.toNat ≤ 1 ∧ (queued 4 0 8 1).arg1 = 0 ∧
      configured running.config.sections 8 = some (8, section1 (.localHead 0) true none) ∧
      configured running.config.sections 32 = none ∧
      (queued 4 1 6 0).arg3.toNat ≤ 1 ∧ (queued 4 1 6 0).arg1 = 1 ∧
      configured running.config.points 6 = some (6, ⟨11, true, 8⟩) ∧
      configured running.config.points 16 = none ∧
      (queued 4 2 1 1).arg3.toNat ≤ 1 ∧ (queued 4 2 1 1).arg1 = 2 ∧
      configured running.config.signals 1 = some (1, false) ∧
      configured running.config.signals 2 = none := by decide +kernel

/-- The station with section `k` DISTURBED and a pending reset record or none. -/
def disturbed (k : Fin 32) (r : Option PendingReset) : State :=
  (running.updSection k SectionRec.disturb).setPendingReset r

/-- Section 32 does not exist, 17 has another owner, 8 is CLEAR, DISTURBED and held, DISTURBED; 16
is a boundary section of a neighbour not heard. -/
theorem witness_ResetSectionMakesThePendingRecord :
    (∀ n ∈ [8, 16, 17, 32], Takes (withCommand running (queued 5 n 0 0)) cmdResetSection
      (queued 5 n 0 0) []) ∧
    configured running.config.sections 32 = none ∧
    configured running.config.sections 17 =
      some (17, ⟨[⟨.remoteHead 1, false⟩], some 0, some 5⟩) ∧
    configured running.config.sections 8 = some (8, section1 (.localHead 0) true none) ∧
    configured running.config.sections 16 = some (16, section1 (.remoteHead 0) true (some 4)) ∧
    (running.acu.sections[8]).state = .clear ∧
    (let s := (disturbed 8 none).updSectionLock 8 fun l =>
       { l with holder := some ⟨.route 2, .path⟩ }
     (s.acu.sections[8]).state = .disturbed ∧ (s.lku.sections[8]).holder ≠ none) ∧
    (let s := disturbed 16 none
     boundaryNeighbour s.config 16 = some 0 ∧ (s.hou.neighbours[0]).state ≠ .alive ∧
       (s.acu.sections[16]).state = .disturbed ∧ (s.lku.sections[16]).holder = none ∧
       ∀ q : Fin 64, (s.lku.routes[q]).state ≠ .approachHeld) ∧
    (let s := disturbed 8 (some ⟨9, 20, .start 100⟩)
     s.cmu.pendingReset ≠ none ∧ (s.acu.sections[8]).state = .disturbed ∧
       (s.lku.sections[8]).holder = none ∧ boundaryNeighbour s.config 8 = none) ∧
    (disturbed 8 none).cmu.pendingReset = none := by decide +kernel

theorem witness_ConfirmResetExecutesTheReset :
    (∀ c ∈ [queued 6 8 247 0, queued 6 8 246 0, queued 6 16 239 0, queued 6 32 223 0],
      Takes (withCommand running c) cmdConfirmReset c []) ∧
    configured running.config.sections 32 = none ∧
    configured running.config.sections 8 = some (8, section1 (.localHead 0) true none) ∧
    configured running.config.sections 16 = some (16, section1 (.remoteHead 0) true (some 4)) ∧
    running.cmu.pendingReset = none ∧
    (let mine : PendingReset := ⟨8, 20, .start 100⟩
     let other : PendingReset := ⟨8, 21, .start 100⟩
     mine.panel = panelAddress (zone .block) 0 ∧ other.panel ≠ panelAddress (zone .block) 0 ∧
       mine.number = 8 ∧ (queued 6 8 247 0).arg2 = 255 - (queued 6 8 247 0).arg1 ∧
       (queued 6 8 246 0).arg2 ≠ 255 - (queued 6 8 246 0).arg1 ∧
       (disturbed 8 (some mine)).resetRefusal 8 (section1 (.localHead 0) true none) = none ∧
       boundaryNeighbour (zone .block) 8 = none ∧
       (running.setPendingReset (some mine)).resetRefusal 8
         (section1 (.localHead 0) true none) = some .notResettable) ∧
    (let s := heard (disturbed 16 (some ⟨16, 20, .start 100⟩))
     s.resetRefusal 16 (section1 (.remoteHead 0) true (some 4)) = none ∧
       (queued 6 16 239 0).arg2 = 255 - (queued 6 16 239 0).arg1 ∧
       boundaryNeighbour s.config 16 = some 0 ∧
       (section1 (.remoteHead 0) true (some 4)).neighbourNumber = some 4) := by decide +kernel

/-- Codes 2 (not latching), 3 and 9 (latching), with and without the condition; command codes 0 and
9. -/
theorem witness_ClearingAndUnknownCommands :
    (let c := queued 7 0 0 0
     Takes (withCommand running c) cmdClearNeighbourBlock c [] ∧
       configured running.config.neighbours c.arg1 = some (0, neighbour .block) ∧
       configured running.config.neighbours 4 = none) ∧
    (let c := queued 8 FaultKind.settingFailed.code 2 0
     let s := withCommand (withFaults running [⟨.settingFailed, 2⟩]) c
     Takes s cmdClearFault c [] ∧ c.arg1 = FaultKind.settingFailed.code ∧
       s.hasFault .settingFailed c.arg2 = true ∧ FaultKind.settingFailed ≠ .headSequence ∧
       s.hasFault .settingFailed 3 = false) ∧
    (let c := queued 8 FaultKind.headSequence.code 0 0
     let s := withCommand (withFaults running [⟨.headSequence, 0⟩]) c
     Takes s cmdClearFault c [] ∧ s.hasFault .headSequence c.arg2 = true ∧
       c.arg2 = byteOf (0 : Fin 24).val) ∧
    (let c := queued 8 2 0 0
     Takes (withCommand running c) cmdClearFault c [] ∧
       ∀ kind ∈ ([.headSequence, .remoteImplausible, .pointTimeout, .trailed, .settingFailed,
         .passedAtDanger] : List FaultKind), c.arg1 ≠ kind.code) ∧
    (∀ code ∈ [(0 : Byte), 9, 255],
      let c := queued code 0 0 0
      Takes (withCommand running c) c.code c [] ∧ (c.code = 0 ∨ 9 ≤ c.code.toNat)) := by
  decide +kernel

/-! ### Neighbours -/

/-- A STATUS content with one head of remote head 0 and its forward total. -/
def statusOf (station : Byte) (forward : Word) : StatusContent :=
  ⟨station, 0, [⟨2, forward, 0, 0⟩], [], [], [], [], []⟩

/-- The STATUS telegram of neighbour 0. -/
def statusFrame (c : StatusContent) : Frame := frame 6 31 9 0x1111 (.status c)

/-- A valid baseline of remote head 0 at the totals 0. -/
def based : State :=
  { heard running with acu := { running.acu with
    baselines := upd running.acu.baselines 0 fun _ => ⟨true, 0, 0⟩ } }

/-- Reports at the two plausible bounds, 250 and 251. -/
theorem witness_StatusIsHeard :
    based.config.neighbours[0] = some (neighbour .block) ∧
      (based.hou.neighbours[0]).state = .alive ∧ (based.acu.baselines[0]).valid = true ∧
      orientationOf based.config 16 (.remoteHead 0) = some true ∧
      (∀ e : Fin 8, e ≠ 0 → orientationOf based.config 16 (.remoteHead e) = none) ∧
      Accepts based kindStatus (statusFrame (statusOf 2 250)) (.neighbour 0)
        (.status (statusOf 2 250)) ∧
      Accepts based kindStatus (statusFrame (statusOf 2 251)) (.neighbour 0)
        (.status (statusOf 2 251)) ∧
      (statusOf 2 250).station ≠ StationState.halt.code ∧
      reportFor based.config 0 (statusOf 2 250).heads 0 = some ⟨2, 250, 0, 0⟩ ∧
      reportFor based.config 0 (statusOf 2 251).heads 0 = some ⟨2, 251, 0, 0⟩ ∧
      (running.hou.neighbours[0]).state ≠ .alive ∧
      (⟨true, 0, 0⟩ : Baseline).implausible ⟨2, 251, 0, 0⟩ = true := by
  and_intros <;> decide +kernel

theorem witness_SilenceOfANeighbour :
    (let s := (offeringRoute .block (offerAs .portion .sent 0)).updNeighbour 0 fun r =>
       { r with silence := .running 0 }
     (s.hou.neighbours[0]).silence.due = true) ∧
    (offeringRoute .block (offerAs .portion .sent 0)).OffersOwned ∧
      Accepts (offeringRoute .block (offerAs .portion .sent 0)) kindStatus
        (statusFrame (statusOf 3 0)) (.neighbour 0) (.status (statusOf 3 0)) ∧
      (statusOf 3 0).station = StationState.halt.code :=
  ⟨by decide +kernel, offeringRoute_owned _ _ rfl, by decide +kernel, by decide +kernel⟩

/-- A STATUS of neighbour 0 that lists a hosted portion for address 5 and its own held offer. -/
def listing : StatusContent :=
  ⟨2, 0, [], [], [], [⟨3, 5, 77, 2⟩], [⟨5, 78, 1, 0⟩], [⟨5, 77, 0, 1⟩]⟩

/-- A record UNCONFIRMED of route 2 in SETTING and in LOCKED, confirmed and not; an orphaned
portion, listed and not; a stray grant entry of an ALIVE neighbour. -/
theorem witness_StatusSettlesTheRecords :
    (∀ c ∈ [listing, statusOf 2 0],
      let s := ((offeringRoute .block (offerAs .portion .unconfirmed 0)).updNeighbour 0 fun r =>
        { r with state := .silent }).updPortion 1 fun r =>
          { r with state := .inUse, requester := some (0, 77), orphan := true }
      Accepts s kindStatus (statusFrame c) (.neighbour 0) (.status c) ∧
        s.config.neighbours[0] = some (neighbour .block) ∧ c.station ≠ StationState.halt.code ∧
        (s.hou.neighbours[0]).state ≠ .alive ∧
        s.hou.offers[0] = some (offerAs .portion .unconfirmed 0) ∧
        (s.lku.routes[2]).state = .setting ∧ s.config.routes[2] = some route ∧
        (s.hou.portions[1]).orphan = true ∧ (s.hou.portions[1]).state = .inUse) ∧
    (listing.portions.any fun e => e.number == (offerAs .portion .unconfirmed 0).target &&
      e.offerId == (offerAs .portion .unconfirmed 0).id && !bit7 e.info) = true ∧
    Accepts (heard running) kindStatus (statusFrame listing) (.neighbour 0) (.status listing) ∧
    ((heard running).hou.neighbours[0]).state = .alive ∧
    ((after (.status (statusFrame listing)) (heard running)).slu.classOne.map
      (·.telegram.payload)) = [.portionRelease 3 77, .flankRelease 78] := by
  and_intros <;> decide +kernel

/-- Portion 1 as it stands for a requester. -/
def portionAs (state : PortionState) (requester : Option (Fin 4 × Byte)) : State :=
  running.updPortion 1 fun r => { r with state := state, requester := requester }

theorem witness_PortionRequestIsAnswered :
    (∀ n ∈ [(1 : Byte), 2, 16], ∀ s ∈ [running, station .halt],
      Accepts s kindPortionRequest (fromNeighbour (.portionRequest n 77)) (.neighbour 0)
        (.portionRequest n 77)) ∧
    running.sld.station = .run ∧ (station .halt).sld.station ≠ .run ∧
    configured running.config.portions 16 = none ∧
    configured running.config.portions 2 = some (2, { portion with requester := 1 }) ∧
    configured running.config.portions 1 = some (1, portion) ∧
    ({ portion with requester := 1 } : PortionCfg).requester ≠ 0 ∧ portion.requester = 0 ∧
    (let f := fromNeighbour (.portionRequest 1 77)
     (∀ s ∈ [portionAs .proven (some (0, 77)), portionAs .setting (some (0, 76))],
       Accepts s kindPortionRequest f (.neighbour 0) (.portionRequest 1 77) ∧
         (s.hou.portions[1]).state ≠ .idle) ∧
     ((portionAs .proven (some (0, 77))).hou.portions[1]).requester = some (0, 77) ∧
     (running.hou.portions[1]).state = .idle ∧
     (running.received (.neighbour 0) f).checkPortion portion = .ok [] ∧
     (let s := running.updSectionLock 16 fun l => { l with blocked := true }
      Accepts s kindPortionRequest f (.neighbour 0) (.portionRequest 1 77) ∧
        (s.received (.neighbour 0) f).checkPortion portion = .error .blocked) ∧
     16 ∈ portion.plan.path ∧ 16 ∉ portion.plan.overlap ∧ 12 ∈ portion.plan.overlap) := by
  and_intros <;> decide +kernel

/-- Portion 1 over section 16, point 6 in its path at REVERSE and in its overlap not at all, with
flank entry 21: each element free and each test failed in its turn, and a flank search that finds
nothing. -/
theorem witness_PortionRequestMakesTheChecks :
    (let c : PortionCfg := ⟨0, ⟨[16], [(6, .reverse)], [12], [], [21], .localSignal 1⟩⟩
     let cfg := { zone .block with portions := upd (zone .block).portions 1 fun _ => some c }
     let s := { running with config := cfg }
     let f := fromNeighbour (.portionRequest 1 77)
     Accepts s kindPortionRequest f (.neighbour 0) (.portionRequest 1 77) ∧
       configured s.config.portions 1 = some (1, c) ∧ (s.hou.portions[1]).state = .idle ∧
       (∀ k ∈ c.plan.path ++ c.plan.overlap, (s.lku.sections[(k : Fin 32)]).holder = none ∧
         (s.lku.sections[(k : Fin 32)]).blocked = false) ∧
       ((s.lku.points[6]).holder = none ∧ (s.lku.points[6]).claimsN = 0 ∧
         (s.pcu.points[6]).detected ≠ detectedAt .reverse ∧ (s.lku.points[6]).blocked = false ∧
         (s.acu.sections[11]).state = .clear ∧ (s.acu.sections[11]).occ = false) ∧
       s.flankSearch c.plan.flank = some [21] ∧
       (s.updSignalLock 1 fun l => { l with holds := 15 }).flankSearch c.plan.flank = none ∧
       ((after (.portionRequest f) s).lku.signals[1]).holds = 1 ∧
       ((after (.portionRequest f) s).pcu.points[6]).controller = .movingR ∧
       ((s.updSectionLock 16 fun l => { l with holder := some ⟨.route 2, .overlap⟩ }).lku.sections[
         (16 : Fin 32)]).holder ≠ none ∧
       ((s.updPointLock 6 fun l => { l with blocked := true }).lku.points[(6 : Fin 16)]).claimsN =
         0 ∧
       ((s.updPointLock 6 fun l => { l with claimsN := 1 }).lku.points[(6 : Fin 16)]).claimsN ≠ 0 ∧
       ((s.updSection 11 fun x => { x with occ := true }).acu.sections[(11 : Fin 32)]).occ =
         true) := by
  and_intros <;> decide +kernel

/-- A station with an offer at record 0. -/
def offering (policy : ReplyPolicy) (o : Offer) : State :=
  heard ((station .run policy).updOffer 0 fun _ => some o)

theorem witness_AnswersSettleTheOffer :
    (∀ s ∈ [running, station .halt, offering .block (offerAs .portion .sent 0),
        offering .block (offerAs .portion .granted 0)],
      Accepts s kindPortionGrant (fromNeighbour (.portionGrant 3 77)) (.neighbour 0)
          (.portionGrant 3 77) ∧
        Accepts s kindPortionRefuse (fromNeighbour (.portionRefuse 3 77 1)) (.neighbour 0)
          (.portionRefuse 3 77 1)) ∧
    (∀ k : Fin 8, running.hou.offers[k] = none) ∧
    (∀ o ∈ [offerAs .portion .sent 0, offerAs .portion .granted 0, offerAs .flank .sent 0,
        offerAs .flank .unconfirmed 0],
      (offering .block o).hou.offers[0] = some o ∧ o.neighbour = 0 ∧ o.id = 77 ∧ o.target = 3) ∧
    (∀ j : Fin 8, 0 ≤ j) ∧
    (∀ s ∈ [running, station .halt, offering .block (offerAs .flank .sent 0),
        offering .block (offerAs .flank .unconfirmed 0)],
      Accepts s kindFlankGrant (fromNeighbour (.flankGrant 77)) (.neighbour 0) (.flankGrant 77) ∧
        Accepts s kindFlankRefuse (fromNeighbour (.flankRefuse 77 8)) (.neighbour 0)
          (.flankRefuse 77 8)) := by
  and_intros <;> decide +kernel

/-- A station that hosts it at record 0. -/
def granting : State := running.updGrant 0 fun _ => some grantOf20

theorem witness_HostedRecordsAreReleased :
    (∀ state ∈ [PortionState.setting, .proven, .inUse, .overlapHeld],
      let s := portionAs state (some (0, 77))
      Accepts s kindPortionRelease (fromNeighbour (.portionRelease 1 77)) (.neighbour 0)
          (.portionRelease (byteOf (1 : Fin 16).val) 77) ∧ s.sld.station = .run ∧
        (s.hou.portions[1]).requester = some (0, 77) ∧ (s.hou.portions[1]).released = false ∧
        (s.hou.portions[1]).state = state) ∧
    (Accepts running kindPortionRelease (fromNeighbour (.portionRelease 1 77)) (.neighbour 0)
        (.portionRelease (byteOf (1 : Fin 16).val) 77) ∧
      (running.hou.portions[1]).state = .idle) ∧
    (16 ≤ (16 : Byte).toNat ∧
      Accepts running kindPortionRelease (fromNeighbour (.portionRelease 16 77)) (.neighbour 0)
        (.portionRelease 16 77)) ∧
    (∀ s ∈ [running, granting], Accepts s kindFlankRelease (fromNeighbour (.flankRelease 77))
      (.neighbour 0) (.flankRelease 77)) ∧
    (∀ k : Fin 8, running.hou.grants[k] = none) ∧ granting.hou.grants[0] = some grantOf20 ∧
    grantOf20.requester = 0 ∧ grantOf20.offerId = 77 ∧ ∀ j : Fin 8, 0 ≤ j := by
  and_intros <;> decide +kernel

theorem witness_FlankRequestIsAnswered :
    (∀ s ∈ [running, station .quiet, granting],
      Accepts s kindFlankRequest (fromNeighbour (.flankRequest 77 0 6)) (.neighbour 0)
          (.flankRequest 77 0 6) ∧
        Accepts s kindFlankRequest (fromNeighbour (.flankRequest 77 1 6)) (.neighbour 0)
          (.flankRequest 77 1 6)) ∧
    (station .quiet).sld.station ≠ .run ∧
    (granting.hou.grants[0] = some grantOf20 ∧ grantOf20.requester = 0 ∧
      grantOf20.offerId = 77 ∧ grantOf20.requested = 20 ∧ ∀ j : Fin 8, 0 ≤ j) ∧
    (running.config.flank[20] = some ⟨.point 6 .normal, none, true⟩ ∧
      (6 : Byte) = byteOf (6 : Fin 16).val ∧
      (∀ j : Fin 48, (running.config.flank[j]).any (·.requestable) = true → 20 ≤ j) ∧
      ∀ j : Fin 48, (running.config.flank[j]).any (·.element == .point 6 .reverse) = false) ∧
    (∀ k : Fin 8, running.hou.grants[k] = none) ∧
    (let s := { running with hou := { running.hou with
       grants := Vector.replicate 8 (some ⟨0, 78, 20, 20, true, false⟩) } }
     Accepts s kindFlankRequest (fromNeighbour (.flankRequest 77 0 6)) (.neighbour 0)
         (.flankRequest 77 0 6) ∧
       (∀ k : Fin 8, (s.hou.grants[k]).any (·.offerId == 77) = false) ∧
       ∀ k : Fin 8, s.hou.grants[k] ≠ none) ∧
    (let f := fromNeighbour (.flankRequest 77 0 6)
     running.hou.grants[0] = none ∧ (∀ j : Fin 8, j < 0 → running.hou.grants[j] ≠ none) ∧
       (running.received (.neighbour 0) f).flankSearch [20] = some [20] ∧
       (let s := running.updPointLock 6 fun l => { l with claimsR := 1 }
        Accepts s kindFlankRequest f (.neighbour 0) (.flankRequest 77 0 6) ∧
          (s.received (.neighbour 0) f).flankSearch [20] = none)) := by
  and_intros <;> decide +kernel

theorem witness_SectionResetPreparesOrIsIgnored :
    (∀ n ∈ [(16 : Byte), 31, 32], ∀ s ∈ [disturbed 16 none, station .halt],
      Accepts s kindSectionReset (fromNeighbour (.sectionReset n)) (.neighbour 0)
        (.sectionReset n)) ∧
    (station .halt).sld.station ≠ .run ∧ 32 ≤ (32 : Byte).toNat ∧
    (31 : Byte) = byteOf (31 : Fin 32).val ∧
    namesRemoteOf (disturbed 16 none).config 0 31 = false ∧
    (16 : Byte) = byteOf (16 : Fin 32).val ∧
    (let s := disturbed 16 none
     s.sld.station = .run ∧ namesRemoteOf s.config 0 16 = true ∧
       (s.acu.sections[16]).state = .disturbed ∧ s.sectionLocked 16 = false) := by decide +kernel

theorem witness_ReplyExpiryFollowsThePolicy :
    (∀ q ∈ [(ReplyPolicy.wait, 0), (.resend, 2), (.resend, 3), (.drop, 0), (.block, 0)],
      let o := offerAs .portion .sent q.2
      let s := offeringRoute q.1 o
      s.hou.offers[0] = some o ∧ s.config.neighbours[o.neighbour] = some (neighbour q.1) ∧
        o.state = .sent ∧ o.reply.due = true ∧ (neighbour q.1).policy = q.1) ∧
    (offeringRoute .block (offerAs .portion .sent 0)).OffersOwned :=
  ⟨by decide +kernel, offeringRoute_owned _ _ rfl⟩

/-! ### Lines and periods -/

theorem witness_WindowSilenceAndHealthTimersExpire :
    ((running.setPendingReset (some ⟨8, 20, .running 0⟩)).cmu.pendingReset =
        some ⟨8, 20, .running 0⟩ ∧ (Timer.running 0).due = true) ∧
    (let s : State := { running with slu := { running.slu with
       panelSilence := upd running.slu.panelSilence 0 fun _ => .running 0 } }
     (s.slu.panelSilence[0]).due = true) ∧
    (let s := (running.updLine .a fun r => { r with health := .running 0 }).updLine .b fun r =>
       { r with health := .running 1 }
     (s.line .a).health.due = true ∧ (s.line (otherLine .a)).health.hasTime = true) ∧
    (let s := (running.updLine .a fun r => { r with health := .running 0 }).updLine .b fun r =>
       { r with health := .expired }
     (s.line .a).health.due = true ∧ (s.line (otherLine .a)).health.hasTime = false) := by
  decide +kernel

/-- The station in RUN with the pacing times at their end, and a change waiting or not. -/
def paced (change : Bool) : State :=
  { running with
    hou := { running.hou with statusPacing := .running 0, statusChange := change }
    cmu := { running.cmu with pageZero := ⟨.running 0, change⟩, pageOne := ⟨.running 0, change⟩ } }

/-- The two periods at their end, in RUN and in HALT; the pacing times at theirs. -/
theorem witness_PeriodsAndPacingsPlaceTheirTelegrams :
    (∀ s ∈ [running, station .halt],
      let s : State := { s with
        hou := { s.hou with statusPeriod := .running 0 }
        cmu := { s.cmu with displayPeriod := .running 0 } }
      (s.sld.station = .run ∨ s.sld.station = .halt) ∧ s.hou.statusPeriod.due = true ∧
        s.sld.ownAddress ≠ none ∧ s.cmu.displayPeriod.due = true) ∧
    ∀ change : Bool, (paced change).hou.statusPacing.due = true ∧
      (paced change).hou.statusChange = change ∧ (paced change).sld.station = .run ∧
      (paced change).sld.ownAddress ≠ none ∧
      (∀ page ∈ [Page.zero, .one], ((paced change).pageTimes page).pacing.due = true ∧
        ((paced change).pageTimes page).change = change) := by decide +kernel

/-- R165, R171: page 0 shows neighbour 0 BLOCKED and ALIVE as 129, signal 1 at DANGER with its green
lamp failed as flag 4; page 1 shows section 8 OCCUPIED and blocked with count 3, and of 33
conditions 32, with "more". -/
theorem test_pages_show_their_elements :
    (let s := running.updNeighbour 0 fun r => { r with state := .alive, blocked := true }
     let s := s.updSignal 1 fun r => { r with green := { r.green with failed := true } }
     let s := (s.updSection 8 fun r => { r with state := .occupied, count := 3 }).updSectionLock 8
       fun l => { l with blocked := true }
     let s := { s with cmu := { s.cmu with
       faults := (List.range 33).map fun n => ⟨.settingFailed, byteOf n⟩ } }
     (0, 129) ∈ s.pageZeroContent.neighbours ∧ (1, 0, 4) ∈ s.pageZeroContent.signals ∧
       (8, 129, 3) ∈ s.pageOneContent.sections ∧ s.pageOneContent.faults.length = 32 ∧
       s.pageOneContent.more = true) := by decide +kernel

/-- A COMMAND_RESULT waits in class 1. -/
def waiting : State := running.toPanel 0 (.commandResult 9 1 0 0)

/-- Of the telegrams that wait, class 1 comes before the STATUS, the STATUS before the pages, and of
the pages the one placed earlier; a line that has finished two telegrams that the other has not is
ahead by two. -/
theorem witness_AttemptsTakeTheCurrentTelegram :
    (let item := fun (serial : Nat) (p : Payload) =>
       (⟨serial, ⟨5, 31, 0, 0, p⟩, ⟨false, 0, false⟩, ⟨false, 0, false⟩, .running 9⟩ : TxItem)
     let s : State := { waiting with slu := { waiting.slu with
       statusSlot := some (item 3 (.status fullStatus))
       displayZero := some (item 2 (.displayZero running.pageZeroContent))
       displayOne := some (item 1 (.displayOne running.pageOneContent)) } }
     let serial := fun (u : StationLine) => (u.current .a).map (·.2.serial)
     let only := fun (status : Option TxItem) =>
       { s.slu with classOne := [], statusSlot := status }
     serial s.slu = some 0 ∧ serial (only s.slu.statusSlot) = some 3 ∧
       serial (only none) = some 1 ∧ serial { only none with displayOne := none } = some 2 ∧
       (running.slu.classOne = [] ∧ running.slu.statusSlot = none ∧
         running.slu.displayZero = none ∧ running.slu.displayOne = none ∧
         (running.line .a).attempt = none ∧ running.sld.ownAddress = some 5) ∧
       (let done := fun (i : TxItem) => { i with onA := ⟨true, 1, false⟩ }
        let t := { s.slu with
          displayZero := s.slu.displayZero.map done, displayOne := s.slu.displayOne.map done }
        t.skewed .a = true ∧ t.skewed .b = false ∧
          (t.waiting.filter fun i => (i.onA).finished && !(i.onB).finished).length = 2)) := by
  and_intros <;> decide +kernel

/-- The telegram of `waiting`. -/
def result : Telegram := ⟨5, 20, 0, 0x1234, .commandResult 9 1 0 0⟩

/-- The attempt at it in progress on line A, none on line B; its 100 ms have run out. -/
def attempting : State :=
  let s := after (.transmitAttempt .a 64) waiting
  { s with slu := { s.slu with
    classOne := s.slu.classOne.map fun i => { i with life := .running 0 } } }

/-- The access gap of class 1 at address 5 is 24 + 40 bit times; one bit time less does not do. An
echo that differs at its last byte, the second; and the give-up on each line. -/
theorem witness_AttemptsBeginAndEnd :
    ((waiting.line .a).attempt = none ∧
      (waiting.slu.current .a).map (·.2.telegram) = some result ∧
      waiting.sld.ownAddress = some 5 ∧ waiting.sld.station = .run ∧
      waiting.slu.skewed .a = false ∧ 24 + 8 * (5 : Byte).toNat ≤ 64 ∧
      ¬(24 + 8 * (5 : Byte).toNat ≤ 63)) ∧
    ((attempting.line .a).attempt = some ⟨0, result⟩ ∧
      echoDiffers result.bytes [13, 12] = true ∧
      (∀ l ∈ [Line.a, .b], (attempting.slu.waiting.find? fun x =>
        x.telegram.seq == 0 && !(x.on l).finished && x.life.due) =
          some ⟨0, result, ⟨false, 1, false⟩, ⟨false, 0, false⟩, .running 0⟩) ∧
      (attempting.line .b).attempt = none) := by
  and_intros <;> decide +kernel

/-! ### Rules of the whole machine -/

/-- A step with one command in front of a station whose queue is empty. -/
theorem step_of (i : Instr) (s : State) (h : isNext (exec i { s with pending := [] }) = true) :
    step { s with pending := [i] } = .next (after i { s with pending := [] }) :=
  next_after i _ h

/-- A route waits for a timer, all sixteen taken, and one of them expires. -/
theorem witness_CountsQueuesAndFaultSetStayLawful :
    (pooled .approachHeld 16 [61]).SectionsTied ∧
    (pooled .approachHeld 16 [61]).QueuesBounded ∧ (pooled .approachHeld 16 [61]).FaultsOrdered ∧
      (pooled .approachHeld 16 [61]).PoolFullWhileWaiting ∧
      (pooled .approachHeld 16 [61]).rtp.queue ≠ [] ∧
      step { pooled .approachHeld 16 [61] with pending := [.poolTimerExpiry 0] } =
        .next (after (.poolTimerExpiry 0) { pooled .approachHeld 16 [61] with pending := [] }) := by
  refine ⟨fun k => ?_, ?_, ?_, fun _ => ?_, by decide +kernel, step_of _ _ (by decide +kernel)⟩
  · have h : (pooled .approachHeld 16 [61]).acu.sections[k] = ⟨0, .clear, false, false⟩ := by
      revert k
      decide +kernel
    rw [h]
    exact ⟨by decide, rfl⟩
  · unfold State.QueuesBounded windowOk
    decide +kernel
  · unfold State.FaultsOrdered
    decide +kernel
  · decide +kernel

/-- A SENT offer to an ALIVE neighbour, its reply timer at its end. -/
theorem witness_OfferTableStaysLawful :
    (offeringRoute .block (offerAs .portion .sent 0)).OffersOwned ∧
    (offeringRoute .block (offerAs .portion .sent 0)).OffersHeld ∧
    (offering .block (offerAs .portion .sent 0)).OffersLawful ∧
      step { offering .block (offerAs .portion .sent 0) with pending := [.replyTimerExpiry 0] } =
        .next (after (.replyTimerExpiry 0)
          { offering .block (offerAs .portion .sent 0) with pending := [] }) := by
  have only : ∀ k : Fin 8, (offering .block (offerAs .portion .sent 0)).hou.offers[k] =
      if k = 0 then some (offerAs .portion .sent 0) else none := by decide +kernel
  have same : (offeringRoute .block (offerAs .portion .sent 0)).hou.offers =
      (offering .block (offerAs .portion .sent 0)).hou.offers := rfl
  refine ⟨offeringRoute_owned _ _ rfl, ⟨fun k o h => ?_, by decide +kernel⟩,
    ⟨fun k j o q hk hj _ => ?_, fun k o h => ?_⟩, step_of _ _ (by decide +kernel)⟩
  · rw [same, only] at h
    split at h
    · cases h
      subst k
      decide +kernel
    · cases h
  · rw [only] at hk hj
    split at hk <;> split at hj <;> simp_all
  · rw [only] at h
    split at h
    · cases h
      decide +kernel
    · cases h

/-- Route 2 in SETTING with entry 20 in its held-flank set, a hosted grant of the same entry, and
both counted; its setting timer expires. -/
def claiming : State :=
  (((routeIn .setting).updRoute 2 fun r => { r with
    setting := .running 0, hold := { r.hold with flank := [⟨20, none⟩] } }).updPointLock 6
      fun l => { l with claimsN := 2 }).updGrant 0 fun _ => some grantOf20

/-- Two sets name point 6 at NORMAL, none any other element. -/
theorem claiming_setsNaming (x : FlankElement) :
    claiming.setsNaming x = if x = .point 6 .normal then 2 else 0 := by
  have routes : ∀ r : Fin 64,
      (claiming.lku.routes[r]).hold.entries = if r = 2 then [20] else [] := by decide +kernel
  have portions : ∀ p : Fin 16, (claiming.hou.portions[p]).hold.entries = [] := by decide +kernel
  have grants : ∀ k : Fin 8, claiming.hou.grants[k] = if k = 0 then some grantOf20 else none := by
    decide +kernel
  have used : elementOf claiming.config 20 = some (.point 6 .normal) := by decide +kernel
  have named : ∀ r : Fin 64, NamesElement claiming.config (claiming.lku.routes[r]).hold.entries x ↔
      r = 2 ∧ x = .point 6 .normal := by
    intro r
    rw [routes]
    by_cases h : r = 2 <;> simp [h, NamesElement, used, eq_comm]
  have hosted : ∀ k : Fin 8, ((claiming.hou.grants[k]).any fun g =>
      elementOf claiming.config g.used == some x) = decide (k = 0 ∧ x = .point 6 .normal) := by
    intro k
    rw [grants, Bool.eq_iff_iff]
    by_cases h : k = 0
    · subst h
      simp only [if_pos, Option.any_some, show elementOf claiming.config grantOf20.used = _ from
        used, beq_iff_eq, Option.some.injEq, decide_eq_true_eq, true_and]
      exact eq_comm
    · simp [h]
  unfold State.setsNaming
  simp only [named, hosted, portions]
  by_cases h : x = .point 6 .normal
  · subst h
    decide +kernel
  · simp [h]

theorem witness_FlankCountsFollowTheHeldFlankSets :
    claiming.NothingOutsideRun ∧ claiming.FlankCounted ∧
      step { claiming with pending := [.settingTimerExpiry 2] } =
        .next (after (.settingTimerExpiry 2) { claiming with pending := [] }) := by
  refine ⟨fun h => absurd rfl h, ⟨fun p q => ?_, by decide +kernel, fun g => ?_, by decide +kernel,
    by decide +kernel⟩, step_of _ _ (by decide +kernel)⟩
  · rw [claiming_setsNaming]
    cases q <;> revert p <;> decide +kernel
  · rw [claiming_setsNaming]
    revert g
    decide +kernel

/-- Outside RUN nothing stands, and STOP comes. -/
theorem witness_NothingStandsOutsideRun :
    (station .quiet).NothingOutsideRun ∧ (station .quiet).sld.station ≠ .run ∧
      step { station .quiet with pending := [.stop []] } =
        .next (after (.stop []) { station .quiet with pending := [] }) := by
  refine ⟨fun _ => ?_, by decide +kernel, step_of _ _ (by decide +kernel)⟩
  and_intros <;> decide +kernel

/-- An unbound output is never energised. -/
theorem witness_OutputsStayAtTheirLevels :
    running.OutputsFollow ∧ (∀ g : Fin 16, (running.asu.signals[g]).kept = running.shown g) ∧
      step { running with pending := [.flashBoundary] } =
      .next (after .flashBoundary { running with pending := [] }) := by
  have lamps : ∀ i : Fin 48, running.fsu.lamps[i] = ⟨.unbound, false, false, false⟩ := by
    decide +kernel
  have drives : ∀ i : Fin 32, running.fsu.drives[i] = ⟨.unbound, false, false, false⟩ := by
    decide +kernel
  refine ⟨⟨fun i => ?_, fun i => ?_⟩, by decide +kernel, step_of _ _ (by decide +kernel)⟩
  · rw [lamps]
    rfl
  · rw [drives]
    rfl

/-- The green lamp of signal 0 is lit though nothing is energised: its stray timer starts. -/
theorem witness_SupervisionFollowsTheRecords :
    proved.LampTimersFollow ∧ proved.NoLitRedFailed ∧ proved.FaultsMirrorRecords ∧
      step { proved with pending := [.provingEdge 0 .green true] } =
        .next (after (.provingEdge 0 .green true) { proved with pending := [] }) := by
  refine ⟨witness_ProvingEdgeIsTakenByTheLamp.1, fun g _ _ => by revert g; decide +kernel,
    ⟨fun g l => ?_, ?_, ?_⟩,
    step_of _ _ (by decide +kernel)⟩
  · cases l <;> revert g <;> decide +kernel
  · decide +kernel
  · decide +kernel

/-- Route 2 LOCKED alone: CAUTION, and CALL_ON as a CALL_ON route; with route 4 LOCKED from the
signal ahead, whose own exit is reported at CAUTION, PROCEED at both; with signal 0 held at danger
DANGER, and signal 1 without a route DANGER. -/
theorem witness_FlashBoundaryPresentsTheCommandedAspects :
    (let s := routeIn .locked
     let locked := fun (s : State) (r : Fin 64) (g : Fin 16) =>
       (s.config.routes[r]).any (fun c => c.entry == g) && (s.lku.routes[r]).state == .locked
     let calling := { s with config := { s.config with
       routes := upd s.config.routes 2 fun _ => some { route with cls := .callOn } } }
     let held := s.updSignalLock 0 fun l => { l with holds := 1 }
     let ahead := (s.updRoute 4 fun r => { r with state := .locked }).updNeighbour 0 fun r =>
       { r with state := .alive, view := some { statusOf 2 0 with signals := [⟨4, 2⟩] } }
     (∀ x ∈ [s, calling, held, ahead], ∀ r : Fin 64, locked x r 0 = true ↔ r = 2) ∧
       (∀ r : Fin 64, locked s r 1 = false) ∧ locked ahead 4 1 = true ∧
       s.commanded 0 = .caution ∧ s.commanded 1 = .danger ∧ calling.commanded 0 = .callOn ∧
       held.commanded 0 = .danger ∧ ahead.commanded 0 = .proceed ∧
       ahead.commanded 1 = .proceed) := by
  and_intros <;> decide +kernel

/-- A signal at CAUTION blocked, and freed again, within one half of the flash phase. -/
def freed : State :=
  let s := (routeIn .locked).updSignal 0 fun r => { r with presented := .caution, kept := .caution }
  after .block (withCommand (after .block (withCommand s (queued 4 2 0 1))) (queued 4 2 0 0))

/-- R97, R162: the freed signal stays at DANGER until the next boundary. -/
theorem test_block_and_free_waits_for_boundary :
    freed.shown 0 = .danger ∧ (after .flashBoundary freed).shown 0 = .caution := by
  decide +kernel

/-- Route 2 LOCKED with a free path, PROCEED presented and the signal ahead at DANGER. -/
theorem witness_PermissiveAspectHasAProvedRoute :
    ((routeIn .locked).updSignal 0 fun r =>
      { r with presented := .proceed, kept := .proceed }).shown 0 = .caution := by
  decide +kernel

theorem witness_OnlyTheNamedEventsChangeThese :
    exec (.sectionNotice 8) running = .next (after (.sectionNotice 8) running) ∧
      Instr.sectionNotice 8 ≠ .reset ∧ Instr.sectionNotice 8 ≠ .flashBoundary ∧
      Instr.sectionNotice 8 ≠ .block ∧
      ∀ delivered, Instr.sectionNotice 8 ≠ .configReadEnd delivered := by
  refine ⟨next_after _ _ (by decide +kernel), ?_, ?_, ?_, fun _ => ?_⟩ <;> simp

/-- Each change of the station state, by its command (R166 to R168). -/
theorem test_station_states_change_by_their_commands :
    (after (.configReadEnd []) State.reset).sld.station = .halt ∧
      (after .quietTimerExpiry { station .quiet with
        sld := { (station .quiet).sld with quiet := .running 0 } }).sld.station = .run ∧
      (after (.stop []) running).sld.station = .halt ∧
      (after .flashBoundary running).sld.station = .run := by decide +kernel

/-- A confirmed reset of section 8. -/
def confirming : State :=
  withCommand (disturbed 8 (some ⟨8, 20, .start 100⟩)) (queued 6 8 247 0)

theorem witness_DisturbedIsLeftByAResetAlone :
    exec .confirmReset confirming = .next (after .confirmReset confirming) ∧
      (confirming.acu.sections[8]).state = .disturbed ∧
      ((after .confirmReset confirming).acu.sections[8]).state = .prepared := by
  refine ⟨next_after _ _ (by decide +kernel), ?_, ?_⟩ <;> decide +kernel

end Sys2Proof.Tests
end

section
/-! The clock, said once: what one sampling interval does to each unit (a timer of the 100 ms base
is counted at the end of a base step and at no other moment, R1), and when a timer of the base is
due. -/

namespace Sys2Proof.Machine

open Sys2Proof

/-! ## A timer of the base (R1) -/

@[simp] theorem Timer.tick_running (n : Nat) : (Timer.running n).tick = .running (n - 1) := rfl

@[simp] theorem Timer.due_running (n : Nat) : (Timer.running n).due = true ↔ n = 0 := by
  simp [Timer.due]

theorem baseInstant_iff (t : Nat) : baseInstant t = true ↔ t % 400 = 0 := by
  simp [baseInstant]

/-- A timer of the base has counted the ends of the base since its start. -/
theorem timerAfter_running (m t0 k : Nat) :
    timerAfter (.running m) t0 k = .running (m - ((t0 + k) / 400 - t0 / 400)) := by
  induction k with
  | zero => simp [timerAfter]
  | succ k ih =>
    simp only [timerAfter, baseInstant_iff, ih]
    split
    · next h => rw [Timer.tick_running]; congr 1; omega
    · next h => congr 1; omega

/-- A timer started with `n` steps is due once `n + 1` ends of the base have passed. -/
theorem timerAfter_start_due (n t0 k : Nat) :
    (timerAfter (.start n) t0 k).due = true ↔ n + 1 ≤ (t0 + k) / 400 - t0 / 400 := by
  rw [Timer.start, timerAfter_running, Timer.due_running]
  omega

/-- Settles O6: the timer is due at the end number `n + 1` of the base after its start. -/
theorem baseTimerExpiresWithinOneStep : Obligations.BaseTimerExpiresWithinOneStep := by
  intro n t0
  have not_due (j : Nat) (h : j < 400 * (t0 / 400 + n + 1) - t0) :
      (timerAfter (.start n) t0 j).due = false := by
    rw [Bool.eq_false_iff, Ne, timerAfter_start_due]
    omega
  refine ⟨400 * (t0 / 400 + n + 1) - t0, by omega, by omega, ?_, ?_, not_due⟩
  · rw [baseInstant_iff]; omega
  · rw [timerAfter_start_due]; omega

/-! ## The step on an empty queue -/

theorem step_of_empty_queue {s : State} (h : s.pending = []) : step s = .next s.tick := by
  simp [step, h]

/-! ## Sampling -/

@[simp] theorem State.sampleSensors_keeps (s : State) :
    s.sampleSensors.pending = s.pending ∧ s.sampleSensors.ticks = s.ticks ∧
    s.sampleSensors.pins = s.pins ∧ s.sampleSensors.config = s.config ∧
    s.sampleSensors.fsu.contacts = s.fsu.contacts ∧ s.sampleSensors.fsu.lamps = s.fsu.lamps ∧
    s.sampleSensors.fsu.drives = s.fsu.drives ∧ s.sampleSensors.fsu.onHalf = s.fsu.onHalf ∧
    s.sampleSensors.acu = s.acu ∧ s.sampleSensors.pcu = s.pcu ∧ s.sampleSensors.lku = s.lku ∧
    s.sampleSensors.asu = s.asu ∧ s.sampleSensors.rtp = s.rtp ∧ s.sampleSensors.slu = s.slu ∧
    s.sampleSensors.hou = s.hou ∧ s.sampleSensors.cmu = s.cmu ∧ s.sampleSensors.sld = s.sld := by
  and_intros <;> rfl

@[simp] theorem State.sampleContacts_keeps (s : State) :
    s.sampleContacts.pending = s.pending ∧ s.sampleContacts.ticks = s.ticks ∧
    s.sampleContacts.pins = s.pins ∧ s.sampleContacts.config = s.config ∧
    s.sampleContacts.fsu.sensors = s.fsu.sensors ∧ s.sampleContacts.fsu.lamps = s.fsu.lamps ∧
    s.sampleContacts.fsu.drives = s.fsu.drives ∧ s.sampleContacts.fsu.onHalf = s.fsu.onHalf ∧
    s.sampleContacts.acu = s.acu ∧ s.sampleContacts.pcu = s.pcu ∧ s.sampleContacts.lku = s.lku ∧
    s.sampleContacts.asu = s.asu ∧ s.sampleContacts.rtp = s.rtp ∧ s.sampleContacts.slu = s.slu ∧
    s.sampleContacts.hou = s.hou ∧ s.sampleContacts.cmu = s.cmu := by
  and_intros <;> rfl

/-- Of the loader, sampling the contacts rewrites the filter of STOP alone. -/
theorem State.sampleContacts_sld (s : State) :
    s.sampleContacts.sld = { s.sld with stopFilter := s.sampleContacts.sld.stopFilter } := rfl

/-- The records of an interval that ends at time `t`, the inputs and the lines taken in and no timer
counted. -/
def State.sampledAt (s : State) (t : Nat) : State :=
  let s := { s with ticks := t }.sampleSensors.receiveLines
  if contactInstant t then s.sampleContacts else s

@[simp] theorem State.sampledAt_keeps (s : State) (t : Nat) :
    (s.sampledAt t).ticks = t ∧ (s.sampledAt t).pins = { s.pins with lineA := [], lineB := [] } ∧
    (s.sampledAt t).config = s.config ∧ (s.sampledAt t).fsu.lamps = s.fsu.lamps ∧
    (s.sampledAt t).fsu.drives = s.fsu.drives ∧ (s.sampledAt t).fsu.onHalf = s.fsu.onHalf ∧
    (s.sampledAt t).acu = s.acu ∧ (s.sampledAt t).pcu = s.pcu ∧ (s.sampledAt t).lku = s.lku ∧
    (s.sampledAt t).asu = s.asu ∧ (s.sampledAt t).rtp = s.rtp ∧
    (s.sampledAt t).slu = s.receiveLines.slu ∧ (s.sampledAt t).hou = s.hou ∧
    (s.sampledAt t).cmu = s.cmu := by
  simp only [State.sampledAt]
  split <;> simp [State.line, State.heard]

theorem State.sampledAt_sld (s : State) (t : Nat) :
    (s.sampledAt t).sld = { s.sld with stopFilter := (s.sampledAt t).sld.stopFilter } := by
  simp only [State.sampledAt]
  split <;> rfl

/-! ## The 100 ms base -/

/-- A timer of the base after an interval: counted where the interval ends a base step. -/
def Timer.tickIf (ends : Bool) (x : Timer) : Timer := if ends then x.tick else x

/-- The three timers of a lamp counted as `Timer.tickIf` counts one. -/
def LampRec.tickIf (ends : Bool) (r : LampRec) : LampRec :=
  { r with
    failureTimer := r.failureTimer.tickIf ends
    strayTimer := r.strayTimer.tickIf ends
    strayClearTimer := r.strayClearTimer.tickIf ends }

/-- A line health timer counted as `Timer.tickIf` counts a timer. -/
def LineHealth.tickIf (ends : Bool) (x : LineHealth) : LineHealth := if ends then x.tick else x

@[simp] theorem Timer.tickIf_false (x : Timer) : x.tickIf false = x := rfl
@[simp] theorem LampRec.tickIf_false (r : LampRec) : r.tickIf false = r := rfl
@[simp] theorem LineHealth.tickIf_false (x : LineHealth) : x.tickIf false = x := rfl

/-- A table rewritten by a function that changes no entry. -/
theorem mapTab_eq_self {α : Type} {n : Nat} (f : Fin n → α → α) (v : Vector α n)
    (h : ∀ i x, f i x = x) : mapTab f v = v := by
  ext i hi
  simp [h]

/-- The records after an interval: the timers of the base counted where it ends a base step. -/
def State.tickBaseIf (ends : Bool) (s : State) : State := if ends then s.tickBase else s

section
variable (ends : Bool) (s : State)

@[simp] theorem State.tickBaseIf_keeps :
    (s.tickBaseIf ends).ticks = s.ticks ∧ (s.tickBaseIf ends).pins = s.pins ∧
    (s.tickBaseIf ends).config = s.config ∧ (s.tickBaseIf ends).fsu = s.fsu := by
  cases ends <;> (and_intros <;> rfl)

@[simp] theorem State.tickBaseIf_acu : (s.tickBaseIf ends).acu = { s.acu with
    heads := mapTab (fun _ r => { r with rest := r.rest.tickIf ends }) s.acu.heads } := by
  cases ends
  · simp [State.tickBaseIf, mapTab_eq_self]
  · rfl

@[simp] theorem State.tickBaseIf_pcu : (s.tickBaseIf ends).pcu = { s.pcu with
    points := mapTab (fun _ r => { r with
      move := r.move.tickIf ends, settle := r.settle.tickIf ends }) s.pcu.points } := by
  cases ends
  · simp [State.tickBaseIf, mapTab_eq_self]
  · rfl

@[simp] theorem State.tickBaseIf_lku : (s.tickBaseIf ends).lku = { s.lku with
    routes := mapTab (fun _ r => { r with setting := r.setting.tickIf ends }) s.lku.routes } := by
  cases ends
  · simp [State.tickBaseIf, mapTab_eq_self]
  · rfl

@[simp] theorem State.tickBaseIf_asu : (s.tickBaseIf ends).asu = { s.asu with
    signals := mapTab (fun _ r => { r with
      red := r.red.tickIf ends
      yellow := r.yellow.tickIf ends
      green := r.green.tickIf ends }) s.asu.signals } := by
  cases ends
  · simp [State.tickBaseIf, mapTab_eq_self]
  · rfl

@[simp] theorem State.tickBaseIf_rtp : (s.tickBaseIf ends).rtp = { s.rtp with
    timers := mapTab (fun _ x => x.map fun x => { x with time := x.time.tickIf ends })
      s.rtp.timers } := by
  cases ends
  · simp [State.tickBaseIf, mapTab_eq_self]
  · rfl

@[simp] theorem State.tickBaseIf_slu : (s.tickBaseIf ends).slu = { s.slu with
    lineA := { s.slu.lineA with health := s.slu.lineA.health.tickIf ends }
    lineB := { s.slu.lineB with health := s.slu.lineB.health.tickIf ends }
    panelSilence := mapTab (fun _ x => x.tickIf ends) s.slu.panelSilence } := by
  cases ends
  · simp [State.tickBaseIf, mapTab_eq_self]
  · rfl

@[simp] theorem State.tickBaseIf_hou : (s.tickBaseIf ends).hou = { s.hou with
    neighbours := mapTab (fun _ r => { r with silence := r.silence.tickIf ends }) s.hou.neighbours
    offers := mapTab (fun _ o => o.map fun o => { o with reply := o.reply.tickIf ends })
      s.hou.offers } := by
  cases ends
  · simp [State.tickBaseIf, mapTab_eq_self]
  · rfl

@[simp] theorem State.tickBaseIf_cmu : (s.tickBaseIf ends).cmu = { s.cmu with
    pendingReset :=
      s.cmu.pendingReset.map fun r => { r with window := r.window.tickIf ends } } := by
  cases ends
  · simp [State.tickBaseIf]
  · rfl

@[simp] theorem State.tickBaseIf_sld :
    (s.tickBaseIf ends).sld = { s.sld with quiet := s.sld.quiet.tickIf ends } := by
  cases ends <;> rfl

end

/-! ## The station's own time -/

@[simp] theorem State.tickOwn_keeps (s : State) :
    s.tickOwn.ticks = s.ticks ∧ s.tickOwn.pins = s.pins ∧ s.tickOwn.config = s.config ∧
    s.tickOwn.fsu = s.fsu ∧ s.tickOwn.acu = s.acu ∧ s.tickOwn.pcu = s.pcu ∧
    s.tickOwn.lku = s.lku ∧ s.tickOwn.asu = s.asu ∧ s.tickOwn.rtp = s.rtp := by
  and_intros <;> rfl

@[simp] theorem State.tickOwn_slu (s : State) : s.tickOwn.slu = { s.slu with
    classOne := s.slu.classOne.map TxItem.tick
    statusSlot := s.slu.statusSlot.map TxItem.tick
    displayZero := s.slu.displayZero.map TxItem.tick
    displayOne := s.slu.displayOne.map TxItem.tick } := rfl

@[simp] theorem State.tickOwn_hou (s : State) : s.tickOwn.hou = { s.hou with
    statusPeriod := s.hou.statusPeriod.tick
    statusPacing := s.hou.statusPacing.tick } := rfl

@[simp] theorem State.tickOwn_cmu (s : State) : s.tickOwn.cmu = { s.cmu with
    displayPeriod := s.cmu.displayPeriod.tick
    pageZero := { s.cmu.pageZero with pacing := s.cmu.pageZero.pacing.tick }
    pageOne := { s.cmu.pageOne with pacing := s.cmu.pageOne.pacing.tick } } := rfl

@[simp] theorem State.tickOwn_sld (s : State) :
    s.tickOwn.sld = { s.sld with reading := s.sld.reading.tick } := rfl

/-! ## The interval as a whole -/

/-- An interval: the inputs and the lines taken in, the base counted where a step of it ends, the
station's own time counted, and the queue filled. -/
theorem State.tick_eq (s : State) : s.tick =
    { ((s.sampledAt (s.ticks + 1)).tickBaseIf (baseInstant (s.ticks + 1))).tickOwn with
      pending := s.tickEvents (s.ticks + 1) } := rfl

/-- Whether the interval that passes next ends a base step. -/
def State.endsBase (s : State) : Bool := baseInstant (s.ticks + 1)

section
variable (s : State)

theorem State.tick_keeps : s.tick.ticks = s.ticks + 1 ∧
    s.tick.pins = { s.pins with lineA := [], lineB := [] } ∧ s.tick.config = s.config ∧
    s.tick.fsu.lamps = s.fsu.lamps ∧ s.tick.fsu.drives = s.fsu.drives ∧
    s.tick.fsu.onHalf = s.fsu.onHalf := by
  simp [State.tick_eq]

theorem State.tick_acu : s.tick.acu = { s.acu with
    heads := mapTab (fun _ r => { r with rest := r.rest.tickIf s.endsBase }) s.acu.heads } := by
  simp [State.tick_eq, State.endsBase]

theorem State.tick_pcu : s.tick.pcu = { s.pcu with
    points := mapTab (fun _ r => { r with
      move := r.move.tickIf s.endsBase, settle := r.settle.tickIf s.endsBase }) s.pcu.points } := by
  simp [State.tick_eq, State.endsBase]

theorem State.tick_lku : s.tick.lku = { s.lku with
    routes := mapTab (fun _ r => { r with setting := r.setting.tickIf s.endsBase })
      s.lku.routes } := by
  simp [State.tick_eq, State.endsBase]

theorem State.tick_asu : s.tick.asu = { s.asu with
    signals := mapTab (fun _ r => { r with
      red := r.red.tickIf s.endsBase
      yellow := r.yellow.tickIf s.endsBase
      green := r.green.tickIf s.endsBase }) s.asu.signals } := by
  simp [State.tick_eq, State.endsBase]

theorem State.tick_rtp : s.tick.rtp = { s.rtp with
    timers := mapTab (fun _ x => x.map fun x => { x with time := x.time.tickIf s.endsBase })
      s.rtp.timers } := by
  simp [State.tick_eq, State.endsBase]

theorem State.tick_slu : s.tick.slu = { s.slu with
    classOne := s.slu.classOne.map TxItem.tick
    statusSlot := s.slu.statusSlot.map TxItem.tick
    displayZero := s.slu.displayZero.map TxItem.tick
    displayOne := s.slu.displayOne.map TxItem.tick
    lineA := { s.slu.lineA with
      health := s.slu.lineA.health.tickIf s.endsBase
      receiver := ((s.line .a).receiver.run (s.heard .a)).1 }
    lineB := { s.slu.lineB with
      health := s.slu.lineB.health.tickIf s.endsBase
      receiver := ((s.line .b).receiver.run (s.heard .b)).1 }
    panelSilence := mapTab (fun _ x => x.tickIf s.endsBase) s.slu.panelSilence } := by
  simp [State.tick_eq, State.endsBase]

theorem State.tick_hou : s.tick.hou = { s.hou with
    neighbours := mapTab (fun _ r => { r with silence := r.silence.tickIf s.endsBase })
      s.hou.neighbours
    offers := mapTab (fun _ o => o.map fun o => { o with reply := o.reply.tickIf s.endsBase })
      s.hou.offers
    statusPeriod := s.hou.statusPeriod.tick
    statusPacing := s.hou.statusPacing.tick } := by
  simp [State.tick_eq, State.endsBase]

theorem State.tick_cmu : s.tick.cmu = { s.cmu with
    pendingReset :=
      s.cmu.pendingReset.map fun r => { r with window := r.window.tickIf s.endsBase }
    displayPeriod := s.cmu.displayPeriod.tick
    pageZero := { s.cmu.pageZero with pacing := s.cmu.pageZero.pacing.tick }
    pageOne := { s.cmu.pageOne with pacing := s.cmu.pageOne.pacing.tick } } := by
  simp [State.tick_eq, State.endsBase]

/-- The filter of STOP is what `State.sampleContacts` makes of it. -/
theorem State.tick_sld : s.tick.sld = { s.sld with
    quiet := s.sld.quiet.tickIf s.endsBase
    reading := s.sld.reading.tick
    stopFilter := s.tick.sld.stopFilter } := by
  have sampled := s.sampledAt_sld (s.ticks + 1)
  simp only [State.tick_eq, State.tickOwn_sld, State.tickBaseIf_sld, State.endsBase]
  rw [sampled]

theorem State.tick_lampRec (g : Fin 16) (l : Lamp) :
    s.tick.lampRec g l = (s.lampRec g l).tickIf s.endsBase := by
  cases l <;> simp [State.lampRec, SignalRec.lamp, State.tick_asu]

theorem State.tick_line (l : Line) : s.tick.line l = { s.line l with
    health := (s.line l).health.tickIf s.endsBase
    receiver := ((s.line l).receiver.run (s.heard l)).1 } := by
  cases l <;> simp [State.line, State.tick_slu]

theorem State.tick_pageTimes (page : Page) : s.tick.pageTimes page =
    { s.pageTimes page with pacing := (s.pageTimes page).pacing.tick } := by
  cases page <;> simp [State.pageTimes, State.tick_cmu]

end

/-- Settles O2: each unit after the interval by its own equation, a table of timers entry by entry.
-/
theorem emptyQueueLetsTimePass : Obligations.EmptyQueueLetsTimePass := by
  intro s idle count aged
  obtain ⟨ticks, pins, config, lamps, drives, onHalf⟩ := s.tick_keeps
  have heads (h : Fin 24) : s.tick.acu.heads[h] = { s.acu.heads[h] with
      rest := (s.acu.heads[h]).rest.tickIf s.endsBase } := by simp [s.tick_acu]
  have points (p : Fin 16) : s.tick.pcu.points[p] = { s.pcu.points[p] with
      move := (s.pcu.points[p]).move.tickIf s.endsBase
      settle := (s.pcu.points[p]).settle.tickIf s.endsBase } := by simp [s.tick_pcu]
  have routes (r : Fin 64) : s.tick.lku.routes[r] = { s.lku.routes[r] with
      setting := (s.lku.routes[r]).setting.tickIf s.endsBase } := by simp [s.tick_lku]
  have aspects (g : Fin 16) : (s.tick.asu.signals[g]).presented = (s.asu.signals[g]).presented ∧
      (s.tick.asu.signals[g]).kept = (s.asu.signals[g]).kept := by simp [s.tick_asu]
  have poolTimers (k : Fin 16) : s.tick.rtp.timers[k] = (s.rtp.timers[k]).map fun x =>
      { x with time := x.time.tickIf s.endsBase } := by simp [s.tick_rtp]
  have neighbours (n : Fin 4) : s.tick.hou.neighbours[n] = { s.hou.neighbours[n] with
      silence := (s.hou.neighbours[n]).silence.tickIf s.endsBase } := by simp [s.tick_hou]
  have offers (k : Fin 8) : s.tick.hou.offers[k] = (s.hou.offers[k]).map fun o =>
      { o with reply := o.reply.tickIf s.endsBase } := by simp [s.tick_hou]
  have silence (q : Fin 2) : s.tick.slu.panelSilence[q] =
      s.slu.panelSilence[q].tickIf s.endsBase := by simp [s.tick_slu]
  have lines (l : Line) : (s.tick.line l).attempt = (s.line l).attempt ∧
      (s.tick.line l).health = (s.line l).health.tickIf s.endsBase := by simp [s.tick_line]
  refine ⟨s.tick, step_of_empty_queue idle, ticks, pins, config, ?sections, ?baselines, heads,
    points, ?lockSections, ?lockPoints, ?lockSignals, routes, aspects, s.tick_lampRec, ?poolQueue,
    poolTimers, neighbours, offers, ?lastId, ?portions, ?grants, ?period, ?pacing, ?change,
    ?counter, ?placings, ?classOne, ?status, ?pageZero, ?pageOne, ?windows, ?panelWindows, silence,
    lines, ?queue, ?faults, ?reset, ?displayPeriod, s.tick_pageTimes, lamps, drives, onHalf,
    s.tick_sld⟩
  case sections | baselines => rw [s.tick_acu]
  case lockSections | lockPoints | lockSignals => rw [s.tick_lku]
  case poolQueue => rw [s.tick_rtp]
  case lastId | portions | grants | period | pacing | change => rw [s.tick_hou]
  case counter | placings | windows | panelWindows => rw [s.tick_slu]
  case classOne | status | pageZero | pageOne => rw [s.tick_slu]; rfl
  case queue | faults | displayPeriod => rw [s.tick_cmu]
  case reset => rw [s.tick_cmu]; rfl

end Sys2Proof.Machine
end

section
/-! The queue after an interval, said once: the condition that brings each row about, the one part
of the interval it can come from, and the code of each row that takes a queued command. -/

namespace Sys2Proof.Machine

open Sys2Proof

/-! ## Where the rows of an interval come from -/

/-- The part of an interval that brings a row about. -/
inductive Origin where
  | sampling
  | base
  | own
  | line
  | waiting

/-- The part of an interval that a row can come from; none for reset and for the rows of an attempt,
which are the surroundings'. -/
def originOf : Instr → Option Origin
  | .headObservation _ _ _ | .detectionObservation _ _ _ | .provingEdge _ _ _ | .stop _
  | .flashBoundary => some .sampling
  | .quietTimerExpiry | .restTimerExpiry _ | .settleTimerExpiry _ | .moveTimerExpiry _
  | .failureTimerExpiry _ _ | .strayTimerExpiry _ _ | .strayClearTimerExpiry _ _
  | .settingTimerExpiry _ | .poolTimerExpiry _ | .resetWindowExpiry | .silenceTimerExpiry _
  | .replyTimerExpiry _ | .panelSilenceTimerExpiry _ | .lineHealthTimerExpiry _ => some .base
  | .configReadEnd _ | .configReadTimeout _ | .statusPacingEnd | .statusPeriodExpiry
  | .displayPacingEnd _ | .displayPeriodExpiry | .transmitGiveUp _ _ => some .own
  | .command _ | .status _ | .portionRequest _ | .portionGrant _ | .portionRefuse _
  | .portionRelease _ | .flankRequest _ | .flankGrant _ | .flankRefuse _ | .flankRelease _
  | .sectionReset _ | .discardedTelegram _ _ => some .line
  | .sectionNotice _ | .pointNotice _ | .setRoute | .cancelRoute | .movePoint | .block
  | .resetSection | .confirmReset | .clearNeighbourBlock | .clearFault | .unknownCommand =>
    some .waiting
  | .reset | .transmitAttempt _ _ | .telegramSent _ _ | .attemptFailed _ _ => none

/-- What makes an expiry of the 100 ms base due (R1). -/
def State.baseDue (s : State) : Instr → Prop
  | .quietTimerExpiry => s.sld.quiet.due = true
  | .restTimerExpiry h => (s.acu.heads[h]).rest.due = true
  | .settleTimerExpiry p => (s.pcu.points[p]).settle.due = true
  | .moveTimerExpiry p => (s.pcu.points[p]).move.due = true
  | .failureTimerExpiry g l => (s.lampRec g l).failureTimer.due = true
  | .strayTimerExpiry g l => (s.lampRec g l).strayTimer.due = true
  | .strayClearTimerExpiry g l => (s.lampRec g l).strayClearTimer.due = true
  | .settingTimerExpiry r => (s.lku.routes[r]).setting.due = true
  | .poolTimerExpiry k => ∃ x, s.rtp.timers[k] = some x ∧ x.time.due = true
  | .resetWindowExpiry => ∃ x, s.cmu.pendingReset = some x ∧ x.window.due = true
  | .silenceTimerExpiry n => (s.hou.neighbours[n]).silence.due = true
  | .replyTimerExpiry k => ∃ o, s.hou.offers[k] = some o ∧ o.reply.due = true
  | .panelSilenceTimerExpiry q => (s.slu.panelSilence[q]).due = true
  | .lineHealthTimerExpiry l => (s.line l).health.due = true
  | _ => False

/-- What makes a row of the station's own time due (R136, R146, R165, R166). -/
def State.ownDue (s : State) : Instr → Prop
  | .configReadEnd bytes => (s.sld.station = .config ∧ s.sld.check = .reading ∧
      checkRead s.pins.delivered = true) ∧ bytes = s.pins.delivered
  | .configReadTimeout bytes => ¬(s.sld.station = .config ∧ s.sld.check = .reading ∧
      checkRead s.pins.delivered = true) ∧ s.sld.reading.due = true ∧ bytes = s.pins.delivered
  | .statusPacingEnd => s.hou.statusPacing.due = true
  | .statusPeriodExpiry => s.hou.statusPeriod.due = true
  | .displayPacingEnd page => (s.pageTimes page).pacing.due = true
  | .displayPeriodExpiry => s.cmu.displayPeriod.due = true
  | .transmitGiveUp l seq => ∃ i, i ∈ s.slu.waiting ∧ i.telegram.seq = seq ∧ i.life.due = true ∧
      (i.on l).finished = false ∧ (i.on l).late = false
  | _ => False

/-- What makes a row of the work inside the part stand in RUN (R88, R90, R160). -/
def State.waitingDue (s : State) : Instr → Prop
  | .sectionNotice k => (s.acu.sections[k]).chg = true ∧ (s.config.sections[k]).isSome = true
  | .pointNotice p => (s.pcu.points[p]).chg = true ∧ (s.config.points[p]).isSome = true
  | i => ∃ c rest, s.cmu.queue = c :: rest ∧ rowOf c.code = i

@[simp] theorem mem_dueOf {n : Nat} (due : Fin n → Bool) (event : Fin n → Instr) (i : Instr) :
    i ∈ dueOf due event ↔ ∃ k, due k = true ∧ event k = i := by
  simp [dueOf]

@[simp] theorem mem_allLamps (q : Fin 16 × Lamp) : q ∈ allLamps := by
  obtain ⟨g, l⟩ := q
  cases l <;> simp [allLamps, lampList]

theorem State.mem_baseEvents (s : State) (i : Instr) : i ∈ s.baseEvents ↔ s.baseDue i := by
  simp only [State.baseEvents, List.mem_append, List.mem_ite_nil_right, List.mem_singleton,
    List.mem_map, List.mem_filter, mem_dueOf, mem_allLamps, true_and, Prod.exists,
    Option.any_eq_true]
  cases i
  case lineHealthTimerExpiry l => cases l <;> simp [State.baseDue, State.line]
  all_goals simp [State.baseDue]

theorem State.mem_giveUps (s : State) (l : Line) (i : Instr) : i ∈ s.giveUps l ↔
    ∃ x ∈ s.slu.waiting, .transmitGiveUp l x.telegram.seq = i ∧ x.life.due = true ∧
      (x.on l).finished = false ∧ (x.on l).late = false := by
  simp only [State.giveUps, TxItem.dueOn, List.mem_map, List.mem_filter, Bool.and_eq_true,
    Bool.not_eq_true']
  grind

theorem State.readingEnds_iff (s : State) : s.readingEnds = true ↔
    s.sld.station = .config ∧ s.sld.check = .reading ∧ checkRead s.pins.delivered = true := by
  simp [State.readingEnds, and_assoc]

/-- The row that ends the reading of the image: its end, and its limit while it has not ended. -/
theorem mem_readingRows (ended due : Bool) (i j k : Instr) :
    (i ∈ if ended = true then [j] else if due = true then [k] else []) ↔
      (ended = true ∧ i = j) ∨ (¬ended = true ∧ due = true ∧ i = k) := by
  cases ended <;> simp

theorem State.mem_ownEvents (s : State) (i : Instr) : i ∈ s.ownEvents ↔ s.ownDue i := by
  have reading := mem_readingRows s.readingEnds s.sld.reading.due i
    (.configReadEnd s.pins.delivered) (.configReadTimeout s.pins.delivered)
  simp only [State.ownEvents, List.mem_append, List.mem_ite_nil_right, List.mem_singleton,
    State.mem_giveUps, reading]
  rw [s.readingEnds_iff]
  clear reading
  cases i
  case displayPacingEnd page => cases page <;> simp [State.ownDue, State.pageTimes]
  case transmitGiveUp l seq => cases l <;> simp [State.ownDue]
  all_goals simp [State.ownDue]

/-! ## The row of a queued command (R160, R161) -/

/-- The codes of R161 with the rows that take their commands. -/
def commandRows : List (Byte × Instr) :=
  [(cmdSetRoute, .setRoute), (cmdCancelRoute, .cancelRoute), (cmdMovePoint, .movePoint),
    (cmdBlock, .block), (cmdResetSection, .resetSection), (cmdConfirmReset, .confirmReset),
    (cmdClearNeighbourBlock, .clearNeighbourBlock), (cmdClearFault, .clearFault)]

/-- The row of a code: one of the list, or the row of unknown commands. -/
theorem rowOf_cases (code : Byte) : (code, rowOf code) ∈ commandRows ∨
    rowOf code = .unknownCommand ∧ (code = 0 ∨ 9 ≤ code.toNat) := by
  unfold rowOf
  split
  case h_9 h1 h2 h3 h4 h5 h6 h7 h8 =>
    have range : code.toNat = 0 ∨ 9 ≤ code.toNat := by grind
    exact .inr ⟨rfl, range.imp_left fun zero => BitVec.eq_of_toNat_eq zero⟩
  all_goals
    next h =>
      have number : BitVec.ofNat 8 code.toNat = code := by simp
      rw [h] at number
      rw [← number]
      decide

theorem rowOf_eq_iff (code : Byte) {q : Byte × Instr} (h : q ∈ commandRows) :
    rowOf code = q.2 ↔ code = q.1 := by
  have rows : ∀ p ∈ commandRows, rowOf p.1 = p.2 ∧ p.2 ≠ .unknownCommand ∧
      ∀ r ∈ commandRows, p.2 = r.2 → p.1 = r.1 := by decide
  constructor
  · intro e
    rcases rowOf_cases code with known | ⟨unknown, -⟩
    · exact (rows _ known).2.2 q h e
    · exact absurd (e.symm.trans unknown) (rows q h).2.1
  · rintro rfl
    exact (rows q h).1

theorem rowOf_eq_unknownCommand_iff (code : Byte) :
    rowOf code = .unknownCommand ↔ code = 0 ∨ 9 ≤ code.toNat := by
  have rows : ∀ p ∈ commandRows, p.2 ≠ .unknownCommand ∧ ¬(p.1 = 0 ∨ 9 ≤ p.1.toNat) := by decide
  rcases rowOf_cases code with known | ⟨unknown, range⟩
  · exact iff_of_false (rows _ known).1 (rows _ known).2
  · exact iff_of_true unknown range

theorem originOf_rowOf (code : Byte) : originOf (rowOf code) = some .waiting := by
  unfold rowOf
  split <;> rfl

theorem rowOf_ne_notice (code : Byte) :
    (∀ k, rowOf code ≠ .sectionNotice k) ∧ ∀ p, rowOf code ≠ .pointNotice p := by
  unfold rowOf
  split <;> simp

theorem State.mem_waitingEvents (s : State) (i : Instr) :
    i ∈ s.waitingEvents ↔ s.sld.station = .run ∧ s.waitingDue i := by
  have command : i ∈ (s.cmu.queue.head?.map fun c => rowOf c.code).toList ↔
      ∃ c rest, s.cmu.queue = c :: rest ∧ rowOf c.code = i := by
    cases s.cmu.queue <;> simp [eq_comm]
  simp only [State.waitingEvents, List.mem_ite_nil_right, List.mem_append, mem_dueOf, command]
  refine and_congr_right fun _ => ?_
  cases i
  case sectionNotice | pointNotice => simp [State.waitingDue, rowOf_ne_notice]
  all_goals simp [State.waitingDue]

/-! ## Each row comes from one part of the interval -/

theorem State.originOf_of_baseDue {s : State} {i : Instr} (h : s.baseDue i) :
    originOf i = some .base := by
  unfold State.baseDue at h
  split at h
  case h_15 => exact h.elim
  all_goals rfl

theorem State.originOf_of_ownDue {s : State} {i : Instr} (h : s.ownDue i) :
    originOf i = some .own := by
  unfold State.ownDue at h
  split at h
  case h_8 => exact h.elim
  all_goals rfl

theorem State.originOf_of_waitingDue {s : State} {i : Instr} (h : s.waitingDue i) :
    originOf i = some .waiting := by
  cases i
  case sectionNotice | pointNotice => rfl
  all_goals
    obtain ⟨c, rest, -, e⟩ := h
    exact e ▸ originOf_rowOf c.code

theorem originOf_rowOfTelegram (kind : Byte) (f : Frame) :
    originOf (rowOfTelegram kind f) = some .line := by
  unfold rowOfTelegram
  split <;> rfl

theorem State.originOf_of_mem_lineEvents {s : State} {l : Line} {i : Instr}
    (h : i ∈ s.lineEvents l) : originOf i = some .line := by
  simp only [State.lineEvents, List.mem_filterMap, Option.map_eq_some_iff] at h
  obtain ⟨bytes, -, q, -, rfl⟩ := h
  exact originOf_rowOfTelegram q.1 q.2

/-- The rows of the sampling instants and of the flash phase at time `t`. -/
def State.samplingEvents (s : State) (t : Nat) : List Instr :=
  s.headEvents ++
    (if contactInstant t then s.pointEvents ++ (s.provingEvents ++ s.stopEvents) else []) ++
    (if flashInstant t then [.flashBoundary] else [])

theorem State.originOf_of_mem_samplingEvents {s : State} {t : Nat} {i : Instr}
    (h : i ∈ s.samplingEvents t) : originOf i = some .sampling := by
  simp only [State.samplingEvents, State.headEvents, State.pointEvents, State.provingEvents,
    State.stopEvents, List.mem_append, List.mem_ite_nil_right, List.mem_filterMap,
    Option.ite_none_right_eq_some, Option.some.injEq, List.mem_singleton] at h
  obtain (⟨_, _, _, rfl⟩ | ⟨_, ⟨_, _, _, rfl⟩ | ⟨_, _, _, rfl⟩ | ⟨_, rfl⟩⟩) | ⟨_, rfl⟩ := h <;> rfl

/-- What brings a row about in the interval that passes next, by the part it comes from. -/
def State.brings (s : State) (i : Instr) : Option Origin → Prop
  | some .sampling => i ∈ s.samplingEvents (s.ticks + 1)
  | some .base => (s.ticks + 1) % 400 = 0 ∧ s.tick.baseDue i
  | some .own => s.tick.ownDue i
  | some .line => ∃ l, i ∈ s.lineEvents l
  | some .waiting => s.sld.station = .run ∧ s.waitingDue i
  | none => False

/-- A row stands in the queue after an interval exactly where the one part of the interval that it
can come from brings it about. -/
theorem State.mem_tick_pending (s : State) (i : Instr) :
    i ∈ s.tick.pending ↔ s.brings i (originOf i) := by
  have queue : s.tick.pending = s.samplingEvents (s.ticks + 1) ++
      (if baseInstant (s.ticks + 1) then s.tick.baseEvents else []) ++ s.tick.ownEvents ++
      (s.lineEvents .a ++ s.lineEvents .b) ++ s.waitingEvents := rfl
  simp only [queue, List.mem_append, List.mem_ite_nil_right, baseInstant_iff, State.mem_baseEvents,
    State.mem_ownEvents, State.mem_waitingEvents]
  constructor
  · rintro ((((sampled | base) | own) | (a | b)) | waiting)
    · rwa [State.originOf_of_mem_samplingEvents sampled]
    · rwa [State.originOf_of_baseDue base.2]
    · rwa [State.originOf_of_ownDue own]
    · rw [State.originOf_of_mem_lineEvents a]; exact ⟨.a, a⟩
    · rw [State.originOf_of_mem_lineEvents b]; exact ⟨.b, b⟩
    · rwa [State.originOf_of_waitingDue waiting.2]
  · generalize originOf i = o
    intro h
    match o, h with
    | some .sampling, sampled => exact .inl (.inl (.inl (.inl sampled)))
    | some .base, base => exact .inl (.inl (.inl (.inr base)))
    | some .own, own => exact .inl (.inl (.inr own))
    | some .line, ⟨.a, a⟩ => exact .inl (.inr (.inl a))
    | some .line, ⟨.b, b⟩ => exact .inl (.inr (.inr b))
    | some .waiting, waiting => exact .inr waiting

/-- The row of a queued command stands where the command at the head of the queue is its own. -/
theorem State.mem_tick_pending_rowOf (s : State) {i : Instr} {code : Byte} (row : rowOf code = i) :
    i ∈ s.tick.pending ↔
      ∃ c rest, s.sld.station = .run ∧ s.cmu.queue = c :: rest ∧ rowOf c.code = i := by
  have origin : originOf i = some .waiting := row ▸ originOf_rowOf code
  have due : s.waitingDue i ↔ ∃ c rest, s.cmu.queue = c :: rest ∧ rowOf c.code = i := by
    cases i
    case sectionNotice k => exact absurd row ((rowOf_ne_notice code).1 k)
    case pointNotice p => exact absurd row ((rowOf_ne_notice code).2 p)
    all_goals rfl
  rw [s.mem_tick_pending, origin, State.brings, due]
  simp only [exists_and_left]

/-- Settles O4: every row by the part of the interval it comes from. -/
theorem clockBringsItsWorkAbout : Obligations.ClockBringsItsWorkAbout := by
  intro s idle
  refine ⟨s.tick, step_of_empty_queue idle, ?_⟩
  intro base run read brings
  have mem (i : Instr) : i ∈ s.tick.pending ↔ s.brings i (originOf i) := s.mem_tick_pending i
  have command (q : Byte × Instr) (h : q ∈ commandRows) :
      q.2 ∈ s.tick.pending ↔ ∃ c rest, Takes s q.1 c rest := by
    rw [s.mem_tick_pending_rowOf ((rowOf_eq_iff q.1 h).2 rfl)]
    simp only [Takes, rowOf_eq_iff _ h]
  have unknown : .unknownCommand ∈ s.tick.pending ↔
      ∃ c rest, Takes s c.code c rest ∧ (c.code = 0 ∨ 9 ≤ c.code.toNat) := by
    rw [s.mem_tick_pending_rowOf ((rowOf_eq_unknownCommand_iff 0).2 (.inl rfl))]
    simp only [Takes, rowOf_eq_unknownCommand_iff, and_true, and_assoc]
  exact ⟨mem .quietTimerExpiry, fun h => mem (.restTimerExpiry h),
    fun p => ⟨mem (.settleTimerExpiry p), mem (.moveTimerExpiry p)⟩,
    fun g l => ⟨mem (.failureTimerExpiry g l), mem (.strayTimerExpiry g l),
      mem (.strayClearTimerExpiry g l)⟩,
    fun r => mem (.settingTimerExpiry r), fun k => mem (.poolTimerExpiry k),
    mem .resetWindowExpiry, fun n => mem (.silenceTimerExpiry n),
    fun k => mem (.replyTimerExpiry k), fun q => mem (.panelSilenceTimerExpiry q),
    fun l => mem (.lineHealthTimerExpiry l),
    fun bytes => ⟨mem (.configReadEnd bytes), mem (.configReadTimeout bytes)⟩,
    mem .statusPacingEnd, mem .statusPeriodExpiry, fun page => mem (.displayPacingEnd page),
    mem .displayPeriodExpiry, fun l seq => mem (.transmitGiveUp l seq),
    fun k => mem (.sectionNotice k), fun p => mem (.pointNotice p), command, unknown⟩

end Sys2Proof.Machine
end

section
/-! An interval at the inputs and at the shown aspects: what sampling leaves of an input, and that
no interval changes what the shown aspects are read from. -/

namespace Sys2Proof.Machine

open Sys2Proof

/-! ## The inputs across an interval -/

/-- A sample leaves role and polarity, and the filtered value of an input with a role (log 6). -/
theorem InputRec.sampled_keeps (level : Bool) (r : InputRec) :
    (r.sampled level).role = r.role ∧ (r.sampled level).inverted = r.inverted ∧
      (r.role ≠ .unbound → (r.sampled level).filter.value = r.filter.value) := by
  unfold InputRec.sampled
  split <;> simp_all

theorem State.tick_sensors (s : State) (i : Fin 48) :
    s.tick.fsu.sensors[i] = (s.fsu.sensors[i]).sampled s.pins.sensors[i] := by
  simp only [State.tick_eq, State.tickOwn_keeps, State.tickBaseIf_keeps, State.sampledAt]
  split <;> simp [State.sampleSensors]

theorem State.tick_contacts (s : State) (i : Fin 80) :
    s.tick.fsu.contacts[i] = if contactInstant (s.ticks + 1) then
      (s.fsu.contacts[i]).sampled s.pins.contacts[i] else s.fsu.contacts[i] := by
  simp only [State.tick_eq, State.tickOwn_keeps, State.tickBaseIf_keeps, State.sampledAt]
  split <;> simp [State.sampleContacts, State.sampleSensors, State.receiveLines]


/-- The filtered value of the proving input of a lamp, input by input (R9). -/
theorem State.lit_iff (s : State) (g : Fin 16) (l : Lamp) : s.lit g l = true ↔
    ∃ i : Fin 80, (s.fsu.contacts[i]).role = .prove g l ∧
      (s.fsu.contacts[i]).filter.value = true := by
  simp only [State.lit, List.any_eq_true, Vector.mem_toList_iff, Vector.mem_iff_getElem,
    Bool.and_eq_true, beq_iff_eq]
  constructor
  · rintro ⟨_, ⟨i, hi, rfl⟩, h⟩
    exact ⟨⟨i, hi⟩, h⟩
  · rintro ⟨i, h⟩
    exact ⟨_, ⟨i, i.isLt, rfl⟩, h⟩

theorem State.tick_lit (s : State) (g : Fin 16) (l : Lamp) : s.tick.lit g l = s.lit g l := by
  have input (i : Fin 80) : ((s.tick.fsu.contacts[i]).role = .prove g l ∧
      (s.tick.fsu.contacts[i]).filter.value = true) ↔ (s.fsu.contacts[i]).role = .prove g l ∧
      (s.fsu.contacts[i]).filter.value = true := by
    obtain ⟨role, -, value⟩ := (s.fsu.contacts[i]).sampled_keeps s.pins.contacts[i]
    rw [s.tick_contacts]
    split
    · rw [role]
      exact and_congr_right fun h => by rw [value (by rw [h]; nofun)]
    · rfl
  rw [Bool.eq_iff_iff, State.lit_iff, State.lit_iff]
  exact exists_congr input

/-! ## What the shown aspects are read from -/

/-- Two states alike in all that the shown aspects are read from (R93 to R97). `ShownInputs` asks
for whole records, and an interval counts the timers in them. -/
structure AspectsAlike (s t : State) : Prop where
  config : t.config = s.config
  station : t.sld.station = s.sld.station
  locks : t.lku.signals = s.lku.signals
  routes : ∀ r : Fin 64, (t.lku.routes[r]).state = (s.lku.routes[r]).state ∧
    (t.lku.routes[r]).hold = (s.lku.routes[r]).hold ∧
    (t.lku.routes[r]).offers = (s.lku.routes[r]).offers
  sections : t.acu.sections = s.acu.sections
  detected : ∀ p : Fin 16, (t.pcu.points[p]).detected = (s.pcu.points[p]).detected
  views : ∀ n : Fin 4, t.viewOf n = s.viewOf n
  offers : t.offerStands = s.offerStands
  lit : ∀ (g : Fin 16) (l : Lamp), t.lit g l = s.lit g l
  flags : ∀ (g : Fin 16) (l : Lamp), (t.lampRec g l).failed = (s.lampRec g l).failed ∧
    (t.lampRec g l).stray = (s.lampRec g l).stray
  aspects : ∀ g : Fin 16, (t.asu.signals[g]).presented = (s.asu.signals[g]).presented ∧
    (t.asu.signals[g]).kept = (s.asu.signals[g]).kept

variable {s t : State}

theorem AspectsAlike.remoteSignal (h : AspectsAlike s t) : t.remoteSignal = s.remoteSignal := by
  funext m
  simp only [State.remoteSignal, h.config, h.views]

theorem AspectsAlike.neighbourView (h : AspectsAlike s t) : t.neighbourView = s.neighbourView := by
  funext n k
  simp only [State.neighbourView, h.config, h.views]

theorem AspectsAlike.lockedFrom (h : AspectsAlike s t) : t.lockedFrom = s.lockedFrom := by
  funext g
  simp only [State.lockedFrom, h.config, (h.routes _).1]

/-- The yellow and green lamps of a signal are sound in both states or in neither (R93, item 4). -/
theorem AspectsAlike.sound (h : AspectsAlike s t) (g : Fin 16) :
    (t.asu.signals[g]).yellow.sound = (s.asu.signals[g]).yellow.sound ∧
      (t.asu.signals[g]).green.sound = (s.asu.signals[g]).green.sound := by
  obtain ⟨yellowFailed, yellowStray⟩ := h.flags g .yellow
  obtain ⟨greenFailed, greenStray⟩ := h.flags g .green
  simp only [State.lampRec, SignalRec.lamp] at yellowFailed yellowStray greenFailed greenStray
  simp only [LampRec.sound, yellowFailed, yellowStray, greenFailed, greenStray, and_self]

theorem AspectsAlike.conditionBase (h : AspectsAlike s t) : t.conditionBase = s.conditionBase := by
  have points : t.pointsAt = s.pointsAt := by
    funext ps
    simp only [State.pointsAt, PointRec.at, h.detected]
  have reds : t.redProved = s.redProved := by
    funext g
    simp only [State.redProved, h.lit, (h.flags g .red).1]
  have exit : t.exitSound = s.exitSound := by
    funext e
    cases e <;> simp only [State.exitSound, h.remoteSignal, (h.flags _ .red).1]
  funext r c
  obtain ⟨state, hold, offers⟩ := h.routes r
  simp only [State.conditionBase, h.station, h.locks, h.config, h.offers, state, hold, offers,
    points, reds, exit, (h.sound c.entry).1, (h.sound c.entry).2]

theorem AspectsAlike.commanded (h : AspectsAlike s t) (g : Fin 16) :
    t.commanded g = s.commanded g := by
  have proves : t.provesFree = s.provesFree := by
    funext k
    simp only [State.provesFree, State.proves, h.config, h.sections, h.neighbourView]
  have callOn : t.callOnProves = s.callOnProves := by
    funext k
    simp only [State.callOnProves, h.config, h.sections, h.neighbourView]
  have caution : t.cautionCondition = s.cautionCondition := by
    funext r c
    simp only [State.cautionCondition, h.conditionBase, proves, (h.routes r).2.1]
  have exit : t.exitPart = s.exitPart := by
    funext e
    cases e <;> simp only [State.exitPart, h.lockedFrom, caution, h.remoteSignal]
  have callOnly : t.callOnCondition = s.callOnCondition := by
    funext r c
    simp only [State.callOnCondition, h.conditionBase, callOn]
  unfold State.commanded
  rw [h.lockedFrom, caution, callOnly, exit]

theorem AspectsAlike.shown (h : AspectsAlike s t) (g : Fin 16) : t.shown g = s.shown g := by
  simp only [State.shown, h.commanded, (h.aspects g).1, (h.aspects g).2]

theorem AspectsAlike.shownKept (h : AspectsAlike s t) (k : s.ShownKept) : t.ShownKept := fun g => by
  rw [(h.aspects g).2, h.shown, k g]

/-- The outputs stand at their levels still, where levels, controllers and the half of the flash
phase are alike as well. -/
theorem AspectsAlike.outputsFollow (h : AspectsAlike s t) (lamps : t.fsu.lamps = s.fsu.lamps)
    (drives : t.fsu.drives = s.fsu.drives) (half : t.fsu.onHalf = s.fsu.onHalf)
    (controller : ∀ p : Fin 16, (t.pcu.points[p]).controller = (s.pcu.points[p]).controller)
    (k : s.OutputsFollow) : t.OutputsFollow := by
  have right (o : OutputRec) : t.outputRight o ↔ s.outputRight o := by
    unfold State.outputRight
    cases o.role <;> simp only [h.station, h.shown, half, controller]
  simpa only [State.OutputsFollow, right, lamps, drives] using k

/-! ## An interval -/

theorem AspectsAlike.tick (s : State) : AspectsAlike s s.tick := by
  have view (n : Fin 4) : s.tick.viewOf n = s.viewOf n := by
    simp [State.viewOf, State.tick_hou]
  have own : s.tick.isOwn = s.isOwn := by
    funext a
    rw [State.isOwn, State.isOwn, State.tick_sld]
  have proven (o : Offer) (x : Timer) :
      s.tick.offerProven { o with reply := x } = s.offerProven o := by
    simp only [State.offerProven, view, own]
  constructor
  case config => exact s.tick_keeps.2.2.1
  case station => rw [State.tick_sld]
  case locks => rw [State.tick_lku]
  case routes => simp [State.tick_lku]
  case sections => rw [State.tick_acu]
  case detected => simp [State.tick_pcu]
  case views => exact view
  case offers =>
    funext k
    simp only [State.offerStands, State.tick_hou, mapTab_get]
    cases s.hou.offers[k] with
    | none => rfl
    | some o => exact congrArg (o.state == .granted && ·) (proven o _)
  case lit => exact s.tick_lit
  case flags => simp [State.tick_lampRec, LampRec.tickIf]
  case aspects => simp [State.tick_asu]

theorem State.tick_outputsFollow (h : s.OutputsFollow) : s.tick.OutputsFollow := by
  obtain ⟨-, -, -, lamps, drives, half⟩ := s.tick_keeps
  exact (AspectsAlike.tick s).outputsFollow lamps drives half (by simp [State.tick_pcu]) h

end Sys2Proof.Machine
end

section
/-! The commands by how their events end: with the rest of an event after an own effect, or, for a
few named rows, without one; and the levels of the outputs with the shown aspects across each. -/

namespace Sys2Proof.Machine

open Sys2Proof

/-! ## The own effect of a command -/

/-- The own effect of a telegram row: what the receiver's checks record, and the delivery of what
they accept. -/
def State.collected (s : State) (kind : Byte) (f : Frame) : State :=
  match receive kind f s with
  | .discarded t => t
  | .accepted t src p => deliver f.seq src p t

theorem State.collect_eq (s : State) (kind : Byte) (f : Frame) :
    s.collect kind f = s.finish (s.collected kind f) := by
  unfold State.collect State.collected
  cases receive kind f s <;> rfl

/-- The own effect of a command, for the rows whose event goes on with `State.finish`. RESET, the
entry to RUN, the periods and pacings and the attempts have no such rest. -/
def State.effect (s : State) : Instr → Option State
  | .configReadEnd delivered => s.configReadEnd delivered
  | .configReadTimeout delivered => s.configReadTimeout delivered
  | .stop delivered => s.stop delivered
  | .headObservation h a b => s.headObservation h a b
  | .restTimerExpiry h => s.restExpiry h
  | .detectionObservation p n r => s.detectionObservation p n r
  | .provingEdge g l lit => s.observeProving g l lit
  | .flashBoundary => s.flashBoundary
  | .failureTimerExpiry g l => s.failureExpiry g l
  | .strayTimerExpiry g l => s.strayExpiry g l
  | .strayClearTimerExpiry g l => s.strayClearExpiry g l
  | .settleTimerExpiry p => s.settleExpiry p
  | .moveTimerExpiry p => s.moveExpiry p
  | .sectionNotice k => s.sectionNotice k
  | .pointNotice p => s.pointNotice p
  | .settingTimerExpiry r => s.settingExpiry r
  | .poolTimerExpiry k => s.poolExpiry k
  | .command f => s.collected kindCommand f
  | .setRoute => s.runCommand (· == cmdSetRoute) workSetRoute
  | .cancelRoute => s.runCommand (· == cmdCancelRoute) workCancelRoute
  | .movePoint => s.runCommand (· == cmdMovePoint) workMovePoint
  | .block => s.runCommand (· == cmdBlock) workBlock
  | .resetSection => s.runCommand (· == cmdResetSection) workResetSection
  | .confirmReset => s.runCommand (· == cmdConfirmReset) workConfirmReset
  | .clearNeighbourBlock => s.runCommand (· == cmdClearNeighbourBlock) workClearNeighbourBlock
  | .clearFault => s.runCommand (· == cmdClearFault) workClearFault
  | .unknownCommand => s.runCommand (fun code => !knownCode code) workUnknownCommand
  | .resetWindowExpiry => s.windowExpiry
  | .status f => s.collected kindStatus f
  | .silenceTimerExpiry n => s.silenceExpiry n
  | .portionRequest f => s.collected kindPortionRequest f
  | .portionGrant f => s.collected kindPortionGrant f
  | .portionRefuse f => s.collected kindPortionRefuse f
  | .portionRelease f => s.collected kindPortionRelease f
  | .flankRequest f => s.collected kindFlankRequest f
  | .flankGrant f => s.collected kindFlankGrant f
  | .flankRefuse f => s.collected kindFlankRefuse f
  | .flankRelease f => s.collected kindFlankRelease f
  | .sectionReset f => s.collected kindSectionReset f
  | .replyTimerExpiry k => s.replyExpiry k
  | .panelSilenceTimerExpiry q => s.panelExpiry q
  | .lineHealthTimerExpiry l => s.healthExpiry l
  | .discardedTelegram kind f => s.collected kind f
  | .reset | .quietTimerExpiry | .statusPeriodExpiry | .statusPacingEnd | .displayPeriodExpiry
  | .displayPacingEnd _ | .transmitAttempt _ _ | .telegramSent _ _ | .attemptFailed _ _
  | .transmitGiveUp _ _ => none

variable {i : Instr} {s t u : State}

/-- A command with an own effect ends with the rest of its event. -/
theorem exec_of_effect (h : s.effect i = some u) : exec i s = .next (s.finish u) := by
  cases i
  case command | status | portionRequest | portionGrant | portionRefuse | portionRelease
      | flankRequest | flankGrant | flankRefuse | flankRelease | sectionReset
      | discardedTelegram =>
    cases h
    exact congrArg _ (s.collect_eq _ _)
  case reset | quietTimerExpiry | statusPeriodExpiry | statusPacingEnd | displayPeriodExpiry
      | displayPacingEnd | transmitAttempt | telegramSent | attemptFailed | transmitGiveUp =>
    nomatch h
  all_goals
    cases h
    rfl

/-- A command with an own effect ends with all that may follow it. -/
theorem exec_rest (h : s.effect i = some u) :
    ∃ t, exec i s = .next t ∧ RestOfEvent s u t :=
  ⟨_, exec_of_effect h, s.finish_rest u⟩

/-- Two states that differ at most in the lines, their telegrams and the times of STATUS and
DISPLAY. -/
structure LinesAlone (s t : State) : Prop extends SameReport s t where
  pending : t.pending = s.pending
  ticks : t.ticks = s.ticks
  pins : t.pins = s.pins

theorem LinesAlone.of_slu (s : State) (u : StationLine) : LinesAlone s { s with slu := u } :=
  ⟨⟨rfl, rfl, rfl, rfl, rfl, rfl, rfl, rfl, rfl, rfl, rfl, rfl⟩, rfl, rfl, rfl⟩

theorem LinesAlone.refl (s : State) : LinesAlone s s := .of_slu s s.slu

theorem State.beginAttempt_lines (s : State) (l : Line) (x : TxItem) :
    LinesAlone s (s.beginAttempt l x) := by
  cases l <;> exact .of_slu s _

theorem State.endAttempt_lines (s : State) (l : Line) (serial : Nat)
    (f : LineProgress → LineProgress) : LinesAlone s (s.endAttempt l serial f) := by
  cases l <;> exact .of_slu s _

theorem transmitAttempt_lines (l : Line) (idle : Nat) (s : State) :
    LinesAlone s (transmitAttempt l idle s) := by
  unfold transmitAttempt
  split
  · split
    · exact s.beginAttempt_lines l _
    · exact .refl s
  · exact .refl s

theorem telegramSent_lines (l : Line) (echo : List Byte) (s : State) :
    LinesAlone s (telegramSent l echo s) := by
  unfold telegramSent
  split
  · exact .refl s
  · split
    · exact s.endAttempt_lines l _ _
    · exact .refl s

theorem attemptFailed_lines (l : Line) (echo : List Byte) (s : State) :
    LinesAlone s (attemptFailed l echo s) := by
  unfold attemptFailed
  split
  · exact .refl s
  · split
    · exact s.endAttempt_lines l _ _
    · exact .refl s

theorem transmitGiveUp_lines (l : Line) (seq : Byte) (s : State) :
    LinesAlone s (transmitGiveUp l seq s) := by
  unfold transmitGiveUp
  split
  · exact .refl s
  · split <;> exact .of_slu s _

/-- RESET, the entry to RUN, or a command that leaves all but the lines and their times. -/
theorem exec_without_effect (h : s.effect i = none) (e : exec i s = .next t) :
    (i = .reset ∧ t = s.resetKeeping) ∨ (i = .quietTimerExpiry ∧ t = s.quietExpiry) ∨
      LinesAlone s t := by
  cases i
  case reset => cases e; exact .inl ⟨rfl, rfl⟩
  case quietTimerExpiry => cases e; exact .inr (.inl ⟨rfl, rfl⟩)
  case transmitAttempt l idle => cases e; exact .inr (.inr (transmitAttempt_lines l idle s))
  case telegramSent l echo => cases e; exact .inr (.inr (telegramSent_lines l echo s))
  case attemptFailed l echo => cases e; exact .inr (.inr (attemptFailed_lines l echo s))
  case transmitGiveUp l seq => cases e; exact .inr (.inr (transmitGiveUp_lines l seq s))
  case statusPeriodExpiry | statusPacingEnd | displayPeriodExpiry | displayPacingEnd =>
    cases e
    exact .inr (.inr ⟨by constructor <;> simp, by simp, by simp, by simp⟩)
  all_goals nomatch h

/-! ## The levels and the shown aspects -/

theorem SameReport.outputsFollow (h : SameReport s t) (k : s.OutputsFollow) : t.OutputsFollow :=
  OutputsFollow.congr h.shown h.fsu h.sld h.pcu k

theorem SameReport.shownKept (h : SameReport s t) (k : s.ShownKept) : t.ShownKept := fun g => by
  rw [h.asu, h.shown, k g]

theorem State.announce_report (s : State) : SameReport s s.announce := by
  constructor <;> simp

theorem State.quietExpiry_eq (ready : s.sld.station = .quiet ∧ s.sld.quiet.due = true) :
    s.quietExpiry = (s.settled { s with sld := s.sld.toRun }).announce := if_pos ready

theorem State.quietExpiry_idle (h : ¬(s.sld.station = .quiet ∧ s.sld.quiet.due = true)) :
    s.quietExpiry = s := if_neg h

theorem State.quietExpiry_levels (s : State) :
    (s.OutputsFollow → s.quietExpiry.OutputsFollow) ∧ (s.ShownKept → s.quietExpiry.ShownKept) := by
  by_cases ready : s.sld.station = .quiet ∧ s.sld.quiet.due = true
  · rw [State.quietExpiry_eq ready]
    have event := s.settled_consequences { s with sld := s.sld.toRun }
    exact ⟨fun _ => (State.announce_report _).outputsFollow event.outputs,
      fun _ => (State.announce_report _).shownKept event.kept⟩
  · rw [State.quietExpiry_idle ready]
    exact ⟨id, id⟩

/-- Reset leaves no output energised, each without a role, and every signal at DANGER. -/
theorem State.resetKeeping_levels (s : State) :
    s.resetKeeping.OutputsFollow ∧ s.resetKeeping.ShownKept := by
  have same : SameReport State.reset s.resetKeeping := by constructor <;> rfl
  have follow : State.reset.OutputsFollow := by
    simp [State.OutputsFollow, State.outputRight, State.reset, FieldScan.reset]
  have kept : State.reset.ShownKept := fun g => Aspect.rank_inj (by
    have least := (State.reset.shown_le g).2.2
    simp [State.reset, AspectUnit.reset, Aspect.rank] at least ⊢
    exact least.symm)
  exact ⟨same.outputsFollow follow, same.shownKept kept⟩

theorem exec_levels (e : exec i s = .next t) :
    (s.OutputsFollow → t.OutputsFollow) ∧ (s.ShownKept → t.ShownKept) := by
  cases h : s.effect i with
  | some u =>
    rw [exec_of_effect h] at e
    cases e
    exact ⟨fun _ => s.finish_follow u, fun _ => s.finish_kept u⟩
  | none =>
    obtain ⟨-, rfl⟩ | ⟨-, rfl⟩ | lines := exec_without_effect h e
    · exact ⟨fun _ => s.resetKeeping_levels.1, fun _ => s.resetKeeping_levels.2⟩
    · exact s.quietExpiry_levels
    · exact ⟨lines.outputsFollow, lines.shownKept⟩

/-- Settles O56: an interval changes nothing that levels and shown aspects are read from; a command
ends with both set anew, or changes only the lines. -/
theorem outputsStayAtTheirLevels : Obligations.OutputsStayAtTheirLevels := by
  intro s t e
  cases waiting : s.pending with
  | nil =>
    rw [step_of_empty_queue waiting] at e
    cases e
    exact ⟨State.tick_outputsFollow, (AspectsAlike.tick s).shownKept⟩
  | cons i rest =>
    rw [step, waiting] at e
    have same : SameReport s { s with pending := rest } := by constructor <;> rfl
    obtain ⟨follow, kept⟩ := exec_levels e
    exact ⟨follow ∘ same.outputsFollow, kept ∘ same.shownKept⟩

end Sys2Proof.Machine
end

section
/-! The commanded aspect by the written rules: the views, the conditions of a route and the exit
part as R93 to R96 spell them, and the flash boundary that presents it. -/

namespace Sys2Proof.Machine

open Sys2Proof

variable {s : State}

/-! ## The views -/

theorem State.viewOf_eq_some_iff (s : State) (n : Fin 4) (v : StatusContent) :
    s.viewOf n = some v ↔
      (s.hou.neighbours[n]).state = .alive ∧ (s.hou.neighbours[n]).view = some v :=
  Option.ite_none_right_eq_some

/-- The proving rule with the OCC latch clear, spelled out (R52). -/
theorem State.provesFree_iff (s : State) (k : Fin 32) : s.provesFree k = true ↔
    (s.acu.sections[k]).state = .clear ∧ (s.acu.sections[k]).occ = false ∧
      ∀ n, boundaryNeighbour s.config k = some n → s.neighbourView n k = some .clear := by
  unfold State.provesFree State.proves
  cases boundaryNeighbour s.config k <;> simp [and_assoc]
  exact fun _ => and_comm

theorem SectionState.callOnOk_iff (x : SectionState) : x.callOnOk = true ↔ x ≠ .disturbed := by
  cases x <;> decide

/-- The call-on rule, spelled out (R53). -/
theorem State.callOnProves_iff (s : State) (k : Fin 32) : s.callOnProves k = true ↔
    (s.acu.sections[k]).state ≠ .disturbed ∧
      ∀ n, boundaryNeighbour s.config k = some n →
        ∃ x, s.neighbourView n k = some x ∧ x ≠ .disturbed := by
  unfold State.callOnProves
  cases boundaryNeighbour s.config k <;> simp [SectionState.callOnOk_iff, Option.any_eq_true]

/-- The neighbour view of an offer is PROVEN, spelled out (R94). -/
theorem State.offerProven_iff (s : State) (o : Offer) : s.offerProven o = true ↔
    ∃ v, s.viewOf o.neighbour = some v ∧
      match o.kind with
      | .portion => ∃ e, (v.portions.find? fun e =>
          some e.requester == s.sld.ownAddress && e.offerId == o.id) = some e ∧
          e.info.toNat % 8 = 2
      | .flank => ∃ e, (v.grants.find? fun e =>
          some e.requester == s.sld.ownAddress && e.offerId == o.id) = some e ∧
          bit7 e.info = true := by
  unfold State.offerProven State.isOwn
  cases s.viewOf o.neighbour with
  | none => simp
  | some v => cases o.kind <;> simp [Option.any_eq_true]

/-- Item 8 of R93 for one offer reference, spelled out. -/
theorem State.offerStands_iff (s : State) (k : Fin 8) : s.offerStands k = true ↔
    ∃ o, s.hou.offers[k] = some o ∧ o.state = .granted ∧ s.offerProven o = true := by
  simp [State.offerStands, Option.any_eq_true]

/-- The entry of a remote signal in the STATUS heard last, which the view of the signal reads (R94).
-/
theorem State.remoteSignal_eq_some_iff (s : State) (m : Fin 32) (v : Aspect × Bool) :
    s.remoteSignal m = some v ↔ ∃ e : SignalEntry,
      (∃ b, s.config.boundary[m] = some b ∧ ∃ c, s.viewOf b.neighbour = some c ∧
        (c.signals.find? fun e => e.number == b.number) = some e) ∧
      v = (aspectOf e.info, bit7 e.info) := by
  simp only [State.remoteSignal, Option.bind_eq_some_iff, Option.map_eq_some_iff]
  constructor
  · rintro ⟨b, hb, c, hc, e, he, rfl⟩
    exact ⟨e, ⟨b, hb, c, hc, he⟩, rfl⟩
  · rintro ⟨e, ⟨b, hb, c, hc, he⟩, rfl⟩
    exact ⟨b, hb, c, hc, e, he, rfl⟩

theorem aspectOf_rank (b : Byte) : 2 ≤ (aspectOf b).rank ↔ b.toNat % 4 = 2 ∨ b.toNat % 4 = 3 := by
  have range : b.toNat % 4 = 0 ∨ b.toNat % 4 = 1 ∨ b.toNat % 4 = 2 ∨ b.toNat % 4 = 3 := by omega
  rcases range with h | h | h | h <;> simp [aspectOf, h, Aspect.rank]

/-! ## The conditions of a route -/

/-- The LOCKED routes with an entry signal (R96). -/
theorem State.mem_lockedFrom (s : State) (g : Fin 16) (r : Fin 64) (c : RouteCfg) :
    (r, c) ∈ s.lockedFrom g ↔
      s.config.routes[r] = some c ∧ c.entry = g ∧ (s.lku.routes[r]).state = .locked := by
  simp only [State.lockedFrom, List.mem_filterMap, List.mem_finRange, true_and,
    Option.bind_eq_some_iff, Option.ite_none_right_eq_some, Option.some.injEq, Prod.mk.injEq]
  constructor
  · rintro ⟨_, _, hc, h, rfl, rfl⟩
    exact ⟨hc, h⟩
  · rintro ⟨hc, h⟩
    exact ⟨r, c, hc, h, rfl, rfl⟩

theorem LampRec.sound_iff (r : LampRec) : r.sound = true ↔ r.failed = false ∧ r.stray = false := by
  simp [LampRec.sound]

/-- Item 4 of R93: the lamps of a signal other than the red one are without a flag. -/
theorem State.sound_iff (s : State) (g : Fin 16) :
    (∀ l : Lamp, l ≠ .red → (s.lampRec g l).failed = false ∧ (s.lampRec g l).stray = false) ↔
      (s.asu.signals[g]).yellow.sound = true ∧ (s.asu.signals[g]).green.sound = true := by
  simp only [LampRec.sound_iff]
  constructor
  · exact fun h => ⟨h .yellow nofun, h .green nofun⟩
  · rintro ⟨yellow, green⟩ (_ | _ | _) other
    · exact absurd rfl other
    · exact yellow
    · exact green

theorem State.pointsAt_iff (s : State) (ps : List (Fin 16 × Position)) : s.pointsAt ps = true ↔
    ∀ q ∈ ps, (s.pcu.points[q.1]).detected = detectedAt q.2 := by
  simp [State.pointsAt, PointRec.at]

/-- Items 1 to 4 and 6 to 9 of R93, spelled out. -/
theorem State.conditionBase_iff (s : State) (r : Fin 64) (c : RouteCfg) :
    s.conditionBase r c = true ↔
      s.sld.station = .run ∧ (s.lku.routes[r]).state = .locked ∧
      (s.lku.signals[c.entry]).blocked = false ∧ (s.lku.signals[c.entry]).holds = 0 ∧
      (∀ l : Lamp, l ≠ .red →
        (s.lampRec c.entry l).failed = false ∧ (s.lampRec c.entry l).stray = false) ∧
      (∀ q, q ∈ c.plan.points ∨
        ((s.lku.routes[r]).hold.overlap = .held ∧ q ∈ c.plan.overlapPoints) ∨
        q ∈ flankPoints s.config (s.lku.routes[r]).hold.flank →
        (s.pcu.points[q.1]).detected = detectedAt q.2) ∧
      (∀ g ∈ flankSignals s.config (s.lku.routes[r]).hold.flank,
        s.lit g .red = true ∧ (s.lampRec g .red).failed = false) ∧
      (∀ k ∈ (s.lku.routes[r]).offers, s.offerStands k = true) ∧
      s.exitSound c.plan.exit = true := by
  have red (g : Fin 16) : s.redProved g = true ↔
      s.lit g .red = true ∧ (s.lampRec g .red).failed = false := by simp [State.redProved]
  simp only [State.conditionBase, Bool.and_eq_true, Bool.or_eq_true, beq_iff_eq, bne_iff_ne,
    Bool.not_eq_true', State.sound_iff, State.pointsAt_iff, List.all_eq_true, red]
  grind

/-- The condition by which the class of a route gives its signal an aspect beyond DANGER (R93, R95).
-/
def State.routeCondition (s : State) (r : Fin 64) (c : RouteCfg) : Bool :=
  match c.cls with
  | .main => s.cautionCondition r c
  | .callOn => s.callOnCondition r c

theorem State.routeCondition_iff (s : State) (r : Fin 64) (c : RouteCfg) :
    s.routeCondition r c = true ↔ s.conditionBase r c = true ∧
      (∀ k ∈ c.plan.path,
        if c.cls = .main then s.provesFree k = true else s.callOnProves k = true) ∧
      ((s.lku.routes[r]).hold.overlap = .held → c.cls = .main →
        ∀ k ∈ c.plan.overlap, s.provesFree k = true) := by
  unfold State.routeCondition
  cases c.cls with
  | main =>
    simp only [State.cautionCondition, Bool.and_eq_true, Bool.or_eq_true, bne_iff_ne,
      List.all_eq_true, if_true, true_implies, and_assoc, Classical.or_iff_not_imp_left, not_not]
  | callOn => simp [State.callOnCondition]

/-- The commanded aspect by the one LOCKED route from its signal (R96). -/
theorem State.commanded_of_locked {g : Fin 16} {r : Fin 64} {c : RouteCfg}
    (locked : (r, c) ∈ s.lockedFrom g) (only : ∀ x y, (x, y) ∈ s.lockedFrom g → x = r) :
    s.commanded g =
      if s.routeCondition r c then
        match c.cls with
        | .main => if s.exitPart c.plan.exit then .proceed else .caution
        | .callOn => .callOn
      else .danger := by
  have head : (s.lockedFrom g).head? = some (r, c) := by
    cases all : s.lockedFrom g with
    | nil => simp [all] at locked
    | cons q qs =>
      obtain ⟨x, y⟩ := q
      have first : (x, y) ∈ s.lockedFrom g := by simp [all]
      obtain rfl := only x y first
      have here := ((s.mem_lockedFrom g x c).1 locked).1
      rw [((s.mem_lockedFrom g x y).1 first).1] at here
      rw [List.head?_cons, Option.some.inj here]
  unfold State.commanded State.routeCondition
  rw [head]
  dsimp only
  cases c.cls <;> rfl

theorem State.commanded_of_none {g : Fin 16} (none : ∀ r c, (r, c) ∉ s.lockedFrom g) :
    s.commanded g = .danger := by
  have empty : s.lockedFrom g = [] := List.eq_nil_iff_forall_not_mem.2 fun q => none q.1 q.2
  simp [State.commanded, empty]

/-- The exit part of a MAIN route (R96). -/
theorem State.exitPart_local (s : State) (g : Fin 16) : s.exitPart (.localSignal g) = true ↔
    ∃ r c, (r, c) ∈ s.lockedFrom g ∧ c.cls = .main ∧ s.routeCondition r c = true := by
  simp only [State.exitPart, List.any_eq_true, Bool.and_eq_true, beq_iff_eq, Prod.exists]
  refine exists_congr fun r => exists_congr fun c => and_congr_right fun _ =>
    and_congr_right fun main => ?_
  rw [State.routeCondition, main]

theorem State.exitPart_remote (s : State) (m : Fin 32) : s.exitPart (.remoteSignal m) = true ↔
    ∃ v, s.remoteSignal m = some v ∧ 2 ≤ v.1.rank := by
  simp [State.exitPart, Option.any_eq_true]

/-! ## The flash boundary -/

theorem State.flashBoundary_eq (s : State) : s.flashBoundary =
    { s with fsu := { s.fsu with onHalf := !s.fsu.onHalf } }.mapSignals fun g r =>
      { r with presented := s.commanded g, kept := s.commanded g } := by
  simp [State.flashBoundary]

/-- Settles O20: the rest of the event by `State.finish_rest`; the commanded aspect by the one
LOCKED route, each item of R93 read off `State.conditionBase_iff`. -/
theorem flashBoundaryPresentsTheCommandedAspects :
    Obligations.FlashBoundaryPresentsTheCommandedAspects := by
  intro s
  refine ⟨⟨s.finish s.flashBoundary, rfl, s.flashBoundary_eq ▸ s.finish_rest _, s.finish_follow _⟩,
    ?_⟩
  intro heard proved callOn at' redLit own offerProven reported exitSound holds locked exitPart
  have heard_iff (n v) : heard n v ↔ s.viewOf n = some v := (s.viewOf_eq_some_iff n v).symm
  have offerProven_iff (o) : offerProven o ↔ s.offerProven o = true := by
    rw [s.offerProven_iff]
    exact exists_congr fun v => and_congr_left' (heard_iff _ v)
  have reported_iff (m) (f : Aspect × Bool → Prop) : (∃ v, s.remoteSignal m = some v ∧ f v) ↔
      ∃ e, reported m e ∧ f (aspectOf e.info, bit7 e.info) := by
    simp only [reported, heard_iff, s.remoteSignal_eq_some_iff]
    exact ⟨fun ⟨_, ⟨e, he, hv⟩, hf⟩ => ⟨e, he, hv ▸ hf⟩, fun ⟨e, he, hf⟩ => ⟨_, ⟨e, he, rfl⟩, hf⟩⟩
  have exitSound_iff (x) : exitSound x ↔ s.exitSound x = true := by
    cases x with
    | localSignal g => simp [exitSound, State.exitSound]
    | remoteSignal m =>
      simp only [State.exitSound, Option.any_eq_true, Bool.not_eq_true', exitSound]
      exact (reported_iff m (·.2 = false)).symm
  have holds_iff (r c) : holds r c ↔ s.routeCondition r c = true := by
    simp only [holds, proved, callOn, at', redLit, ← s.provesFree_iff, ← s.callOnProves_iff,
      s.routeCondition_iff, s.conditionBase_iff, exitSound_iff, offerProven_iff,
      s.offerStands_iff]
    tauto
  have locked_iff (g r c) : locked g r c ↔ (r, c) ∈ s.lockedFrom g := (s.mem_lockedFrom g r c).symm
  have exitPart_iff (x) : exitPart x ↔ s.exitPart x = true := by
    cases x with
    | localSignal g => simp only [exitPart, locked_iff, holds_iff, s.exitPart_local]
    | remoteSignal m =>
      simp only [exitPart, s.exitPart_remote, reported_iff m (2 ≤ ·.1.rank), aspectOf_rank]
  intro g
  simp only [locked_iff, holds_iff, exitPart_iff]
  refine ⟨State.commanded_of_none, fun r c here only => ?_⟩
  rw [State.commanded_of_locked here only]
  refine ⟨?_, ?_, ?_, ?_⟩ <;> intros <;> simp_all

end Sys2Proof.Machine
end

section
/-! The block flags of the lock table: holders, claims and holds change in many events, the flags in
BLOCK alone (R72). One lemma for each operation that writes the lock table or a route record. -/

namespace Sys2Proof.Machine

open Sys2Proof

/-- The block flags of every section, point and signal. -/
def Locking.blocks (u : Locking) : Vector Bool 32 × Vector Bool 16 × Vector Bool 16 :=
  (u.sections.map (·.blocked), u.points.map (·.blocked), u.signals.map (·.blocked))

theorem Locking.blocks_eq_iff (u v : Locking) : u.blocks = v.blocks ↔
    (∀ k : Fin 32, (u.sections[k]).blocked = (v.sections[k]).blocked) ∧
    (∀ p : Fin 16, (u.points[p]).blocked = (v.points[p]).blocked) ∧
    ∀ g : Fin 16, (u.signals[g]).blocked = (v.signals[g]).blocked := by
  simp only [Locking.blocks, Prod.mk.injEq, Vector.ext_iff, Vector.getElem_map, Fin.forall_iff,
    Fin.getElem_fin]

/-- A table of flags is kept by an update of one entry that keeps its flag. -/
theorem map_upd_of_keeps {α : Type} {n : Nat} (flag : α → Bool) (v : Vector α n) (i : Fin n)
    (f : α → α) (keeps : ∀ x, flag (f x) = flag x) : (upd v i f).map flag = v.map flag := by
  ext j hj
  rw [Vector.getElem_map, Vector.getElem_map, upd_getNat]
  split
  · exact keeps _
  · rfl

/-- A table of flags is kept by a rewriting of every entry that keeps its flag. -/
theorem map_mapTab_of_keeps {α : Type} {n : Nat} (flag : α → Bool) (v : Vector α n)
    (f : Fin n → α → α) (keeps : ∀ i x, flag (f i x) = flag x) :
    (mapTab f v).map flag = v.map flag := by
  ext j hj
  rw [Vector.getElem_map, Vector.getElem_map, mapTab_getNat, keeps]

section
variable (s : State)

/-! ## The lock table -/

@[simp] theorem State.updSectionLock_blocks (k : Fin 32) (f : SectionLock → SectionLock)
    (keeps : ∀ l, (f l).blocked = l.blocked) :
    (s.updSectionLock k f).lku.blocks = s.lku.blocks := by
  simp [Locking.blocks, map_upd_of_keeps _ _ _ f keeps]

@[simp] theorem State.updPointLock_blocks (p : Fin 16) (f : PointLock → PointLock)
    (keeps : ∀ l, (f l).blocked = l.blocked) :
    (s.updPointLock p f).lku.blocks = s.lku.blocks := by
  simp [Locking.blocks, map_upd_of_keeps _ _ _ f keeps]

@[simp] theorem State.updSignalLock_blocks (g : Fin 16) (f : SignalLock → SignalLock)
    (keeps : ∀ l, (f l).blocked = l.blocked) :
    (s.updSignalLock g f).lku.blocks = s.lku.blocks := by
  simp [Locking.blocks, map_upd_of_keeps _ _ _ f keeps]

@[simp] theorem State.updRoute_blocks (r : Fin 64) (f : RouteRec → RouteRec) :
    (s.updRoute r f).lku.blocks = s.lku.blocks := rfl

@[simp] theorem State.updHold_blocks (o : Owner) (f : Hold → Hold) :
    (s.updHold o f).lku.blocks = s.lku.blocks := by
  cases o <;> rfl

@[simp] theorem State.freeElements_blocks (o : Owner) (roles : Role → Bool) :
    (s.freeElements o roles).lku.blocks = s.lku.blocks := by
  simp [Locking.blocks, State.freeElements, map_mapTab_of_keeps]

@[simp] theorem State.dropLocks_blocks : s.dropLocks.lku.blocks = s.lku.blocks := by
  simp [Locking.blocks, State.dropLocks, map_mapTab_of_keeps]

/-! ## Claims and holds -/

@[simp] theorem PointLock.updClaims_blocked (l : PointLock) (q : Position) (f : Nat → Nat) :
    (l.updClaims q f).blocked = l.blocked := by
  cases q <;> rfl

@[simp] theorem State.countPoints_blocks (f : Nat → Nat) (ps : List (Fin 16 × Position)) :
    (s.countPoints f ps).lku.blocks = s.lku.blocks :=
  State.forEach_keeps (·.lku.blocks) _ (fun s q => by simp) s ps

@[simp] theorem State.countSignals_blocks (f : Nat → Nat) (gs : List (Fin 16)) :
    (s.countSignals f gs).lku.blocks = s.lku.blocks :=
  State.forEach_keeps (·.lku.blocks) _ (fun s g => by simp) s gs

@[simp] theorem State.countFlank_blocks (f : Nat → Nat) (items : List FlankItem) :
    (s.countFlank f items).lku.blocks = s.lku.blocks := by
  simp [State.countFlank]

@[simp] theorem State.claimFlank_blocks (items : List FlankItem) :
    (s.claimFlank items).lku.blocks = s.lku.blocks := s.countFlank_blocks _ items

@[simp] theorem State.releaseFlank_blocks (items : List FlankItem) :
    (s.releaseFlank items).lku.blocks = s.lku.blocks := s.countFlank_blocks _ items

@[simp] theorem State.dropFlank_blocks (o : Owner) :
    (s.dropFlank o).lku.blocks = s.lku.blocks := by
  simp [State.dropFlank]

/-! ## Offers and the timer pool -/

@[simp] theorem State.makeOffer_blocks (r : Fin 64) (q : RemoteRequest) :
    (s.makeOffer r q).lku.blocks = s.lku.blocks := by
  unfold State.makeOffer
  split <;> simp

@[simp] theorem State.removeOffer_blocks (k : Fin 8) :
    (s.removeOffer k).lku.blocks = s.lku.blocks := by
  unfold State.removeOffer
  split <;> simp

@[simp] theorem State.handBack_blocks (k : Fin 8) : (s.handBack k).lku.blocks = s.lku.blocks := by
  unfold State.handBack
  split <;> simp

@[simp] theorem State.handBackAll_blocks (r : Fin 64) :
    (s.handBackAll r).lku.blocks = s.lku.blocks :=
  State.forEach_keeps (·.lku.blocks) _ State.handBack_blocks s _

@[simp] theorem State.grantTimer_blocks (k : Fin 16) (r : Fin 64) :
    (s.grantTimer k r).lku.blocks = s.lku.blocks := by
  simp [State.grantTimer]

@[simp] theorem State.grantHead_blocks (k : Fin 16) :
    (s.grantHead k).lku.blocks = s.lku.blocks := by
  unfold State.grantHead
  split <;> simp

@[simp] theorem State.requestTimer_blocks (r : Fin 64) :
    (s.requestTimer r).lku.blocks = s.lku.blocks := by
  unfold State.requestTimer
  split <;> simp

@[simp] theorem State.giveUpTimer_blocks (r : Fin 64) :
    (s.giveUpTimer r).lku.blocks = s.lku.blocks := by
  simp only [State.giveUpTimer]
  split <;> simp

/-! ## Release -/

@[simp] theorem State.idleRoute_blocks (r : Fin 64) :
    (s.idleRoute r).lku.blocks = s.lku.blocks := rfl

@[simp] theorem State.fullRelease_blocks (r : Fin 64) :
    (s.fullRelease r).lku.blocks = s.lku.blocks := by
  simp [State.fullRelease]

@[simp] theorem State.releasePortion_blocks (p : Fin 16) :
    (s.releasePortion p).lku.blocks = s.lku.blocks := by
  simp [State.releasePortion]

@[simp] theorem State.failSetting_blocks (r : Fin 64) :
    (s.failSetting r).lku.blocks = s.lku.blocks := by
  unfold State.failSetting
  split <;> simp

@[simp] theorem State.releaseOverlap_blocks (o : Owner) :
    (s.releaseOverlap o).lku.blocks = s.lku.blocks := by
  cases o <;> simp [State.releaseOverlap]

@[simp] theorem State.tryOverlap_blocks (o : Owner) :
    (s.tryOverlap o).lku.blocks = s.lku.blocks := by
  unfold State.tryOverlap
  split <;> simp

@[simp] theorem State.enterOverlapHeld_blocks (r : Fin 64) :
    (s.enterOverlapHeld r).lku.blocks = s.lku.blocks := by
  simp only [State.enterOverlapHeld]
  split <;> simp

@[simp] theorem State.freePoints_blocks (o : Owner) (k : Fin 32) (ps : List (Fin 16 × Position)) :
    (s.freePoints o k ps).lku.blocks = s.lku.blocks :=
  State.forEach_keeps (·.lku.blocks) _ (fun s q => by split <;> simp) s ps

@[simp] theorem State.freeEntry_blocks (o : Owner) :
    (s.freeEntry o).lku.blocks = s.lku.blocks := by
  unfold State.freeEntry
  repeat' split
  all_goals simp

@[simp] theorem State.releaseSection_blocks (o : Owner) (i : Fin 8) (k : Fin 32) :
    (s.releaseSection o i k).lku.blocks = s.lku.blocks := by
  simp only [State.releaseSection]
  split <;> simp

@[simp] theorem State.releaseFrom_blocks (o : Owner) (qs : List (Fin 8 × Fin 32)) :
    (s.releaseFrom o qs).lku.blocks = s.lku.blocks := by
  induction qs generalizing s with
  | nil => rfl
  | cons q qs ih =>
    unfold State.releaseFrom
    split
    · exact ih s
    · split
      · rw [ih, State.releaseSection_blocks]
      · rfl

@[simp] theorem State.endPath_blocks (o : Owner) : (s.endPath o).lku.blocks = s.lku.blocks := by
  simp only [State.endPath]
  repeat' split
  all_goals simp

@[simp] theorem State.followTrain_blocks (o : Owner) (k : Fin 32) (occ : Bool) :
    (s.followTrain o k occ).lku.blocks = s.lku.blocks := by
  simp only [State.followTrain]
  split <;> simp [State.markPath]

@[simp] theorem State.cancelLocked_blocks (r : Fin 64) :
    (s.cancelLocked r).lku.blocks = s.lku.blocks := by
  unfold State.cancelLocked
  split <;> simp

/-! ## Setting -/

@[simp] theorem State.completionTest_blocks (r : Fin 64) :
    (s.completionTest r).lku.blocks = s.lku.blocks := by
  unfold State.completionTest
  split <;> simp

@[simp] theorem State.completionTests_blocks (rs : List (Fin 64)) :
    (s.completionTests rs).lku.blocks = s.lku.blocks :=
  State.forEach_keeps (·.lku.blocks) _ State.completionTest_blocks s rs

@[simp] theorem State.dispossess_blocks (o : Owner) :
    (s.dispossess o).lku.blocks = s.lku.blocks := by
  cases o <;> simp only [State.dispossess] <;> split <;> simp

@[simp] theorem State.dispossessAll_blocks (os : List Owner) :
    (s.dispossessAll os).lku.blocks = s.lku.blocks :=
  State.forEach_keeps (·.lku.blocks) _ State.dispossess_blocks s os

@[simp] theorem State.holdSections_blocks (o : Owner) (x : Role) (ks : List (Fin 32)) :
    (s.holdSections o x ks).lku.blocks = s.lku.blocks :=
  State.forEach_keeps (·.lku.blocks) _ (fun s k => by simp) s ks

@[simp] theorem State.holdPoints_blocks (o : Owner) (x : Role) (ps : List (Fin 16 × Position)) :
    (s.holdPoints o x ps).lku.blocks = s.lku.blocks :=
  State.forEach_keeps (·.lku.blocks) _ (fun s q => by simp) s ps

@[simp] theorem State.takePlan_blocks (o : Owner) (p : Plan) (chosen : List (Fin 48)) :
    (s.takePlan o p chosen).lku.blocks = s.lku.blocks := by
  simp [State.takePlan, State.holdPlan]

@[simp] theorem State.offerFlank_blocks (r : Fin 64) (e : FlankElement) :
    (s.offerFlank r e).lku.blocks = s.lku.blocks := by
  unfold State.offerFlank
  split <;> simp

@[simp] theorem State.offerFlanks_blocks (r : Fin 64) (es : List FlankElement) :
    (s.offerFlanks r es).lku.blocks = s.lku.blocks :=
  State.forEach_keeps (·.lku.blocks) _ (fun s e => s.offerFlank_blocks r e) s es

@[simp] theorem State.offerPortion_blocks (r : Fin 64) (request : Option (Fin 4 × Fin 16)) :
    (s.offerPortion r request).lku.blocks = s.lku.blocks := by
  unfold State.offerPortion
  split <;> simp

@[simp] theorem State.takeRoute_blocks (r : Fin 64) (c : RouteCfg) (chosen : List (Fin 48)) :
    (s.takeRoute r c chosen).lku.blocks = s.lku.blocks := by
  simp [State.takeRoute]

theorem State.setRoute_blocks {t : State} (r : Fin 64) (c : RouteCfg) (h : s.setRoute r c = .ok t) :
    t.lku.blocks = s.lku.blocks := by
  unfold State.setRoute at h
  split at h
  · nomatch h
  · cases h
    simp

theorem State.setPortion_blocks {t : State} (p : Fin 16) (c : PortionCfg)
    (h : s.setPortion p c = .ok t) : t.lku.blocks = s.lku.blocks := by
  unfold State.setPortion at h
  split at h
  · nomatch h
  · cases h
    simp

/-! ## Notices and expiries -/

@[simp] theorem State.notePassed_blocks (r : Fin 64) (g : Fin 16) :
    (s.notePassed r g).lku.blocks = s.lku.blocks := by
  simp [State.notePassed]

@[simp] theorem State.trainEntry_blocks (r : Fin 64) (g : Fin 16) :
    (s.trainEntry r g).lku.blocks = s.lku.blocks := by
  simp only [State.trainEntry]
  repeat' split
  all_goals simp

@[simp] theorem State.entryNotice_blocks (r : Fin 64) (k : Fin 32) (occ : Bool) :
    (s.entryNotice r k occ).lku.blocks = s.lku.blocks := by
  unfold State.entryNotice
  repeat' split
  all_goals simp

@[simp] theorem State.routeNotice_blocks (r : Fin 64) (x : Role) (k : Fin 32) (occ : Bool) :
    (s.routeNotice r x k occ).lku.blocks = s.lku.blocks := by
  unfold State.routeNotice State.overlapNotice
  repeat' split
  all_goals simp

@[simp] theorem State.portionNotice_blocks (p : Fin 16) (x : Role) (k : Fin 32) (occ : Bool) :
    (s.portionNotice p x k occ).lku.blocks = s.lku.blocks := by
  unfold State.portionNotice
  repeat' split
  all_goals simp

@[simp] theorem State.sectionNotice_blocks (k : Fin 32) :
    (s.sectionNotice k).lku.blocks = s.lku.blocks := by
  simp only [State.sectionNotice, State.actOnNotice]
  repeat' split
  all_goals simp

@[simp] theorem State.pointNotice_blocks (p : Fin 16) :
    (s.pointNotice p).lku.blocks = s.lku.blocks := by
  unfold State.pointNotice State.actOnPoint
  split <;> simp

@[simp] theorem State.settingExpiry_blocks (r : Fin 64) :
    (s.settingExpiry r).lku.blocks = s.lku.blocks := by
  simp only [State.settingExpiry]
  split <;> simp

@[simp] theorem State.workExpiry_blocks (r : Fin 64) :
    (s.workExpiry r).lku.blocks = s.lku.blocks := by
  unfold State.workExpiry
  split <;> simp

@[simp] theorem State.poolExpiry_blocks (k : Fin 16) :
    (s.poolExpiry k).lku.blocks = s.lku.blocks := by
  simp only [State.poolExpiry]
  repeat' split
  all_goals simp

/-! ## Neighbours -/

@[simp] theorem State.takePortionRequest_blocks (n : Fin 4) (x i : Byte) :
    (s.takePortionRequest n x i).lku.blocks = s.lku.blocks := by
  simp only [State.takePortionRequest]
  repeat' split
  case h_2 t set => simpa [State.hostPortion] using s.setPortion_blocks _ _ set
  all_goals simp

@[simp] theorem State.endHosting_blocks (p : Fin 16) :
    (s.endHosting p).lku.blocks = s.lku.blocks := by
  unfold State.endHosting
  split <;> simp

@[simp] theorem State.takePortionRelease_blocks (n : Fin 4) (x i : Byte) :
    (s.takePortionRelease n x i).lku.blocks = s.lku.blocks := by
  simp only [State.takePortionRelease]
  repeat' split
  all_goals simp

@[simp] theorem State.freeGrantRecord_blocks (k : Fin 8) :
    (s.freeGrantRecord k).lku.blocks = s.lku.blocks := by
  unfold State.freeGrantRecord
  split <;> simp

@[simp] theorem State.takeFlankRequest_blocks (n : Fin 4) (i c e : Byte) :
    (s.takeFlankRequest n i c e).lku.blocks = s.lku.blocks := by
  simp only [State.takeFlankRequest, State.makeGrant]
  repeat' split
  all_goals simp

@[simp] theorem State.takeFlankRelease_blocks (n : Fin 4) (i : Byte) :
    (s.takeFlankRelease n i).lku.blocks = s.lku.blocks := by
  unfold State.takeFlankRelease
  repeat' split
  all_goals simp

@[simp] theorem State.takeGrant_blocks (n : Fin 4) (x : OfferKind) (i : Byte) (t : Option Byte)
    (release : Payload) : (s.takeGrant n x i t release).lku.blocks = s.lku.blocks := by
  unfold State.takeGrant
  repeat' split
  all_goals simp

@[simp] theorem State.takeRefuse_blocks (n : Fin 4) (x : OfferKind) (i : Byte) (t : Option Byte) :
    (s.takeRefuse n x i t).lku.blocks = s.lku.blocks := by
  unfold State.takeRefuse
  repeat' split
  all_goals simp

@[simp] theorem State.dropSent_blocks (k : Fin 8) : (s.dropSent k).lku.blocks = s.lku.blocks := by
  unfold State.dropSent
  split <;> simp

@[simp] theorem State.dropAllSent_blocks (n : Fin 4) :
    (s.dropAllSent n).lku.blocks = s.lku.blocks :=
  State.forEach_keeps (·.lku.blocks) _ (fun s k => by split <;> simp) s _

@[simp] theorem State.replyExpiry_blocks (k : Fin 8) :
    (s.replyExpiry k).lku.blocks = s.lku.blocks := by
  unfold State.replyExpiry State.applyPolicy State.blockNeighbour State.resend
  repeat' split
  all_goals simp

@[simp] theorem State.silenceEvent_blocks (n : Fin 4) :
    (s.silenceEvent n).lku.blocks = s.lku.blocks := by
  simp [State.silenceEvent]

@[simp] theorem State.silenceExpiry_blocks (n : Fin 4) :
    (s.silenceExpiry n).lku.blocks = s.lku.blocks := by
  unfold State.silenceExpiry
  split <;> simp

@[simp] theorem State.loseOffer_blocks (r : Fin 64) :
    (s.loseOffer r).lku.blocks = s.lku.blocks := by
  unfold State.loseOffer
  split <;> simp

@[simp] theorem State.removeOffers_blocks (qs : List (Fin 8 × Offer)) :
    (s.removeOffers qs).lku.blocks = s.lku.blocks :=
  State.forEach_keeps (·.lku.blocks) _ (fun s q => by simp) s qs

@[simp] theorem State.loseOffers_blocks (qs : List (Fin 8 × Offer)) :
    (s.loseOffers qs).lku.blocks = s.lku.blocks :=
  State.forEach_keeps (·.lku.blocks) _ (fun s q => by simp) s qs

@[simp] theorem State.reconcileOffers_blocks (n : Fin 4) (c : StatusContent) :
    (s.reconcileOffers n c).lku.blocks = s.lku.blocks := by
  simp [State.reconcileOffers]

@[simp] theorem State.settlePortion_blocks (n : Fin 4) (c : StatusContent) (p : Fin 16) :
    (s.settlePortion n c p).lku.blocks = s.lku.blocks := by
  simp only [State.settlePortion]
  repeat' split
  all_goals simp

@[simp] theorem State.settlePortions_blocks (n : Fin 4) (c : StatusContent) (ps : List (Fin 16)) :
    (s.settlePortions n c ps).lku.blocks = s.lku.blocks :=
  State.forEach_keeps (·.lku.blocks) _ (fun s p => s.settlePortion_blocks n c p) s ps

@[simp] theorem State.settleGrant_blocks (n : Fin 4) (c : StatusContent) (k : Fin 8) :
    (s.settleGrant n c k).lku.blocks = s.lku.blocks := by
  unfold State.settleGrant
  repeat' split
  all_goals simp

@[simp] theorem State.settleGrants_blocks (n : Fin 4) (c : StatusContent) (ks : List (Fin 8)) :
    (s.settleGrants n c ks).lku.blocks = s.lku.blocks :=
  State.forEach_keeps (·.lku.blocks) _ (fun s k => s.settleGrant_blocks n c k) s ks

@[simp] theorem State.takeStatus_blocks (n : Fin 4) (c : StatusContent) :
    (s.takeStatus n c).lku.blocks = s.lku.blocks := by
  simp only [State.takeStatus, State.hearStatus, State.reconcileHosted]
  repeat' split
  all_goals simp

/-! ## Panel commands and HALT -/

@[simp] theorem workSetRoute_blocks (c : QueuedCommand) :
    (workSetRoute s c).1.lku.blocks = s.lku.blocks := by
  unfold workSetRoute
  split
  · rfl
  · next r cfg _ =>
    cases set : s.setRoute r cfg with
    | error why => rfl
    | ok t => exact s.setRoute_blocks r cfg set

@[simp] theorem workCancelRoute_blocks (c : QueuedCommand) :
    (workCancelRoute s c).1.lku.blocks = s.lku.blocks := by
  unfold workCancelRoute
  repeat' split
  all_goals simp

@[simp] theorem State.answerHalted_keeps (cs : List QueuedCommand) :
    (s.answerHalted cs).pending = s.pending ∧ (s.answerHalted cs).ticks = s.ticks ∧
    (s.answerHalted cs).pins = s.pins ∧ (s.answerHalted cs).config = s.config ∧
    (s.answerHalted cs).fsu = s.fsu ∧ (s.answerHalted cs).lku = s.lku ∧
    (s.answerHalted cs).asu = s.asu ∧ (s.answerHalted cs).sld = s.sld := by
  unfold State.answerHalted
  induction cs generalizing s with
  | nil => simp
  | cons c cs ih =>
    simp only [State.forEach_cons, ih]
    simp

end

end Sys2Proof.Machine
end

section
/-! What the named events alone change: the station state, the presented aspects with the half of
the flash phase, the block flags, the configuration and the surroundings, followed as one value
through the own effect of every command and the rest of its event. -/

namespace Sys2Proof.Machine

open Sys2Proof

/-- The part of a state that changes by named events alone. -/
structure Standing where
  pending : List Instr
  ticks : Nat
  pins : Pins
  config : ZoneConfig
  station : StationState
  onHalf : Bool
  presented : Vector Aspect 16
  blocks : Vector Bool 32 × Vector Bool 16 × Vector Bool 16

def State.standing (s : State) : Standing where
  pending := s.pending
  ticks := s.ticks
  pins := s.pins
  config := s.config
  station := s.sld.station
  onHalf := s.fsu.onHalf
  presented := s.asu.signals.map (·.presented)
  blocks := s.lku.blocks

/-- The presented aspects stand as one table. -/
theorem presented_eq_iff (u v : AspectUnit) :
    u.signals.map (·.presented) = v.signals.map (·.presented) ↔
      ∀ g : Fin 16, (u.signals[g]).presented = (v.signals[g]).presented := by
  simp only [Vector.ext_iff, Vector.getElem_map, Fin.forall_iff, Fin.getElem_fin]

section
variable (s : State)

/-! ## The rest of an event, and the commands without an own effect -/

theorem State.finish_standing (u : State) : (s.finish u).standing = u.standing := by
  have presented := (presented_eq_iff _ _).2 (s.finish_rest u).presented
  simp [State.standing, presented]

theorem LinesAlone.standing {s t : State} (h : LinesAlone s t) : t.standing = s.standing := by
  simp [State.standing, h.pending, h.ticks, h.pins, h.config, h.sld, h.fsu, h.asu, h.lku]

/-! ## Lamps -/

theorem State.updLamp_standing (g : Fin 16) (l : Lamp) (f : LampRec → LampRec) :
    (s.updSignal g fun r => r.updLamp l f).standing = s.standing := by
  have presented : (s.updSignal g fun r => r.updLamp l f).asu.signals.map (·.presented) =
      s.asu.signals.map (·.presented) := by
    refine (presented_eq_iff _ _).2 fun g' => ?_
    rw [State.updSignal_signals, upd_get]
    split <;> simp
  simp only [State.standing, presented]
  simp

theorem State.putFailed_standing (g : Fin 16) (l : Lamp) (v : Bool) :
    (s.putFailed g l v).standing = s.standing :=
  s.updLamp_standing g l _

theorem State.putStray_standing (g : Fin 16) (l : Lamp) (v : Bool) :
    (s.putStray g l v).standing = s.standing :=
  s.updLamp_standing g l _

/-! ## Telegrams -/

@[simp] theorem State.received_standing (src : Source) (f : Frame) :
    (s.received src f).standing = s.standing := by
  simp [State.standing, State.received]

theorem State.deliver_standing (seq : Byte) (src : Source) (p : Payload) :
    (deliver seq src p s).standing = s.standing := by
  unfold deliver
  split <;> simp [State.standing]

theorem State.collected_standing (kind : Byte) (f : Frame) :
    (s.collected kind f).standing = s.standing := by
  unfold State.collected
  obtain ⟨-, e⟩ | ⟨_, _, _, -, -, e⟩ | ⟨_, _, -, -, e⟩ | ⟨src, p, -, -, e⟩ := receive_cases kind f s
  · rw [e]
  · rw [e]; simp [State.standing]
  · rw [e]; simp [State.standing]
  · rw [e]; simp [State.deliver_standing]

/-! ## Queued commands -/

/-- A row that takes no command leaves the state; one that takes its command works it and answers.
-/
theorem State.runCommand_cases (isRow : Byte → Bool)
    (work : State → QueuedCommand → State × Option Reason) :
    s.runCommand isRow work = s ∨ ∃ c rest, Takes s c.code c rest ∧ isRow c.code = true ∧
      s.runCommand isRow work =
        (work (s.taken rest) c).1.placeResult c (work (s.taken rest) c).2 := by
  unfold State.runCommand State.takeCommand
  split
  · exact .inl rfl
  · next c t taken =>
    split at taken
    · next c' rest run queue =>
      split at taken
      · next row =>
        cases taken
        exact .inr ⟨c, rest, ⟨run, queue, rfl⟩, row, rfl⟩
      · nomatch taken
    · nomatch taken

theorem State.runCommand_standing (isRow : Byte → Bool)
    (work : State → QueuedCommand → State × Option Reason)
    (works : ∀ x c, (work x c).1.standing = x.standing) :
    (s.runCommand isRow work).standing = s.standing := by
  have answer (x : State) (c : QueuedCommand) (why : Option Reason) :
      (x.placeResult c why).standing = x.standing := by simp [State.standing]
  obtain e | ⟨c, rest, -, -, e⟩ := s.runCommand_cases isRow work
  · rw [e]
  · rw [e, answer, works]
    rfl

/-- BLOCK changes the block flags alone (R72). -/
theorem State.block_standing (isRow : Byte → Bool) :
    ∃ blocks, (s.runCommand isRow workBlock).standing = { s.standing with blocks := blocks } := by
  obtain e | ⟨c, rest, -, -, e⟩ := s.runCommand_cases isRow workBlock
  · exact ⟨_, by rw [e]⟩
  · exact ⟨(workBlock (s.taken rest) c).1.lku.blocks, by rw [e]; simp [State.standing, State.taken]⟩

/-! ## The start-up loader -/

theorem State.refuseImage_standing (code : Byte) (delivered : List Byte) :
    (s.refuseImage code delivered).standing = { s.standing with station := .halt } := by
  simp only [State.refuseImage, State.startRefusedStatus]
  split <;> rfl

theorem State.acceptImage_standing (delivered : List Byte) :
    (s.acceptImage delivered).standing = { s.standing with
      station := .quiet, config := (s.acceptImage delivered).config } := rfl

theorem State.dropLocks_standing : s.dropLocks.standing = s.standing := by
  have blocks := s.dropLocks_blocks
  simp only [State.standing, blocks]
  rfl

/-- The entry to HALT drops holders and records, and keeps the block flags (R74, R169). -/
theorem State.enterHalt_standing : s.enterHalt.standing = { s.standing with station := .halt } :=
  calc s.enterHalt.standing
    _ = ({ s with sld := s.sld.toHalt, rtp := TimerPool.reset } : State).dropLocks.standing := by
      simp [State.standing, State.enterHalt, State.dropCommands, State.dropTelegrams,
        State.dropHandover, State.mapPoints]
    _ = { s.standing with station := .halt } := State.dropLocks_standing _

theorem State.stop_standing (delivered : List Byte) :
    (s.stop delivered).standing = s.standing ∨
      (s.stop delivered).standing = { s.standing with station := .halt } := by
  have fault (x : State) : (x.setFault .stopped 0).standing = x.standing := rfl
  simp only [State.stop]
  split
  · rw [fault, State.refuseImage_standing]
    exact .inr rfl
  · rw [fault, State.enterHalt_standing]
    exact .inr rfl
  · rw [fault, State.enterHalt_standing]
    exact .inr rfl
  · exact .inl rfl

theorem State.flashBoundary_standing : s.flashBoundary.standing = { s.standing with
    onHalf := s.flashBoundary.standing.onHalf
    presented := s.flashBoundary.standing.presented } := by
  simp [State.standing]

/-- The lamp timers change flags alone (R99, R101, R102). -/
theorem State.failureExpiry_standing (g : Fin 16) (l : Lamp) :
    (s.failureExpiry g l).standing = s.standing := by
  unfold State.failureExpiry
  split
  · exact s.putFailed_standing g l true
  · rfl

theorem State.strayExpiry_standing (g : Fin 16) (l : Lamp) :
    (s.strayExpiry g l).standing = s.standing := by
  unfold State.strayExpiry
  split
  · exact s.putStray_standing g l true
  · rfl

theorem State.strayClearExpiry_standing (g : Fin 16) (l : Lamp) :
    (s.strayClearExpiry g l).standing = s.standing := by
  unfold State.strayClearExpiry
  split
  · exact s.putStray_standing g l false
  · rfl

/-! ## Every own effect -/

/-- The changes of `Standing` that commands make, each with its command: a flash boundary, BLOCK,
the refusal of an image or STOP, and the acceptance of an image. -/
inductive NamedChange (i : Instr) (s : State) : Standing → Prop where
  | none : NamedChange i s s.standing
  | flash (onHalf : Bool) (presented : Vector Aspect 16) : i = .flashBoundary →
      NamedChange i s { s.standing with onHalf := onHalf, presented := presented }
  | block (blocks : Vector Bool 32 × Vector Bool 16 × Vector Bool 16) : i = .block →
      NamedChange i s { s.standing with blocks := blocks }
  | halt : ((∃ delivered, i = .stop delivered) ∨ (s.sld.station = .config ∧ ∃ delivered,
        i = .configReadEnd delivered ∨ i = .configReadTimeout delivered)) →
      NamedChange i s { s.standing with station := .halt }
  | quiet (config : ZoneConfig) (delivered : List Byte) : s.sld.station = .config →
      i = .configReadEnd delivered →
      NamedChange i s { s.standing with station := .quiet, config := config }
  | run : s.sld.station = .quiet → i = .quietTimerExpiry →
      NamedChange i s { s.standing with station := .run }

theorem State.configReadEnd_named (delivered : List Byte) :
    NamedChange (.configReadEnd delivered) s (s.configReadEnd delivered).standing := by
  unfold State.configReadEnd
  split
  · next reading =>
    split
    · rw [State.acceptImage_standing]
      exact .quiet _ delivered reading rfl
    · rw [State.refuseImage_standing]
      exact .halt (.inr ⟨reading, delivered, .inl rfl⟩)
  · exact .none

theorem State.configReadTimeout_named (delivered : List Byte) :
    NamedChange (.configReadTimeout delivered) s (s.configReadTimeout delivered).standing := by
  unfold State.configReadTimeout
  split
  · next reading =>
    rw [State.refuseImage_standing]
    exact .halt (.inr ⟨reading.1, delivered, .inr rfl⟩)
  · exact .none

theorem State.stop_named (delivered : List Byte) :
    NamedChange (.stop delivered) s (s.stop delivered).standing := by
  obtain e | e := s.stop_standing delivered
  · exact e ▸ .none
  · exact e ▸ .halt (.inl ⟨delivered, rfl⟩)

theorem effect_named (i : Instr) (s u : State) (h : s.effect i = some u) :
    NamedChange i s u.standing := by
  have same {v : State} (e : v.standing = s.standing) : NamedChange i s v.standing :=
    e.symm ▸ .none
  cases i
  case reset | quietTimerExpiry | statusPeriodExpiry | statusPacingEnd | displayPeriodExpiry
      | displayPacingEnd | transmitAttempt | telegramSent | attemptFailed | transmitGiveUp =>
    nomatch h
  all_goals cases h
  case configReadEnd d => exact s.configReadEnd_named d
  case configReadTimeout d => exact s.configReadTimeout_named d
  case stop d => exact s.stop_named d
  case flashBoundary => exact s.flashBoundary_standing ▸ .flash _ _ rfl
  case block =>
    obtain ⟨blocks, e⟩ := s.block_standing (· == cmdBlock)
    exact e ▸ .block blocks rfl
  case failureTimerExpiry g l => exact same (s.failureExpiry_standing g l)
  case strayTimerExpiry g l => exact same (s.strayExpiry_standing g l)
  case strayClearTimerExpiry g l => exact same (s.strayClearExpiry_standing g l)
  case command | status | portionRequest | portionGrant | portionRefuse | portionRelease
      | flankRequest | flankGrant | flankRefuse | flankRelease | sectionReset
      | discardedTelegram => exact same (s.collected_standing _ _)
  case setRoute | cancelRoute | movePoint | resetSection | confirmReset | clearNeighbourBlock
      | clearFault | unknownCommand =>
    exact same (s.runCommand_standing _ _ fun x c => by simp [State.standing])
  all_goals exact same (by simp [State.standing])

theorem State.announce_standing : s.announce.standing = s.standing := by
  simp [State.standing]

theorem State.settled_standing (u : State) : (s.settled u).standing = u.standing := by
  have presented := (presented_eq_iff _ _).2 (s.settled_consequences u).presented
  simp [State.standing, presented]

theorem State.quietExpiry_named : NamedChange .quietTimerExpiry s s.quietExpiry.standing := by
  by_cases ready : s.sld.station = .quiet ∧ s.sld.quiet.due = true
  · rw [State.quietExpiry_eq ready, State.announce_standing, State.settled_standing]
    exact .run ready.1 rfl
  · rw [State.quietExpiry_idle ready]
    exact .none

theorem exec_named {i : Instr} {s t : State} (e : exec i s = .next t) (command : i ≠ .reset) :
    NamedChange i s t.standing := by
  cases h : s.effect i with
  | some u =>
    rw [exec_of_effect h] at e
    cases e
    exact State.finish_standing s u ▸ effect_named i s u h
  | none =>
    obtain ⟨rfl, -⟩ | ⟨rfl, rfl⟩ | lines := exec_without_effect h e
    · exact absurd rfl command
    · exact s.quietExpiry_named
    · exact lines.standing ▸ .none

end

/-! ## What a named change leaves -/

section
variable {i : Instr} {s : State} {v : Standing}

theorem NamedChange.station (h : NamedChange i s v) :
    s.sld.station.mayBecome v.station = true ∧ (v.station ≠ s.sld.station →
      (v.station = .quiet → s.sld.station = .config ∧ ∃ delivered,
        i = .configReadEnd delivered) ∧
      (v.station = .run → s.sld.station = .quiet ∧ i = .quietTimerExpiry) ∧
      (v.station = .halt → (∃ delivered, i = .stop delivered) ∨
        (s.sld.station = .config ∧ ∃ delivered,
          i = .configReadEnd delivered ∨ i = .configReadTimeout delivered))) := by
  have stay : s.sld.station.mayBecome s.sld.station = true := by cases s.sld.station <;> rfl
  have fall : s.sld.station.mayBecome .halt = true := by cases s.sld.station <;> rfl
  cases h with
  | none => exact ⟨stay, fun moved => absurd rfl moved⟩
  | flash => exact ⟨stay, fun moved => absurd rfl moved⟩
  | block => exact ⟨stay, fun moved => absurd rfl moved⟩
  | halt named => exact ⟨fall, fun _ => ⟨nofun, nofun, fun _ => named⟩⟩
  | quiet config delivered reading named =>
    exact ⟨reading ▸ rfl, fun _ => ⟨fun _ => ⟨reading, delivered, named⟩, nofun, nofun⟩⟩
  | run quiet named => exact ⟨quiet ▸ rfl, fun _ => ⟨nofun, fun _ => ⟨quiet, named⟩, nofun⟩⟩

theorem NamedChange.presented (h : NamedChange i s v) (other : i ≠ .flashBoundary) :
    v.onHalf = s.fsu.onHalf ∧ v.presented = s.asu.signals.map (·.presented) := by
  cases h with
  | flash _ _ named => exact absurd named other
  | _ => exact ⟨rfl, rfl⟩

theorem NamedChange.blocks (h : NamedChange i s v) (other : i ≠ .block) :
    v.blocks = s.lku.blocks := by
  cases h with
  | block _ named => exact absurd named other
  | _ => rfl

theorem NamedChange.surroundings (h : NamedChange i s v) :
    v.pins = s.pins ∧ v.ticks = s.ticks ∧ v.pending = s.pending := by
  cases h <;> exact ⟨rfl, rfl, rfl⟩

theorem NamedChange.config (h : NamedChange i s v)
    (other : ∀ delivered, i ≠ .configReadEnd delivered) : v.config = s.config := by
  cases h with
  | quiet _ delivered _ named => exact absurd named (other delivered)
  | _ => rfl

end

/-- Settles O59: every command makes one named change of `Standing`, or none. -/
theorem onlyTheNamedEventsChangeThese : Obligations.OnlyTheNamedEventsChangeThese := by
  intro i s t e command
  have change := exec_named e command
  obtain ⟨may, named⟩ := change.station
  obtain ⟨pins, ticks, pending⟩ := change.surroundings
  refine ⟨may, named, fun other => ?_, fun other => ?_, pins, ticks, pending, change.config⟩
  · obtain ⟨half, presented⟩ := change.presented other
    exact ⟨half, (presented_eq_iff _ _).1 presented⟩
  · exact (Locking.blocks_eq_iff _ _).1 (change.blocks other)

end Sys2Proof.Machine
end

section
/-! The proving edge: what it leaves at the proving inputs, and what a changed lamp brings about in
the rest of the event. -/

namespace Sys2Proof.Machine

open Sys2Proof

/-! ## The proving inputs -/

theorem InputRec.observe_role (role : InputRole) (v : Bool) (r : InputRec) :
    (r.observe role v).role = r.role := by
  unfold InputRec.observe
  split <;> rfl

theorem InputRec.observe_same {role : InputRole} {r : InputRec} (v : Bool) (h : r.role = role) :
    (r.observe role v).filter.value = v := by
  simp only [InputRec.observe, if_pos h, FilterRec.accept]
  split
  · next same => exact same
  · rfl

theorem InputRec.observe_other {role : InputRole} {r : InputRec} (v : Bool) (h : r.role ≠ role) :
    r.observe role v = r := if_neg h

section
variable (s : State) (g : Fin 16) (l : Lamp) (v : Bool)

theorem State.observeProving_contacts (i : Fin 80) : (s.observeProving g l v).fsu.contacts[i] =
    (s.fsu.contacts[i]).observe (.prove g l) v := by
  simp [State.observeProving]

theorem State.observeProving_lit (bound : ∃ i : Fin 80, (s.fsu.contacts[i]).role = .prove g l) :
    (s.observeProving g l v).lit g l = v := by
  have value (i : Fin 80) (role : (s.fsu.contacts[i]).role = .prove g l) :
      ((s.fsu.contacts[i]).observe (.prove g l) v).filter.value = v :=
    InputRec.observe_same v role
  rw [Bool.eq_iff_iff, State.lit_iff]
  simp only [State.observeProving_contacts, InputRec.observe_role]
  constructor
  · rintro ⟨i, role, lit⟩
    exact value i role ▸ lit
  · intro lit
    obtain ⟨i, role⟩ := bound
    exact ⟨i, role, (value i role).trans lit⟩

theorem State.observeProving_lit_other (g' : Fin 16) (l' : Lamp) (other : (g', l') ≠ (g, l)) :
    (s.observeProving g l v).lit g' l' = s.lit g' l' := by
  rw [Bool.eq_iff_iff, State.lit_iff, State.lit_iff]
  refine exists_congr fun i => ?_
  rw [State.observeProving_contacts, InputRec.observe_role]
  refine and_congr_right fun role => ?_
  rw [InputRec.observe_other v]
  rw [role]
  rintro ⟨⟩
  exact other rfl

end

/-- The proving inputs are read from the contact inputs alone. -/
theorem State.lit_congr {s t : State} (h : t.fsu.contacts = s.fsu.contacts) : t.lit = s.lit := by
  funext g l
  simp only [State.lit, h]

/-! ## A changed lamp in the rest of an event -/

section
variable {s u t : State}

/-- A red lamp that comes to be energised and lit loses flag and condition (R100). -/
theorem Consequences.red_restored (h : Consequences s u t) (g : Fin 16)
    (now : (t.energised g .red && t.lit g .red) = true)
    (before : (s.energised g .red && s.lit g .red) = false) :
    (t.lampRec g .red).failed = false ∧ ⟨.lampFailed, lampElement g .red⟩ ∉ t.cmu.faults := by
  have restored : s.lampRestored t g .red = true := by
    simp only [State.lampRestored, now, before, Bool.not_false, Bool.and_self]
  constructor
  · rw [h.failed, restored, Bool.not_true, Bool.and_false]
  · rw [h.faults]
    exact fun stands => stands.2 ⟨g, .red, restored, rfl⟩

theorem PortionState.proved_of_provable {x : PortionState} (h : x.provable) (ok : Bool) :
    x.proved ok = if ok then .proven else .setting := by
  obtain rfl | rfl := h <;> rfl

/-- A portion that holds a changed red lamp at danger is tested (R154). -/
theorem Consequences.portion_tested (h : Consequences s u t) {g : Fin 16}
    (changed : s.redChanged t g = true) (p : Fin 16)
    (held : g ∈ flankSignals t.config (t.hou.portions[p]).hold.flank)
    (provable : (u.hou.portions[p]).state.provable) :
    (t.hou.portions[p]).state = if t.portionProves p then .proven else .setting := by
  have bears : s.redsOf t p = true := List.any_eq_true.2 ⟨g, held, changed⟩
  rw [h.portions, if_pos bears]
  exact PortionState.proved_of_provable provable _

/-- A grant of a changed red lamp is tested (R129). -/
theorem Consequences.grant_tested (h : Consequences s u t) {g : Fin 16}
    (changed : s.redChanged t g = true) (k : Fin 8) (x : Grant) (stands : t.hou.grants[k] = some x)
    (element : elementOf t.config x.used = some (.signal g)) :
    x.proven = t.entryProven x.used := by
  rw [h.grants, Option.map_eq_some_iff] at stands
  obtain ⟨y, -, rfl⟩ := stands
  have bears (used : elementOf t.config y.used = some (.signal g)) : s.redUsed t y = true := by
    simp only [State.redUsed, used, changed]
  by_cases touched : s.redUsed t y = true
  · rw [if_pos touched]
  · rw [if_neg touched] at element
    exact absurd (bears element) touched

end

/-- Settles O19: the own effect is at the filter alone, and the rest of the event does the rest. -/
theorem provingEdgeIsTakenByTheLamp : Obligations.ProvingEdgeIsTakenByTheLamp := by
  intro s g l lit
  let u := s.observeProving g l lit
  have rest : RestOfEvent s u (s.finish u) := s.finish_rest u
  have asu : u.asu = s.asu := by simp [u]
  have hou : u.hou = s.hou := by simp [u]
  have sees : (s.finish u).lit = u.lit := State.lit_congr rest.inputs.2.1
  have lamps (g' : Fin 16) (l' : Lamp) : u.lampRec g' l' = s.lampRec g' l' := by
    simp only [State.lampRec, asu]
  have same : sameTimers s u := fun g' l' => by rw [lamps]; exact ⟨rfl, rfl, rfl⟩
  refine ⟨s.finish u, rfl, rest, ?_, ?_, s.finish_follow u, fun h => State.finish_timers h same,
    rest.red_restored, fun g' l' => ?_, fun g' changed => ?_⟩
  · rw [sees]
    exact s.observeProving_lit g l lit
  · rw [sees]
    exact s.observeProving_lit_other g l lit
  · rw [← lamps]
    exact rest.timers g' l'
  · have changed : s.redChanged (s.finish u) g' = true := by
      simpa only [State.redChanged, Bool.or_eq_true, bne_iff_ne, ne_comm] using changed
    rw [← hou]
    exact ⟨rest.portion_tested changed, rest.grant_tested changed⟩

end Sys2Proof.Machine
end

section
/-! The sampling instants: when a filter has an edge, what the samples of an interval leave in the
filters, and which rows their edges queue. -/

namespace Sys2Proof.Machine

open Sys2Proof

/-! ## Filters -/

/-- A filter has its edge at N most recent samples all opposite to its value (R5). -/
theorem FilterRec.sample_edge_iff (r : FilterRec) (v : Bool) : (r.sample v).2 = true ↔
    ((v :: r.history).take r.length).length = r.length ∧
      ∀ x ∈ (v :: r.history).take r.length, x = !r.value := by
  have atMost : ((v :: r.history).take r.length).length ≤ r.length := List.length_take_le _ _
  simp only [FilterRec.sample, Bool.and_eq_true, decide_eq_true_iff, List.all_eq_true, beq_iff_eq]
  exact and_congr_left fun _ => ⟨fun enough => le_antisymm atMost enough, fun all => all.ge⟩

theorem contactInstant_iff (t : Nat) : contactInstant t = true ↔ t % 20 = 0 := beq_iff_eq

theorem flashInstant_iff (t : Nat) : flashInstant t = true ↔ t % 2000 = 0 := beq_iff_eq

/-- The value of an input with a role waits for the row of its edge (log 6). -/
theorem InputRec.sampled_eq (level : Bool) (r : InputRec) : r.sampled level = { r with
    filter := { (r.filter.sample (level != r.inverted)).1 with
      value := if r.role = .unbound then (r.filter.sample (level != r.inverted)).1.value
        else r.filter.value } } := by
  unfold InputRec.sampled
  split <;> rfl

/-- An edge of STOP to active waits for its row as well (R168). -/
theorem State.sampleContacts_stopFilter (s : State) : s.sampleContacts.sld.stopFilter =
    { (s.sld.stopFilter.sample s.pins.stop).1 with
      value := (s.sld.stopFilter.sample s.pins.stop).1.value &&
        !((s.sld.stopFilter.sample s.pins.stop).2 &&
          (s.sld.stopFilter.sample s.pins.stop).1.value) } := by
  simp only [State.sampleContacts]
  split
  · next active => rw [active, Bool.not_true, Bool.and_false]
  · next quiet => rw [Bool.eq_false_of_not_eq_true quiet, Bool.not_false, Bool.and_true]

theorem State.tick_stopFilter (s : State) : s.tick.sld.stopFilter =
    if contactInstant (s.ticks + 1) then s.sampleContacts.sld.stopFilter
    else s.sld.stopFilter := by
  simp only [State.tick_eq, State.tickOwn_sld, State.tickBaseIf_sld, State.sampledAt]
  split <;> rfl

/-! ## Edges and values by role -/

section
variable {n : Nat} (inputs : Vector InputRec n) (levels : Vector Bool n) (role : InputRole)

theorem edgeOf_iff : edgeOf (sampledInputs inputs levels) role = true ↔
    ∃ i : Fin n, (inputs[i]).role = role ∧ (inputs[i]).edge levels[i] = true := by
  simp [edgeOf, sampledInputs]

theorem valueOf_iff : valueOf (sampledInputs inputs levels) role = true ↔
    ∃ i : Fin n, (inputs[i]).role = role ∧ (inputs[i]).valueAfter levels[i] = true := by
  simp [valueOf, sampledInputs]

/-- The value reported in a row is the one after the samples. -/
theorem eq_valueOf_iff (v : Bool) : valueOf (sampledInputs inputs levels) role = v ↔
    (v = true ↔
      ∃ i : Fin n, (inputs[i]).role = role ∧ (inputs[i]).valueAfter levels[i] = true) := by
  rw [← valueOf_iff, ← Bool.eq_iff_iff, eq_comm]

end

/-! ## The rows of a sampling instant -/

section
variable (s : State)

theorem State.mem_tick_pending_sampled {i : Instr} (h : originOf i = some .sampling) :
    i ∈ s.tick.pending ↔ i ∈ s.samplingEvents (s.ticks + 1) := by
  rw [s.mem_tick_pending, h]
  rfl

theorem State.headObservation_mem (h : Fin 24) (a b : Bool) :
    .headObservation h a b ∈ s.tick.pending ↔
      (edgeOf (sampledInputs s.fsu.sensors s.pins.sensors) (.sensorA h) = true ∨
        edgeOf (sampledInputs s.fsu.sensors s.pins.sensors) (.sensorB h) = true) ∧
      valueOf (sampledInputs s.fsu.sensors s.pins.sensors) (.sensorA h) = a ∧
      valueOf (sampledInputs s.fsu.sensors s.pins.sensors) (.sensorB h) = b := by
  rw [s.mem_tick_pending_sampled rfl]
  simp [State.samplingEvents, State.headEvents, State.pointEvents, State.provingEvents,
    State.stopEvents]

theorem State.detectionObservation_mem (p : Fin 16) (a b : Bool) :
    .detectionObservation p a b ∈ s.tick.pending ↔ contactInstant (s.ticks + 1) = true ∧
      (edgeOf (sampledInputs s.fsu.contacts s.pins.contacts) (.detectN p) = true ∨
        edgeOf (sampledInputs s.fsu.contacts s.pins.contacts) (.detectR p) = true) ∧
      valueOf (sampledInputs s.fsu.contacts s.pins.contacts) (.detectN p) = a ∧
      valueOf (sampledInputs s.fsu.contacts s.pins.contacts) (.detectR p) = b := by
  rw [s.mem_tick_pending_sampled rfl]
  simp [State.samplingEvents, State.headEvents, State.pointEvents, State.provingEvents,
    State.stopEvents]

theorem State.provingEdge_mem (g : Fin 16) (l : Lamp) (lit : Bool) :
    .provingEdge g l lit ∈ s.tick.pending ↔ contactInstant (s.ticks + 1) = true ∧
      edgeOf (sampledInputs s.fsu.contacts s.pins.contacts) (.prove g l) = true ∧
      valueOf (sampledInputs s.fsu.contacts s.pins.contacts) (.prove g l) = lit := by
  rw [s.mem_tick_pending_sampled rfl]
  simp [State.samplingEvents, State.headEvents, State.pointEvents, State.provingEvents,
    State.stopEvents]

theorem State.stop_mem (delivered : List Byte) :
    .stop delivered ∈ s.tick.pending ↔ contactInstant (s.ticks + 1) = true ∧
      (s.sld.stopFilter.sample s.pins.stop).2 = true ∧
      (s.sld.stopFilter.sample s.pins.stop).1.value = true ∧ delivered = s.pins.delivered := by
  rw [s.mem_tick_pending_sampled rfl]
  simp [State.samplingEvents, State.headEvents, State.pointEvents, State.provingEvents,
    State.stopEvents, and_assoc]

theorem State.flashBoundary_mem :
    .flashBoundary ∈ s.tick.pending ↔ flashInstant (s.ticks + 1) = true := by
  rw [s.mem_tick_pending_sampled rfl]
  simp [State.samplingEvents, State.headEvents, State.pointEvents, State.provingEvents,
    State.stopEvents]

end

/-- Settles O3: the filter rule, then what an interval takes in, then its rows one kind at a time.
-/
theorem clockSamplesTheInputs : Obligations.ClockSamplesTheInputs := by
  refine ⟨fun r v => ⟨r.sample_edge_iff v, rfl, rfl, rfl⟩, fun s idle => ?_⟩
  intro contacts sensor contact stop sensorEdge sensorOn contactEdge contactOn taken
  have instant : contactInstant (s.ticks + 1) = true ↔ contacts := contactInstant_iff _
  refine ⟨s.tick, step_of_empty_queue idle, fun i => ?_, fun i => ⟨fun now => ?_, fun now => ?_⟩,
    fun now => ?_, fun now => ?_, fun h a b => ?_, fun p a b => ?_, fun g l lit => ?_,
    fun delivered => ?_, ?_⟩
  · rw [s.tick_sensors]
    exact InputRec.sampled_eq _ _
  · rw [s.tick_contacts, if_pos (instant.2 now)]
    exact InputRec.sampled_eq _ _
  · rw [s.tick_contacts, if_neg (mt instant.1 now)]
  · rw [s.tick_stopFilter, if_pos (instant.2 now)]
    exact s.sampleContacts_stopFilter
  · rw [s.tick_stopFilter, if_neg (mt instant.1 now)]
  · rw [s.headObservation_mem, edgeOf_iff, edgeOf_iff, eq_valueOf_iff, eq_valueOf_iff]
    rfl
  · rw [s.detectionObservation_mem, edgeOf_iff, edgeOf_iff, eq_valueOf_iff, eq_valueOf_iff,
      instant]
    rfl
  · rw [s.provingEdge_mem, edgeOf_iff, eq_valueOf_iff, instant]
    rfl
  · rw [s.stop_mem, instant]
  · rw [s.flashBoundary_mem]
    exact flashInstant_iff _

end Sys2Proof.Machine
end

section
/-! The entry to RUN: what each telegram it places leaves in its slot, with the number it takes, and
what the entry leaves as it was. -/

namespace Sys2Proof.Machine

open Sys2Proof

section
variable (s : State)

/-! ## One telegram placed -/

/-- A station without an own address places no STATUS (R133). -/
theorem State.placeStatus_silent (h : s.sld.ownAddress = none) : s.placeStatus = s := by
  simp only [State.placeStatus, h, Option.isNone_none, if_true]

theorem State.placeStatus_placed (h : s.sld.ownAddress ≠ none) :
    StatusPlaced s s.placeStatus ∧ Numbered 1 s s.placeStatus := by
  have same : SameReport s s.placeStatus := by constructor <;> simp
  obtain ⟨own, known⟩ := Option.ne_none_iff_exists'.1 h
  have knows : s.sld.ownAddress.isNone = false := by rw [known, Option.isNone_some]
  constructor
  · constructor
    case slot =>
      rw [same.status]
      simp only [State.placeStatus, knows]
      exact ⟨_, rfl, rfl, rfl, rfl, by simp [known, State.nextItem, State.nextTelegram]⟩
    all_goals simp [State.placeStatus, knows, Config.statusPacing]
  · simp [Numbered, State.placeStatus, knows, State.placeStatusSlot, StationLine.counted]

/-- A page in its slot, addressed to both panels, with a number (R133, R165). -/
def State.PageStands (t : State) (page : Page) (payload : Payload) (seq : Byte) : Prop :=
  ∃ i, t.pageSlot page = some i ∧ i.telegram.payload = payload ∧ i.telegram.dest = 31 ∧
    i.telegram.seq = seq

theorem State.placePage_placed (page : Page) :
    (s.placePage page).PageStands page (s.pagePayload page) s.slu.counter ∧
      Numbered 1 s (s.placePage page) := by
  cases page <;> exact ⟨⟨_, rfl, rfl, rfl, rfl⟩, rfl, rfl⟩

/-! ## All three -/

/-- The entry to RUN changes what its telegrams are placed in and their times, and nothing else. -/
theorem State.announce_frame : s.announce = { s with
    slu := { s.slu with
      counter := s.announce.slu.counter, placings := s.announce.slu.placings
      statusSlot := s.announce.slu.statusSlot
      displayZero := s.announce.slu.displayZero, displayOne := s.announce.slu.displayOne }
    hou := { s.hou with
      statusPeriod := s.announce.hou.statusPeriod, statusPacing := s.announce.hou.statusPacing
      statusChange := s.announce.hou.statusChange }
    cmu := { s.cmu with
      displayPeriod := .startMs s.config.displayPeriod
      pageZero := ⟨.startMs 100, false⟩, pageOne := ⟨.startMs 100, false⟩ } } := by
  have keeps := s.announce_keeps
  have display : s.announce.cmu.displayPeriod = .startMs s.config.displayPeriod ∧
      s.announce.cmu.pageZero = ⟨.startMs 100, false⟩ ∧
      s.announce.cmu.pageOne = ⟨.startMs 100, false⟩ := by
    simp [State.announce, State.startDisplay, State.placePage, State.setPageTimes,
      State.placeDisplaySlot, Config.displayPacing]
  generalize s.announce = t at keeps display ⊢
  obtain ⟨_, _, _, _, _, _, _, _, _, _, ⟨⟩, ⟨⟩, ⟨⟩, _⟩ := t
  simp_all

/-- What the pages and the DISPLAY period leave of the STATUS. -/
theorem State.announce_status : s.announce.slu.statusSlot = s.placeStatus.slu.statusSlot ∧
    s.announce.hou = s.placeStatus.hou := by
  simp [State.announce]

/-- Page 1 and the DISPLAY period leave page 0 in its slot, and the numbers stand. -/
theorem State.placePage_one_slots :
    (s.placePage .one).startDisplay.pageSlot .zero = s.pageSlot .zero ∧
      (s.placePage .one).startDisplay.pageSlot .one = (s.placePage .one).pageSlot .one :=
  ⟨rfl, rfl⟩

/-- The pages follow the STATUS with the next two numbers, and hold the content that `s` has, since
no telegram changes it. -/
theorem State.announce_pages :
    s.announce.PageStands .zero (.displayZero s.announce.pageZeroContent)
        s.placeStatus.slu.counter ∧
      s.announce.PageStands .one (.displayOne s.announce.pageOneContent)
        (s.placeStatus.slu.counter + 1) ∧
      Numbered 2 s.placeStatus s.announce := by
  have placed : SameReport s s.placeStatus := by constructor <;> simp
  have zeroed : SameReport s (s.placeStatus.placePage .zero) := by constructor <;> simp
  obtain ⟨zero, first⟩ := s.placeStatus.placePage_placed .zero
  obtain ⟨one, second⟩ := (s.placeStatus.placePage .zero).placePage_placed .one
  obtain ⟨keepsZero, keepsOne⟩ := (s.placeStatus.placePage .zero).placePage_one_slots
  have numbers := first.trans second
  rw [placed.payload] at zero
  rw [zeroed.payload, first.1] at one
  rw [s.announce_report.zero, s.announce_report.one]
  simp only [State.PageStands, Numbered, State.announce, keepsZero, keepsOne,
    State.startDisplay_keeps] at zero one numbers ⊢
  exact ⟨zero, one, numbers⟩

/-- A station with an own address places all three telegrams. -/
theorem State.announce_placed (h : s.sld.ownAddress ≠ none) :
    StatusPlaced s s.announce ∧ Numbered 3 s s.announce := by
  obtain ⟨status, first⟩ := s.placeStatus_placed h
  obtain ⟨-, -, pages⟩ := s.announce_pages
  have same : SameReport s.placeStatus s.announce := by constructor <;> simp
  obtain ⟨slot, hou⟩ := s.announce_status
  refine ⟨⟨?_, ?_, ?_, ?_⟩, first.trans pages⟩
  · rw [slot, same.status]
    exact status.slot
  · rw [hou, same.config]
    exact status.period
  · rw [hou]
    exact status.pacing
  · rw [hou]
    exact status.change

/-- A station without one leaves the STATUS as it was, and places the pages. -/
theorem State.announce_silent (h : s.sld.ownAddress = none) :
    SameStatus s s.announce ∧ Numbered 2 s s.announce := by
  obtain ⟨-, -, pages⟩ := s.announce_pages
  obtain ⟨slot, hou⟩ := s.announce_status
  rw [s.placeStatus_silent h] at pages slot hou
  exact ⟨⟨slot, congrArg _ hou, congrArg _ hou, congrArg _ hou⟩, pages⟩

/-- The number that page 0 takes: the next one, or the one after it where a STATUS has taken that.
-/
theorem State.placeStatus_counter : s.placeStatus.slu.counter =
    s.slu.counter + (if s.sld.ownAddress = none then 0 else 1) := by
  split
  · next silent =>
    rw [s.placeStatus_silent silent]
    exact (BitVec.add_zero _).symm
  · next knows => exact (s.placeStatus_placed knows).2.1

end

/-- Settles O12: the event settles in RUN as `v`, and three telegrams are then placed from `v`. -/
theorem quietTimerExpiryEntersRun : Obligations.QuietTimerExpiryEntersRun := by
  intro s quiet due
  let u : State := { s with sld := s.sld.toRun }
  let v := s.settled u
  have event : Consequences s u v := s.settled_consequences u
  have slu : v.slu = s.slu := by simp [v, u]
  have own : v.sld.ownAddress = s.sld.ownAddress := by rw [event.loader]; rfl
  have config : v.config = s.config := by simp [v, u]
  have status : SameStatus s v := by constructor <;> simp [v, u]
  have counter := v.placeStatus_counter
  obtain ⟨zero, one, -⟩ := v.announce_pages
  rw [slu, own] at counter
  rw [counter] at zero one
  refine ⟨v.announce, v, congrArg _ (State.quietExpiry_eq ⟨quiet, due⟩), event, slu, status,
    config ▸ v.announce_frame, v.announce_report.outputsFollow event.outputs, fun knows => ?_,
    fun silent => ?_, zero, one⟩
  · obtain ⟨placed, numbers⟩ := v.announce_placed (own ▸ knows)
    rw [Numbered, slu] at numbers
    exact ⟨⟨slu ▸ own ▸ placed.slot, placed.period, placed.pacing, placed.change⟩, numbers⟩
  · obtain ⟨same, numbers⟩ := v.announce_silent (own ▸ silent)
    rw [Numbered, slu] at numbers
    exact ⟨⟨same.slot.trans status.slot, same.period.trans status.period,
      same.pacing.trans status.pacing, same.change.trans status.change⟩, numbers⟩

end Sys2Proof.Machine
end

section
/-! The reading of the image, ended: what its records give the inputs and outputs, and the states
that acceptance and refusal leave. -/

namespace Sys2Proof.Machine

open Sys2Proof

/-! ## The roles that records give -/

/-- The role that an input record stores (R2). -/
def RawInput.Stores (r : RawInput) : InputRole → Prop
  | .unbound => r.role = 0
  | .sensorA h => r.role = 1 ∧ r.element = h.val
  | .sensorB h => r.role = 2 ∧ r.element = h.val
  | .detectN p => r.role = 3 ∧ r.element = p.val
  | .detectR p => r.role = 4 ∧ r.element = p.val
  | .prove g .red => r.role = 5 ∧ r.element = g.val
  | .prove g .yellow => r.role = 6 ∧ r.element = g.val
  | .prove g .green => r.role = 7 ∧ r.element = g.val

/-- The role that an output record stores (R10). -/
def RawOutput.Stores (r : RawOutput) : OutputRole → Prop
  | .unbound => r.role = 0
  | .lamp g .red => r.role = 1 ∧ r.element = g.val
  | .lamp g .yellow => r.role = 2 ∧ r.element = g.val
  | .lamp g .green => r.role = 3 ∧ r.element = g.val
  | .drive p .normal => r.role = 4 ∧ r.element = p.val
  | .drive p .reverse => r.role = 5 ∧ r.element = p.val

theorem lt_of_not_misnumbered {numbers : List Nat} {bound k : Nat}
    (sound : ¬Misnumbered numbers bound) (h : k ∈ numbers) : k < bound :=
  not_le.1 fun beyond => sound (.inr ⟨k, h, beyond⟩)

/-- What check 5 leaves of the inputs and outputs: each is listed once and each is sound, and the
elements of their roles are numbered within their tables. -/
structure RawImage.Bindable (i : RawImage) : Prop where
  inputs : noRepeats (i.inputs.map fun r => (r.cls, r.number)) = true
  outputs : noRepeats (i.outputs.map fun r => (r.cls, r.number)) = true
  heads : ∀ k ∈ i.heads.map (·.number), k < 24
  points : ∀ k ∈ i.points.map (·.number), k < 16
  signals : ∀ k ∈ i.signals.map (·.number), k < 16
  input : ∀ r ∈ i.inputs, ¬i.InputBroken r
  output : ∀ r ∈ i.outputs, ¬i.OutputBroken r

theorem RawImage.bindable {i : RawImage} (elements : ¬i.ElementsBroken) : i.Bindable := by
  simp only [RawImage.ElementsBroken, not_or, not_not, ← noRepeats_iff_nodup] at elements
  obtain ⟨inputs, outputs, heads, -, -, -, points, signals, -, -, -, -, input, output, -⟩ :=
    elements
  exact ⟨inputs, outputs, fun _ => lt_of_not_misnumbered heads,
    fun _ => lt_of_not_misnumbered points, fun _ => lt_of_not_misnumbered signals,
    fun r h broken => input ⟨r, h, broken⟩, fun r h broken => output ⟨r, h, broken⟩⟩

variable {i : RawImage}

theorem RawImage.Bindable.inputRole (h : i.Bindable) {r : RawInput} (listed : r ∈ i.inputs) :
    r.Stores (inputRoleOf r) := by
  have sound := h.input r listed
  simp only [RawImage.InputBroken, not_or, not_and, not_not, not_lt] at sound
  obtain ⟨-, -, -, known, head, point, signal⟩ := sound
  have atHead (role : r.role ∈ [1, 2]) : r.element = (index 23 r.element).val :=
    (index_val (h.heads _ (head role))).symm
  have atPoint (role : r.role ∈ [3, 4]) : r.element = (index 15 r.element).val :=
    (index_val (h.points _ (point role))).symm
  have atSignal (role : r.role ∈ [5, 6, 7]) : r.element = (index 15 r.element).val :=
    (index_val (h.signals _ (signal role))).symm
  unfold inputRoleOf
  split
  next role => exact role
  next role => exact ⟨role, atHead (by simp [role])⟩
  next role => exact ⟨role, atHead (by simp [role])⟩
  next role => exact ⟨role, atPoint (by simp [role])⟩
  next role => exact ⟨role, atPoint (by simp [role])⟩
  next =>
    have role : r.role = 5 ∨ r.role = 6 ∨ r.role = 7 := by grind
    obtain role | role | role := role
    all_goals
      rw [role]
      exact ⟨role, atSignal (by simp [role])⟩

theorem RawImage.Bindable.outputRole (h : i.Bindable) {r : RawOutput} (listed : r ∈ i.outputs) :
    r.Stores (outputRoleOf r) := by
  have sound := h.output r listed
  simp only [RawImage.OutputBroken, not_or, not_and, not_not, not_lt] at sound
  obtain ⟨-, -, -, known, -, -, signal, point⟩ := sound
  have atSignal (role : r.role ∈ [1, 2, 3]) : r.element = (index 15 r.element).val :=
    (index_val (h.signals _ (signal role))).symm
  have atPoint (role : r.role ∈ [4, 5]) : r.element = (index 15 r.element).val :=
    (index_val (h.points _ (point role))).symm
  unfold outputRoleOf
  split
  next role => exact role
  next role => exact ⟨role, atPoint (by simp [role])⟩
  next role => exact ⟨role, atPoint (by simp [role])⟩
  next =>
    have role : r.role = 1 ∨ r.role = 2 ∨ r.role = 3 := by grind
    obtain role | role | role := role
    all_goals
      rw [role]
      exact ⟨role, atSignal (by simp [role])⟩

/-! ## The inputs and outputs that an image gives -/

/-- An input is what the image gives the number in the class: what the record says, or the default
where none is listed (R2, R3, R4, log 41). -/
def RawImage.GivesInput (i : RawImage) (cls number default least most : Nat) (x : InputRec) :
    Prop :=
  (∀ r ∈ i.inputs, r.cls = cls → r.number = number → r.Stores x.role ∧ x.inverted = r.inverted ∧
    x.filter.length = if r.length = 0 then default else max least (min most r.length)) ∧
  ((∀ r ∈ i.inputs, r.cls = cls → r.number ≠ number) →
    x = ⟨.unbound, false, ⟨default, [], false⟩⟩)

/-- An output is what the image gives the number in the class (R10, log 41). -/
def RawImage.GivesOutput (i : RawImage) (cls number : Nat) (x : OutputRec) : Prop :=
  (∀ r ∈ i.outputs, r.cls = cls → r.number = number →
    r.Stores x.role ∧ (x.code = true ↔ r.code = 1) ∧ (x.safeOn = true ↔ r.safe = 1)) ∧
  ((∀ r ∈ i.outputs, r.cls = cls → r.number ≠ number) →
    x.role = .unbound ∧ x.code = false ∧ x.safeOn = false)

theorem RawImage.Bindable.givesInput (h : i.Bindable) {cls default least most : Nat}
    (lengths : ∀ v, filterLength cls v = if v = 0 then default else max least (min most v))
    (number : Nat) :
    i.GivesInput cls number default least most (configuredInput i cls default number) := by
  constructor
  · rintro r listed rfl rfl
    rw [configuredInput_listed h.inputs listed]
    exact ⟨h.inputRole listed, rfl, lengths r.length⟩
  · exact configuredInput_unlisted

theorem RawImage.Bindable.givesOutput (h : i.Bindable) (cls number : Nat) (old : OutputRec) :
    i.GivesOutput cls number (configuredOutput i cls number old) := by
  constructor
  · rintro r listed rfl rfl
    rw [configuredOutput_listed h.outputs listed]
    exact ⟨h.outputRole listed, beq_iff_eq, beq_iff_eq⟩
  · intro unlisted
    rw [configuredOutput_unlisted unlisted]
    exact ⟨rfl, rfl, rfl⟩

/-- The energised state of an output is not the image's. -/
theorem RawImage.GivesOutput.of_fixed {cls number : Nat} {x y : OutputRec}
    (h : i.GivesOutput cls number y) (same : x.fixed = y.fixed) : i.GivesOutput cls number x := by
  obtain ⟨role, code, safe, -⟩ := OutputRec.mk.injEq .. ▸ same
  simpa only [RawImage.GivesOutput, ← role, ← code, ← safe] using h

/-- The filters of an image are started again (R6). -/
theorem configuredInput_filter (i : RawImage) (cls default number : Nat) :
    (configuredInput i cls default number).filter.history = [] ∧
      (configuredInput i cls default number).filter.value = false := by
  unfold configuredInput
  split <;> exact ⟨rfl, rfl⟩

/-! ## Outside RUN -/

section
variable (s : State)

/-- Outside RUN every commanded aspect is DANGER (R93, R96). -/
theorem State.commanded_outside_run (h : s.sld.station ≠ .run) (g : Fin 16) :
    s.commanded g = .danger := by
  have base (r : Fin 64) (c : RouteCfg) : s.conditionBase r c = false :=
    Bool.eq_false_of_not_eq_true fun holds => h ((s.conditionBase_iff r c).1 holds).1
  unfold State.commanded
  split
  · rfl
  · split <;> simp [State.cautionCondition, State.callOnCondition, base]

theorem State.shown_outside_run (h : s.sld.station ≠ .run) (g : Fin 16) : s.shown g = .danger := by
  have least := (s.shown_le g).1
  rw [s.commanded_outside_run h] at least
  exact Aspect.rank_inj (Nat.le_zero.1 least)

/-- An event that begins outside RUN leaves the waiting telegrams as its own effect does. -/
theorem RestOfEvent.waiting {b u t : State} (h : RestOfEvent b u t)
    (outside : b.sld.station ≠ .run) : t.slu.waiting = u.slu.waiting := by
  have status := h.statusStays fun moved => outside moved.1
  have page (p : Page) := h.pageStays p fun moved => outside moved.1
  have zero : t.slu.displayZero = u.slu.displayZero := (page .zero).1
  have one : t.slu.displayOne = u.slu.displayOne := (page .one).1
  simp only [StationLine.waiting, h.lines.1, status.slot, zero, one]

/-! ## The own effect of the end of the reading -/

theorem State.refuseImage_eq (code : Byte) (delivered : List Byte) : s.refuseImage code delivered =
    { s with
      sld := { s.sld with
        station := .halt, check := .refused, faultCode := code
        ownAddress := headerAddress delivered, reading := .stopped }
      hou := { s.hou with statusPeriod :=
        if (headerAddress delivered).isSome then .startMs s.config.statusPeriod
        else s.hou.statusPeriod } }.setFault .configFault code := by
  simp only [State.refuseImage, State.startRefusedStatus]
  cases (headerAddress delivered).isSome <;> rfl

/-- What the acceptance of an image leaves: its tables and inputs in force, its outputs bound, and
the records that no table gives as they were. -/
structure Accepted (s : State) (delivered : List Byte) (u : State) : Prop where
  loader : u.sld = { s.sld with
    station := .quiet, check := .accepted, faultCode := 0
    ownAddress := some (delivered.getD 6 0), reading := .stopped, quiet := .start 30 }
  config : u.config = zoneConfig (rawImage (delivered.take (imageLength delivered)))
  fields : u.fsu = s.fsu.configure (rawImage (delivered.take (imageLength delivered)))
  counts : u.acu = s.acu
  points : u.pcu = s.pcu
  locks : u.lku.sections = s.lku.sections ∧ u.lku.points = s.lku.points ∧
    u.lku.signals = s.lku.signals
  signals : u.asu = s.asu
  pool : u.rtp = s.rtp
  lines : ∀ l : Line, (u.line l).health = .running 21
  waiting : u.slu.waiting = s.slu.waiting
  neighbours : u.hou.neighbours = s.hou.neighbours
  commands : u.cmu = s.cmu

theorem State.acceptImage_accepted (delivered : List Byte) :
    Accepted s delivered (s.acceptImage delivered) := by
  constructor
  case lines => intro l; cases l <;> rfl
  all_goals simp [State.acceptImage, Loader.accept, StationLine.waiting, Config.quietTime]

end

/-! ## The event of an acceptance -/

theorem FieldScan.configure_inputs (u : FieldScan) (i : RawImage) :
    (∀ k : Fin 48, (u.configure i).sensors[k] = configuredInput i 0 3 k.val) ∧
      ∀ k : Fin 80, (u.configure i).contacts[k] = configuredInput i 1 8 k.val := by
  simp [FieldScan.configure]

theorem FieldScan.configure_outputs (u : FieldScan) (i : RawImage) :
    (∀ k : Fin 48, (u.configure i).lamps[k] = configuredOutput i 0 k.val u.lamps[k]) ∧
      ∀ k : Fin 32, (u.configure i).drives[k] = configuredOutput i 1 k.val u.drives[k] := by
  simp [FieldScan.configure]

theorem FieldScan.configure_onHalf (u : FieldScan) (i : RawImage) :
    (u.configure i).onHalf = u.onHalf := by
  simp only [FieldScan.configure]

section
variable {s u t : State} {delivered : List Byte}

/-- The inputs and outputs after the event, where the image passed check 5. -/
theorem Consequences.gives (event : Consequences s u t) (accepted : Accepted s delivered u)
    (bindable : (rawImage (delivered.take (imageLength delivered))).Bindable) :
    let i := rawImage (delivered.take (imageLength delivered))
    (∀ k : Fin 48, i.GivesInput 0 k.val 3 2 6 t.fsu.sensors[k]) ∧
    (∀ k : Fin 80, i.GivesInput 1 k.val 8 4 16 t.fsu.contacts[k]) ∧
    (∀ k : Fin 48, i.GivesOutput 0 k.val t.fsu.lamps[k]) ∧
    (∀ k : Fin 32, i.GivesOutput 1 k.val t.fsu.drives[k]) := by
  obtain ⟨sensors, contacts, -⟩ := event.inputs
  have inputs := s.fsu.configure_inputs (rawImage (delivered.take (imageLength delivered)))
  have outputs := s.fsu.configure_outputs (rawImage (delivered.take (imageLength delivered)))
  rw [← accepted.fields, ← sensors, ← contacts] at inputs
  rw [← accepted.fields] at outputs
  refine ⟨fun k => ?_, fun k => ?_, fun k => ?_, fun k => ?_⟩
  · rw [inputs.1]
    exact bindable.givesInput (fun _ => rfl) k.val
  · rw [inputs.2]
    exact bindable.givesInput (fun _ => rfl) k.val
  · exact (outputs.1 k ▸ bindable.givesOutput 0 k.val _).of_fixed (event.lamps k)
  · exact (outputs.2 k ▸ bindable.givesOutput 1 k.val _).of_fixed (event.drives k)

/-- Every filter is started again (R6). -/
theorem Consequences.filters_started (event : Consequences s u t)
    (accepted : Accepted s delivered u) :
    (∀ k : Fin 48, (t.fsu.sensors[k]).filter.history = [] ∧
      (t.fsu.sensors[k]).filter.value = false) ∧
    ∀ k : Fin 80, (t.fsu.contacts[k]).filter.history = [] ∧
      (t.fsu.contacts[k]).filter.value = false := by
  obtain ⟨sensors, contacts, -⟩ := event.inputs
  have inputs := s.fsu.configure_inputs (rawImage (delivered.take (imageLength delivered)))
  rw [← accepted.fields, ← sensors, ← contacts] at inputs
  simp only [inputs, configuredInput_filter, and_self, implies_true]

/-- Conditions but LAMP_FAILED stand as the own effect leaves them. -/
theorem Consequences.other_faults (event : Consequences s u t) (c : Condition)
    (other : c.kind ≠ .lampFailed) : c ∈ t.cmu.faults ↔ c ∈ u.cmu.faults := by
  rw [event.faults]
  refine and_iff_left ?_
  rintro ⟨g, l, -, rfl⟩
  exact other rfl

/-- Outside RUN every signal shows DANGER, and keeps it shown. -/
theorem Consequences.kept_danger (event : Consequences s u t) (outside : t.sld.station ≠ .run)
    (g : Fin 16) : (t.asu.signals[g]).kept = .danger := by
  rw [event.kept, t.shown_outside_run outside]

end

/-- Settles O11: the checks by `imageFault_iff`, and both outcomes by their own effect and the rest
of the event. -/
theorem imageChecksDecideQuietOrHalt : Obligations.ImageChecksDecideQuietOrHalt := by
  intro s delivered reading image inputRole outputRole input output
  obtain ⟨first, passes⟩ := imageFault_iff delivered
  refine ⟨imageLayout_rawImage _, by decide +kernel, first, passes, rfl,
    headerAddress_iff delivered, fun sound => ?_, ?_⟩
  · obtain ⟨u, effect, accepted⟩ : ∃ u, s.configReadEnd delivered = u ∧ Accepted s delivered u :=
      ⟨_, by simp [State.configReadEnd, reading, sound], s.acceptImage_accepted delivered⟩
    obtain ⟨t, run, event⟩ := exec_rest (i := .configReadEnd delivered) (congrArg some effect)
    have refused := passes.1 sound
    have bindable : image.Bindable :=
      RawImage.bindable fun broken => refused .reference (.inl broken)
    obtain ⟨-, -, -, config⟩ := event.surroundings
    obtain ⟨sensors, contacts, lamps, drives⟩ := event.toConsequences.gives accepted bindable
    obtain ⟨-, lineA, lineB, -⟩ := event.lines
    obtain ⟨sections, points, signals⟩ := accepted.locks
    obtain ⟨queue, -⟩ := event.commands
    have outside : t.sld.station ≠ .run := by rw [event.loader, accepted.loader]; nofun
    refine ⟨t, run, event.loader.trans accepted.loader,
      config.trans accepted.config, ?_, sensors, contacts, lamps, drives, ?_, ?_, ?_⟩
    · rw [config, accepted.config]
      exact tablesOf_zoneConfig refused
    · rw [State.line, lineA]
      exact accepted.lines .a
    · rw [State.line, lineB]
      exact accepted.lines .b
    obtain ⟨sensorFilters, contactFilters⟩ := event.toConsequences.filters_started accepted
    have half : u.fsu.onHalf = s.fsu.onHalf := by
      rw [accepted.fields, FieldScan.configure_onHalf]
    refine ⟨sensorFilters, contactFilters, event.outputs, event.inputs.2.2.trans half,
      event.counts.trans accepted.counts, event.points.trans accepted.points, ?_, ?_, ?_,
      event.pool.trans accepted.pool, event.neighbours.trans accepted.neighbours, ?_, ?_,
      fun g => ⟨?_, event.toConsequences.kept_danger outside g⟩, fun c other => ?_⟩
    · rw [event.locks, sections]
    · rw [event.locks, points]
    · rw [event.locks, signals]
    · rw [queue, accepted.commands]
    · rw [event.waiting (reading ▸ nofun), accepted.waiting]
    · rw [event.presented, accepted.signals]
    · rw [event.toConsequences.other_faults c other, accepted.commands]
  · intro halted
    have halts (code : Byte) : s.refuseImage code delivered = halted code :=
      s.refuseImage_eq code delivered
    refine ⟨fun why refused => ?_, fun due => ?_⟩
    · have effect : s.configReadEnd delivered = halted why.code := by
        simp [State.configReadEnd, reading, refused, halts]
      exact exec_rest (congrArg some effect)
    · have effect : s.configReadTimeout delivered = halted ImageFault.read.code := by
        simp [State.configReadTimeout, reading, due, halts]
      exact exec_rest (congrArg some effect)

end Sys2Proof.Machine
end

section
/-! What reset leaves in each block. -/

namespace Sys2Proof.Machine

open Sys2Proof

/-- Every lamp record at reset is the reset record of R92. -/
theorem State.reset_lampRec (g : Fin 16) (l : Lamp) : State.reset.lampRec g l = .reset := by
  cases l <;> simp [State.lampRec, State.reset, AspectUnit.reset, SignalRec.lamp]

/-- Settles O7: the tables of each block are replicated records, and RESET is `State.resetKeeping`.
-/
theorem resetLeavesTheStatedValues : Obligations.ResetLeavesTheStatedValues := by
  refine ⟨?_, fun s => rfl⟩
  simp only [State.reset_lampRec]
  simp [State.reset, FieldScan.reset, FilterRec.started, AxleCount.reset, PointControl.reset,
    Locking.reset, RouteRec.idle, Hold.idle, AspectUnit.reset, LampRec.reset, TimerPool.reset,
    StationLine.reset, StationLine.waiting, Receiver.reset, Handover.reset, PortionRec.idle,
    CommandUnit.reset, State.faultOutput, Loader.reset]

end Sys2Proof.Machine
end

section
/-! The class-1 queue, the timer pool and the fault set, followed through every operation: the queue
stays within its 16 places (R134), a route waits only while all pool timers are in use (R115), the
fault set stays in the order of the fault list (R164), and the conditions that mirror a record
(R22, R103, R150) are moved by the events of that record alone. -/

namespace Sys2Proof.Machine

open Sys2Proof

/-- The fault kinds whose conditions follow a record of another block (R22, R103, R150, R163). -/
def FaultKind.mirrored : FaultKind → Bool
  | .headSequence | .lampFailed | .strayProving | .neighbourBlocked => true
  | _ => false

/-- From `s` to `t` the laws of the class-1 queue, of the pool and of the fault set are kept. -/
structure Orderly (s t : State) : Prop where
  classOne : s.slu.classOne.length ≤ 16 → t.slu.classOne.length ≤ 16
  pool : s.PoolFullWhileWaiting → t.PoolFullWhileWaiting
  order : s.FaultsOrdered → t.FaultsOrdered

/-- From `s` to `t` these laws are kept, and no condition that mirrors a record moves. -/
structure MirrorStays (s t : State) : Prop extends Orderly s t where
  mirrored : ∀ c : Condition, c.kind.mirrored = true → (c ∈ t.cmu.faults ↔ c ∈ s.cmu.faults)

/-- The tables of these laws are in `t` as in `s`. -/
def SameLedgers (s t : State) : Prop :=
  t.slu.classOne = s.slu.classOne ∧ t.rtp = s.rtp ∧ t.cmu.faults = s.cmu.faults

@[simp] theorem sameLedgers_iff (s t : State) : SameLedgers s t ↔
    t.slu.classOne = s.slu.classOne ∧ t.rtp = s.rtp ∧ t.cmu.faults = s.cmu.faults := .rfl

theorem Orderly.of_same {s t : State} (h : SameLedgers s t) : Orderly s t := by
  obtain ⟨classOne, pool, faults⟩ := h
  constructor
  · rw [classOne]; exact id
  · rw [State.PoolFullWhileWaiting, State.PoolFullWhileWaiting, pool]; exact id
  · rw [State.FaultsOrdered, State.FaultsOrdered, faults]; exact id

theorem MirrorStays.of_same {s t : State} (h : SameLedgers s t) : MirrorStays s t :=
  ⟨.of_same h, fun c _ => by rw [h.2.2]⟩

theorem MirrorStays.refl (s : State) : MirrorStays s s := .of_same ⟨rfl, rfl, rfl⟩

theorem Orderly.trans {s t u : State} (h : Orderly s t) (k : Orderly t u) : Orderly s u :=
  ⟨k.classOne ∘ h.classOne, k.pool ∘ h.pool, k.order ∘ h.order⟩

theorem MirrorStays.trans {s t u : State} (h : MirrorStays s t) (k : MirrorStays t u) :
    MirrorStays s u :=
  ⟨h.toOrderly.trans k.toOrderly, fun c m => (k.mirrored c m).trans (h.mirrored c m)⟩

/-- An operation that leaves the tables, after one that keeps the laws. -/
theorem MirrorStays.andSame {s t u : State} (h : MirrorStays s t) (k : SameLedgers t u) :
    MirrorStays s u := h.trans (.of_same k)

/-- An operation that keeps the laws, after one that leaves the tables. -/
theorem MirrorStays.after {s t u : State} (k : MirrorStays t u) (h : SameLedgers s t) :
    MirrorStays s u := (MirrorStays.of_same h).trans k

theorem State.forEach_mirror {α : Type} (f : State → α → State)
    (h : ∀ s x, MirrorStays s (f s x)) (s : State) (xs : List α) :
    MirrorStays s (s.forEach xs f) :=
  State.forEach_induct (MirrorStays s) f (fun t x k => k.trans (h t x)) s xs (.refl s)

/-! ## The fault set (R164) -/

theorem FaultKind.code_inj {a b : FaultKind} (h : a.code = b.code) : a = b := by
  revert h
  cases a <;> cases b <;> decide

theorem Condition.key_inj {c d : Condition} (h : c.key = d.key) : c = d := by
  obtain ⟨a, x⟩ := c
  obtain ⟨b, y⟩ := d
  have hx := x.isLt
  have hy := y.isLt
  simp only [Condition.key] at h
  obtain rfl : a = b := FaultKind.code_inj (BitVec.eq_of_toNat_eq (by omega))
  obtain rfl : x = y := BitVec.eq_of_toNat_eq (by omega)
  rfl

/-- A condition set takes its place in the order, or stands there already. -/
theorem setCondition_ordered (c : Condition) {l : List Condition}
    (h : l.Pairwise fun c d => c.key < d.key) :
    (setCondition c l).Pairwise fun c d => c.key < d.key := by
  induction l with
  | nil => simp [setCondition]
  | cons x xs ih =>
    obtain ⟨first, rest⟩ := List.pairwise_cons.1 h
    unfold setCondition
    split
    · exact h
    next other =>
      split
      · next less =>
        refine List.pairwise_cons.2 ⟨fun d mem => ?_, h⟩
        obtain rfl | mem := List.mem_cons.1 mem
        · exact less
        · exact less.trans (first d mem)
      · next least =>
        have greater : x.key < c.key :=
          Nat.lt_of_le_of_ne (Nat.le_of_not_lt least) fun e => other (Condition.key_inj e.symm)
        refine List.pairwise_cons.2 ⟨fun d mem => ?_, ih rest⟩
        obtain rfl | mem := (mem_setCondition c d xs).1 mem
        · exact greater
        · exact first d mem

theorem clearCondition_ordered (c : Condition) {l : List Condition}
    (h : l.Pairwise fun c d => c.key < d.key) :
    (clearCondition c l).Pairwise fun c d => c.key < d.key := h.filter _

theorem putCondition_ordered (c : Condition) (v : Bool) {l : List Condition}
    (h : l.Pairwise fun c d => c.key < d.key) :
    (putCondition c v l).Pairwise fun c d => c.key < d.key := by
  unfold putCondition
  split
  · exact setCondition_ordered c h
  · exact clearCondition_ordered c h

section
variable (s : State)

theorem State.setFault_orderly (kind : FaultKind) (e : Byte) : Orderly s (s.setFault kind e) :=
  ⟨id, id, setCondition_ordered _⟩

theorem State.clearFault_orderly (kind : FaultKind) (e : Byte) : Orderly s (s.clearFault kind e) :=
  ⟨id, id, clearCondition_ordered _⟩

theorem State.setFault_mirror {kind : FaultKind} (h : kind.mirrored = false) (e : Byte) :
    MirrorStays s (s.setFault kind e) := by
  refine ⟨s.setFault_orderly kind e, fun c m => ?_⟩
  have other : c ≠ ⟨kind, e⟩ := by
    rintro rfl
    exact absurd m (by simp [h])
  simp [other]

theorem State.clearFault_mirror {kind : FaultKind} (h : kind.mirrored = false) (e : Byte) :
    MirrorStays s (s.clearFault kind e) := by
  refine ⟨s.clearFault_orderly kind e, fun c m => ?_⟩
  have other : c ≠ ⟨kind, e⟩ := by
    rintro rfl
    exact absurd m (by simp [h])
  simp [other]

theorem State.updRoute_mirror (r : Fin 64) (f : RouteRec → RouteRec) :
    MirrorStays s (s.updRoute r f) := .of_same (by simp)

/-! ## Telegrams (R134) -/

theorem State.placeClassOne_mirror (dest : Byte) (code : Word) (p : Payload) :
    MirrorStays s (s.placeClassOne dest code p) := by
  unfold State.placeClassOne
  split
  · exact .refl s
  · next room => exact ⟨⟨fun _ => by simp; omega, id, id⟩, fun _ _ => .rfl⟩

theorem State.toNeighbour_mirror (n : Fin 4) (p : Payload) : MirrorStays s (s.toNeighbour n p) := by
  unfold State.toNeighbour
  split
  · exact .refl s
  · exact s.placeClassOne_mirror _ _ p

theorem State.toPanel_mirror (n : Fin 2) (p : Payload) : MirrorStays s (s.toPanel n p) := by
  unfold State.toPanel
  split
  · exact .refl s
  · exact s.placeClassOne_mirror _ _ p

theorem State.toNeighbourAll_mirror (n : Fin 4) (ps : List Payload) :
    MirrorStays s (s.toNeighbourAll n ps) :=
  State.forEach_mirror _ (fun t p => t.toNeighbour_mirror n p) s ps

theorem State.handBack_mirror (k : Fin 8) : MirrorStays s (s.handBack k) := by
  unfold State.handBack
  split
  · exact .refl s
  · exact (State.toNeighbour_mirror _ _ _).after (by simp)

theorem State.handBackAll_mirror (r : Fin 64) : MirrorStays s (s.handBackAll r) :=
  State.forEach_mirror _ State.handBack_mirror s _

theorem State.makeOffer_mirror (r : Fin 64) (q : RemoteRequest) :
    MirrorStays s (s.makeOffer r q) := by
  unfold State.makeOffer
  split
  · exact .refl s
  · exact (State.toNeighbour_mirror _ _ _).after (by simp)

/-! ## The timer pool (R115 to R117) -/

/-- Every pool timer but one is in use while a route waits. -/
def State.PoolFullBut (s : State) (k : Fin 16) : Prop :=
  s.rtp.queue ≠ [] → ∀ j : Fin 16, j ≠ k → (s.rtp.timers[j]).isSome

/-- The timer that has become free goes to the head of the queue, so all are in use again. -/
theorem State.grantHead_full {k : Fin 16} (h : s.PoolFullBut k) :
    (s.grantHead k).PoolFullWhileWaiting := by
  unfold State.grantHead
  split
  · next empty => exact fun waiting => absurd empty waiting
  · next r rest waiting =>
    intro _ j
    have others := h (by simp [waiting]) j
    simp only [State.grantTimer, State.updRoute_keeps, State.updPoolTimer_timers, upd_get]
    split
    · rfl
    · next other => simpa using others (Ne.symm other)

theorem State.grantHead_ledgers (k : Fin 16) :
    (s.grantHead k).slu.classOne = s.slu.classOne ∧
      (s.grantHead k).cmu.faults = s.cmu.faults := by simp

theorem State.requestTimer_mirror (r : Fin 64) : MirrorStays s (s.requestTimer r) := by
  refine ⟨⟨by simp, fun full => ?_, by simp [State.FaultsOrdered]⟩, by simp⟩
  unfold State.requestTimer
  split
  · next k free =>
    have isNone := List.find?_some free
    intro waiting
    have used := full (by simpa [State.grantTimer] using waiting) k
    simp_all
  · next used =>
    intro _ k
    simpa [Option.isSome_iff_ne_none] using List.find?_eq_none.1 used k (List.mem_finRange k)

theorem State.giveUpTimer_mirror (r : Fin 64) : MirrorStays s (s.giveUpTimer r) := by
  refine ⟨⟨by simp, fun full => ?_, by simp [State.FaultsOrdered]⟩, by simp⟩
  simp only [State.giveUpTimer]
  split
  · exact full
  · exact fun waiting => full fun empty => waiting (by simp [empty])
  · next k _ =>
    refine State.grantHead_full _ fun waiting j other => ?_
    have used := full (by simpa using waiting) j
    simpa [upd_other _ _ _ _ (Ne.symm other)] using used

/-! ## Releases -/

theorem State.fullRelease_mirror (r : Fin 64) : MirrorStays s (s.fullRelease r) := by
  unfold State.fullRelease
  exact (((State.handBackAll_mirror _ r).after (by simp)).trans
    (State.giveUpTimer_mirror _ r)).trans (State.updRoute_mirror _ r _)

theorem State.failSetting_mirror (r : Fin 64) : MirrorStays s (s.failSetting r) := by
  unfold State.failSetting
  split
  · exact s.fullRelease_mirror r
  · exact .refl s

theorem State.tryOverlap_mirror (o : Owner) : MirrorStays s (s.tryOverlap o) :=
  .of_same (by simp)

theorem State.enterOverlapHeld_mirror (r : Fin 64) : MirrorStays s (s.enterOverlapHeld r) := by
  simp only [State.enterOverlapHeld]
  split
  · exact .of_same (by simp)
  · exact (State.requestTimer_mirror _ r).after (by simp)

theorem State.endPath_mirror (o : Owner) : MirrorStays s (s.endPath o) := by
  cases o with
  | route r =>
    have back : MirrorStays s ((s.dropFlank (.route r)).handBackAll r) :=
      (State.handBackAll_mirror _ r).after (by simp)
    simp only [State.endPath]
    split
    · exact back.trans (State.enterOverlapHeld_mirror _ r)
    · exact back.andSame (by simp)
  | portion p =>
    simp only [State.endPath]
    split <;> exact .of_same (by simp)

theorem State.followTrain_mirror (o : Owner) (k : Fin 32) (occ : Bool) :
    MirrorStays s (s.followTrain o k occ) := by
  simp only [State.followTrain]
  split
  · exact (State.endPath_mirror _ o).after (by simp)
  · exact .of_same (by simp)

theorem State.cancelLocked_mirror (r : Fin 64) : MirrorStays s (s.cancelLocked r) := by
  unfold State.cancelLocked
  split
  · exact s.fullRelease_mirror r
  · exact (State.requestTimer_mirror _ r).after (by simp)

/-! ## Setting -/

theorem State.completionTest_mirror (r : Fin 64) : MirrorStays s (s.completionTest r) := by
  unfold State.completionTest
  split
  · exact (State.clearFault_mirror _ rfl _).after (by simp)
  · exact .refl s

theorem State.completionTests_mirror (rs : List (Fin 64)) : MirrorStays s (s.completionTests rs) :=
  State.forEach_mirror _ State.completionTest_mirror s rs

theorem State.dispossess_mirror (o : Owner) : MirrorStays s (s.dispossess o) := by
  cases o with
  | route r =>
    simp only [State.dispossess]
    split
    · exact ((State.giveUpTimer_mirror _ r).after (by simp)).trans (State.updRoute_mirror _ r _)
    · exact .of_same (by simp)
  | portion p =>
    simp only [State.dispossess]
    split <;> exact .of_same (by simp)

theorem State.dispossessAll_mirror (os : List Owner) : MirrorStays s (s.dispossessAll os) :=
  State.forEach_mirror _ State.dispossess_mirror s os

theorem State.offerFlank_mirror (r : Fin 64) (e : FlankElement) :
    MirrorStays s (s.offerFlank r e) := by
  unfold State.offerFlank
  split
  · exact (s.makeOffer_mirror r _).trans (State.updRoute_mirror _ r _)
  · exact .refl s

theorem State.offerFlanks_mirror (r : Fin 64) (es : List FlankElement) :
    MirrorStays s (s.offerFlanks r es) :=
  State.forEach_mirror _ (fun t e => t.offerFlank_mirror r e) s es

theorem State.offerPortion_mirror (r : Fin 64) (request : Option (Fin 4 × Fin 16)) :
    MirrorStays s (s.offerPortion r request) := by
  unfold State.offerPortion
  split
  · exact .refl s
  · exact s.makeOffer_mirror r _

theorem State.takeRoute_mirror (r : Fin 64) (c : RouteCfg) (chosen : List (Fin 48)) :
    MirrorStays s (s.takeRoute r c chosen) := by
  have gone := s.dispossessAll_mirror (s.predecessors c.entry c.plan)
  simp only [State.takeRoute]
  exact (((gone.andSame (by simp)).trans (State.offerPortion_mirror _ r c.request)).trans
    (State.offerFlanks_mirror _ r _)).trans (State.completionTest_mirror _ r)

/-! ## Notices and the timers of the locking unit -/

theorem State.notePassed_mirror (r : Fin 64) (g : Fin 16) : MirrorStays s (s.notePassed r g) :=
  (s.setFault_mirror (kind := .passedAtDanger) rfl _).trans (State.updRoute_mirror _ r _)

theorem State.trainEntry_mirror (r : Fin 64) (g : Fin 16) : MirrorStays s (s.trainEntry r g) := by
  have first : MirrorStays s
      (if (s.lku.routes[r]).state = .approachHeld then s.giveUpTimer r else s) := by
    split
    · exact s.giveUpTimer_mirror r
    · exact .refl s
  unfold State.trainEntry
  generalize (if (s.lku.routes[r]).state = .approachHeld then s.giveUpTimer r else s) = t at first
  simp only
  split
  · exact (first.andSame (by simp)).trans (State.notePassed_mirror _ r g)
  · exact first.andSame (by simp)

theorem State.entryNotice_mirror (r : Fin 64) (k : Fin 32) (occ : Bool) :
    MirrorStays s (s.entryNotice r k occ) := by
  unfold State.entryNotice
  split
  · exact .refl s
  · split
    · split
      · exact s.notePassed_mirror r _
      · exact s.trainEntry_mirror r _
    · exact .refl s

theorem State.routeNotice_mirror (r : Fin 64) (x : Role) (k : Fin 32) (occ : Bool) :
    MirrorStays s (s.routeNotice r x k occ) := by
  unfold State.routeNotice
  split
  · exact .refl s
  · exact s.entryNotice_mirror r k occ
  · exact s.entryNotice_mirror r k occ
  · exact s.entryNotice_mirror r k occ
  · exact s.followTrain_mirror _ k occ
  · exact .of_same (by split <;> simp)

theorem State.portionNotice_mirror (p : Fin 16) (x : Role) (k : Fin 32) (occ : Bool) :
    MirrorStays s (s.portionNotice p x k occ) := by
  unfold State.portionNotice
  split
  · exact .refl s
  · exact .of_same (by split <;> simp)
  · exact .of_same (by split <;> simp)
  · exact s.followTrain_mirror _ k occ
  · exact .of_same (by split <;> simp)

theorem State.sectionNotice_mirror (k : Fin 32) : MirrorStays s (s.sectionNotice k) := by
  have act : ∀ (t : State) (occ : Bool), MirrorStays t (t.actOnNotice k occ) := fun t occ => by
    unfold State.actOnNotice
    split
    · exact .refl t
    · split
      · exact t.routeNotice_mirror _ _ k occ
      · exact t.portionNotice_mirror _ _ k occ
  simp only [State.sectionNotice]
  split
  · exact (act _ _).after (by simp)
  · exact .refl s

theorem State.pointNotice_mirror (p : Fin 16) : MirrorStays s (s.pointNotice p) := by
  have act : ∀ t : State, MirrorStays t (t.actOnPoint p) := fun t =>
    (t.completionTests_mirror (t.routesOn p)).andSame (by simp [State.actOnPoint])
  unfold State.pointNotice
  split
  · exact (act _).after (by simp)
  · exact .refl s

theorem State.settingExpiry_mirror (r : Fin 64) : MirrorStays s (s.settingExpiry r) := by
  simp only [State.settingExpiry]
  split
  · exact (s.fullRelease_mirror r).trans (State.setFault_mirror _ rfl _)
  · exact .refl s

theorem State.workExpiry_mirror (r : Fin 64) : MirrorStays s (s.workExpiry r) := by
  unfold State.workExpiry
  split
  · exact s.fullRelease_mirror r
  · exact s.tryOverlap_mirror _
  · exact .refl s

/-! ## The expiry of a pool timer (R117) -/

theorem State.removeOffer_pool (k : Fin 8) (r : Fin 64) :
    ((s.removeOffer k).lku.routes[r]).pool = (s.lku.routes[r]).pool := by
  unfold State.removeOffer
  split
  · rfl
  · rw [State.updRoute_routes, upd_get]
    split <;> simp [RouteRec.dropOffer]

theorem State.handBack_pool (k : Fin 8) (r : Fin 64) :
    ((s.handBack k).lku.routes[r]).pool = (s.lku.routes[r]).pool := by
  unfold State.handBack
  split
  · rfl
  · rw [← s.removeOffer_pool k r]
    simp

theorem State.handBackAll_pool (x r : Fin 64) :
    ((s.handBackAll x).lku.routes[r]).pool = (s.lku.routes[r]).pool :=
  State.forEach_keeps (fun t => (t.lku.routes[r]).pool) _ (fun t k => t.handBack_pool k r) s _

theorem State.dropFlank_pool (o : Owner) (r : Fin 64) :
    ((s.dropFlank o).lku.routes[r]).pool = (s.lku.routes[r]).pool := by
  cases o with
  | route x =>
    simp only [State.dropFlank, State.updHold, State.updRoute_routes, upd_get]
    split <;> simp
  | portion p => simp [State.dropFlank, State.updHold]

/-- A route without a timer or a queue place leaves the pool at its full release (R86, R116). -/
theorem State.fullRelease_pool {r : Fin 64} (h : (s.lku.routes[r]).pool = .none) :
    (s.fullRelease r).rtp = s.rtp ∧
      ∀ x : Fin 64, x ≠ r → ((s.fullRelease r).lku.routes[x]).pool = (s.lku.routes[x]).pool := by
  have pool : ∀ x : Fin 64, ((((s.freeElements (.route r) anyRole).dropFlank
      (.route r)).handBackAll r).lku.routes[x]).pool = (s.lku.routes[x]).pool := fun x => by
    rw [State.handBackAll_pool, State.dropFlank_pool]
    simp
  have idle : s.fullRelease r =
      (((s.freeElements (.route r) anyRole).dropFlank (.route r)).handBackAll r).idleRoute r := by
    simp only [State.fullRelease, State.giveUpTimer, pool, h]
  rw [idle]
  refine ⟨by simp, fun x other => ?_⟩
  rw [← pool x, State.idleRoute, State.updRoute_routes, upd_other _ _ _ _ other.symm]

theorem State.poolExpiry_mirror (k : Fin 16) : MirrorStays s (s.poolExpiry k) := by
  unfold State.poolExpiry
  split
  · exact .refl s
  next x used =>
    simp only
    split
    next due =>
      set u := (s.updPoolTimer k none).updRoute x.route fun c => { c with pool := .none } with hu
      have work := u.workExpiry_mirror x.route
      have uncounted : (u.lku.routes[x.route]).pool = .none := by
        rw [hu, State.updRoute_routes, upd_same]
      have pool : (u.workExpiry x.route).rtp = u.rtp := by
        unfold State.workExpiry
        split
        · exact (u.fullRelease_pool uncounted).1
        · simp
        · rfl
      have ledgers := (u.workExpiry x.route).grantHead_ledgers k
      refine ⟨⟨?_, fun full => State.grantHead_full _ fun waiting j other => ?_, ?_⟩, ?_⟩
      · rw [ledgers.1]
        simpa [hu] using work.classOne
      · rw [pool] at waiting ⊢
        have others := full (by simpa [hu] using waiting) j
        simpa [hu, upd_other _ _ _ _ other.symm] using others
      · rw [State.FaultsOrdered, State.FaultsOrdered, ledgers.2]
        simp [hu]
      · rw [ledgers.2]
        simp [hu]
    · exact .refl s

/-! ## Neighbours -/

theorem State.updOffer_mirror (k : Fin 8) (f : Option Offer → Option Offer) :
    MirrorStays s (s.updOffer k f) := .of_same (by simp)

theorem State.removeOffer_mirror (k : Fin 8) : MirrorStays s (s.removeOffer k) := .of_same (by simp)

theorem State.updPortion_mirror (p : Fin 16) (f : PortionRec → PortionRec) :
    MirrorStays s (s.updPortion p f) := .of_same (by simp)

theorem State.setPortion_mirror {t : State} {p : Fin 16} {c : PortionCfg}
    (h : s.setPortion p c = .ok t) : MirrorStays s t := by
  unfold State.setPortion at h
  split at h
  · cases h
  · cases h
    exact .of_same (by simp)

theorem State.takePortionRequest_mirror (n : Fin 4) (number id : Byte) :
    MirrorStays s (s.takePortionRequest n number id) := by
  have answer : ∀ p, MirrorStays s (s.toNeighbour n p) := s.toNeighbour_mirror n
  simp only [State.takePortionRequest]
  split
  · split
    · exact answer _
    · split
      · exact answer _
      · split
        · split <;> exact answer _
        · split
          · exact answer _
          · next set =>
            exact ((s.setPortion_mirror set).andSame (by simp)).trans
              (State.toNeighbour_mirror (State.hostPortion _ _ _ _) n _)
  · exact .refl s

theorem State.takeFlankRequest_mirror (n : Fin 4) (id code element : Byte) :
    MirrorStays s (s.takeFlankRequest n id code element) := by
  have answer : ∀ p, MirrorStays s (s.toNeighbour n p) := s.toNeighbour_mirror n
  simp only [State.takeFlankRequest]
  split
  · split
    · split <;> exact answer _
    · split
      · exact answer _
      · split
        · exact answer _
        · split
          · exact (State.toNeighbour_mirror (s.makeGrant _ _ _ _ _) n _).after (by simp)
          · exact answer _
  · exact .refl s

theorem State.takeGrant_mirror (n : Fin 4) (kind : OfferKind) (id : Byte) (target : Option Byte)
    (release : Payload) : MirrorStays s (s.takeGrant n kind id target release) := by
  unfold State.takeGrant
  split
  · split
    · exact s.toNeighbour_mirror n release
    · split
      · exact (s.updOffer_mirror _ _).trans (State.completionTest_mirror _ _)
      · exact .refl s
  · exact .refl s

theorem State.takeRefuse_mirror (n : Fin 4) (kind : OfferKind) (id : Byte)
    (target : Option Byte) : MirrorStays s (s.takeRefuse n kind id target) := by
  unfold State.takeRefuse
  split
  · split
    · exact .refl s
    · split
      · exact (s.removeOffer_mirror _).trans (State.failSetting_mirror _ _)
      · exact .refl s
  · exact .refl s

theorem State.dropSent_mirror (k : Fin 8) : MirrorStays s (s.dropSent k) := by
  unfold State.dropSent
  split
  · exact .refl s
  · exact (s.handBack_mirror k).trans (State.failSetting_mirror _ _)

theorem State.dropAllSent_mirror (n : Fin 4) : MirrorStays s (s.dropAllSent n) :=
  State.forEach_mirror _ (fun t k => by
    split
    · exact t.dropSent_mirror k
    · exact .refl t) s _

theorem State.silenceEvent_mirror (n : Fin 4) : MirrorStays s (s.silenceEvent n) := by
  have drop := (s.updNeighbour n fun r => { r with
    state := .silent, silence := .stopped, view := none }).dropAllSent_mirror n
  exact (drop.after (by simp)).andSame (by simp [State.silenceEvent])

theorem State.silenceExpiry_mirror (n : Fin 4) : MirrorStays s (s.silenceExpiry n) := by
  unfold State.silenceExpiry
  split
  · exact s.silenceEvent_mirror n
  · exact .refl s

theorem State.reportEvent_mirror (n : Fin 4) (heads : List HeadEntry) :
    MirrorStays s (s.reportEvent n heads) := by
  have implausible : ∀ (t : State) es, MirrorStays t (t.setImplausible es) := fun t es =>
    State.forEach_mirror _ (fun t e => t.setFault_mirror rfl _) t es
  exact (implausible _ _).after (by simp)

theorem State.loseOffer_mirror (r : Fin 64) : MirrorStays s (s.loseOffer r) := by
  unfold State.loseOffer
  split
  · exact s.fullRelease_mirror r
  · exact s.cancelLocked_mirror r
  · exact .refl s

theorem State.loseOffers_mirror (qs : List (Fin 8 × Offer)) : MirrorStays s (s.loseOffers qs) := by
  unfold State.loseOffers
  exact State.forEach_mirror _ (fun t q => t.loseOffer_mirror q.2.route) s qs

theorem State.reconcileOffers_mirror (n : Fin 4) (c : StatusContent) :
    MirrorStays s (s.reconcileOffers n c) := by
  simp only [State.reconcileOffers]
  exact ((State.loseOffers_mirror _ _).after (by simp)).trans (State.completionTests_mirror _ _)

theorem State.answerStray_mirror (n : Fin 4) (c : StatusContent) :
    MirrorStays s (s.answerStray n c) :=
  s.toNeighbourAll_mirror n _

theorem State.hearStatus_mirror (n : Fin 4) (cfg : NeighbourCfg) (c : StatusContent) :
    MirrorStays s (s.hearStatus n cfg c) := by
  simp only [State.hearStatus]
  set u := s.updNeighbour n fun r =>
    { r with state := .alive, silence := .start cfg.silenceLimit, view := some c } with hu
  set v := u.reportEvent n c.heads with hv
  have reported : MirrorStays s v := (u.reportEvent_mirror n c.heads).after (by simp [hu])
  have settled : MirrorStays s
      (if s.alive n then v else (v.reconcileOffers n c).reconcileHosted n c) := by
    split
    · exact reported
    · exact (reported.trans (v.reconcileOffers_mirror n c)).andSame (by simp)
  generalize (if s.alive n then v else (v.reconcileOffers n c).reconcileHosted n c) = w at settled ⊢
  split
  · exact (settled.trans (w.answerStray_mirror n c)).andSame (by simp)
  · exact settled.andSame (by simp)

theorem State.takeStatus_mirror (n : Fin 4) (c : StatusContent) :
    MirrorStays s (s.takeStatus n c) := by
  unfold State.takeStatus
  split
  · exact .refl s
  · split
    · exact s.silenceEvent_mirror n
    · exact s.hearStatus_mirror n _ c

theorem State.applyPolicy_orderly (k : Fin 8) (o : Offer) (x : ReplyPolicy) :
    Orderly s (s.applyPolicy k o x) := by
  have drop := (s.dropSent_mirror k).toOrderly
  cases x with
  | wait => exact (s.updOffer_mirror k _).toOrderly
  | resend =>
    simp only [State.applyPolicy]
    split
    · exact ((s.updOffer_mirror k _).trans (State.toNeighbour_mirror _ _ _)).toOrderly
    · exact drop
  | drop => exact drop
  | block =>
    refine drop.trans (Orderly.trans ?_ (State.dropAllSent_mirror _ _).toOrderly)
    exact (Orderly.of_same (by simp)).trans (State.setFault_orderly (State.updNeighbour _ _ _) _ _)

theorem State.replyExpiry_orderly (k : Fin 8) : Orderly s (s.replyExpiry k) := by
  unfold State.replyExpiry
  repeat' split
  case isTrue => exact s.applyPolicy_orderly k _ _
  all_goals exact (MirrorStays.refl s).toOrderly

/-! ## Received telegrams -/

/-- A condition set where something holds. -/
theorem State.setFaultIf_mirror {kind : FaultKind} (h : kind.mirrored = false) (q : Prop)
    [Decidable q] (e : Byte) : MirrorStays s (if q then s.setFault kind e else s) := by
  split
  · exact s.setFault_mirror h e
  · exact .refl s

theorem State.judgeLines_mirror : MirrorStays s s.judgeLines :=
  (s.setFaultIf_mirror rfl _ 0).trans (State.setFaultIf_mirror _ rfl _ 1)

theorem State.goodTelegram_mirror (l : Line) : MirrorStays s (s.goodTelegram l) :=
  ((State.clearFault_mirror (s.updLine l _) rfl _).after (by simp)).trans
    (State.judgeLines_mirror _)

theorem State.hearFrom_mirror (src : Source) : MirrorStays s (s.hearFrom src) := .of_same (by simp)

theorem State.received_mirror (src : Source) (f : Frame) : MirrorStays s (s.received src f) :=
  ((s.goodTelegram_mirror f.line).trans (State.hearFrom_mirror _ src)).trans
    ((State.clearFault_mirror (State.updWindow _ src _) rfl _).after (by simp))

theorem State.placeResult_mirror (c : QueuedCommand) (why : Option Reason) :
    MirrorStays s (s.placeResult c why) := s.toPanel_mirror c.panel _

theorem State.arrive_mirror (c : QueuedCommand) : MirrorStays s (s.arrive c) := by
  unfold State.arrive
  split
  · exact .refl s
  · exact .refl s
  · split
    · exact .of_same ⟨rfl, rfl, rfl⟩
    · exact s.placeResult_mirror c _
  · exact s.placeResult_mirror c _

theorem State.deliver_mirror (seq : Byte) (src : Source) (p : Payload) :
    MirrorStays s (deliver seq src p s) := by
  unfold deliver
  split
  · exact s.takeStatus_mirror _ _
  · exact s.takePortionRequest_mirror _ _ _
  · exact s.takeGrant_mirror _ _ _ _ _
  · exact s.takeRefuse_mirror _ _ _ _
  · exact .of_same (by simp)
  · exact s.takeFlankRequest_mirror _ _ _ _
  · exact s.takeGrant_mirror _ _ _ _ _
  · exact s.takeRefuse_mirror _ _ _ _
  · exact .of_same (by simp)
  · exact .of_same (by simp)
  · exact s.arrive_mirror _
  · exact .refl s

theorem State.collected_mirror (kind : Byte) (f : Frame) : MirrorStays s (s.collected kind f) := by
  unfold State.collected
  obtain ⟨-, e⟩ | ⟨_, _, _, -, -, e⟩ | ⟨_, _, -, -, e⟩ | ⟨src, p, -, -, e⟩ := receive_cases kind f s
  · rw [e]; exact .refl s
  · rw [e]; exact s.setFault_mirror rfl _
  · rw [e]; exact (s.goodTelegram_mirror f.line).trans (State.hearFrom_mirror _ _)
  · rw [e]; exact (s.received_mirror src f).trans (State.deliver_mirror _ _ src p)

/-! ## Queued commands -/

theorem workSetRoute_mirror (c : QueuedCommand) : MirrorStays s (workSetRoute s c).1 := by
  unfold workSetRoute
  split
  · exact .refl s
  · next r cfg _ =>
    unfold State.setRoute
    cases s.checkRoute r cfg with
    | error why => exact .refl s
    | ok chosen => exact s.takeRoute_mirror r cfg chosen

theorem workCancelRoute_mirror (c : QueuedCommand) : MirrorStays s (workCancelRoute s c).1 := by
  unfold workCancelRoute
  split
  · exact .refl s
  · split
    · exact .refl s
    · exact s.fullRelease_mirror _
    · exact s.cancelLocked_mirror _
    · exact .refl s
    · exact .refl s
    · exact .refl s

theorem workConfirmReset_mirror (c : QueuedCommand) : MirrorStays s (workConfirmReset s c).1 := by
  have execute (t : State) (k : Fin 32) (cfg : SectionCfg) :
      MirrorStays t (t.executeReset k cfg) := by
    simp only [State.executeReset]
    split
    · exact (State.toNeighbour_mirror (t.updSection k SectionRec.prepare) _ _).after (by simp)
    · exact .of_same (by simp)
  simp only [workConfirmReset]
  split
  · exact .refl s
  · split
    · exact .refl s
    · split
      · exact .refl s
      · split
        · exact .of_same (by simp)
        · split
          · exact .of_same (by simp)
          · exact (execute (s.setPendingReset none) _ _).after (by simp)

/-- A queued command is taken, worked and answered (R160, R161). -/
theorem State.runCommand_mirror (isRow : Byte → Bool)
    {work : State → QueuedCommand → State × Option Reason}
    (works : ∀ t c, MirrorStays t (work t c).1) : MirrorStays s (s.runCommand isRow work) := by
  obtain e | ⟨c, rest, -, -, e⟩ := s.runCommand_cases isRow work
  · rw [e]; exact .refl s
  · rw [e]
    have taken : MirrorStays s (s.taken rest) := .of_same ⟨rfl, rfl, rfl⟩
    exact (taken.trans (works (s.taken rest) c)).trans (State.placeResult_mirror _ c _)

theorem State.runCommand_orderly (isRow : Byte → Bool)
    {work : State → QueuedCommand → State × Option Reason}
    (works : ∀ t c, Orderly t (work t c).1) : Orderly s (s.runCommand isRow work) := by
  obtain e | ⟨c, rest, -, -, e⟩ := s.runCommand_cases isRow work
  · rw [e]; exact (MirrorStays.refl s).toOrderly
  · rw [e]
    have taken : Orderly s (s.taken rest) := .of_same ⟨rfl, rfl, rfl⟩
    exact (taken.trans (works (s.taken rest) c)).trans (State.placeResult_mirror _ c _).toOrderly

theorem workClearNeighbourBlock_orderly (c : QueuedCommand) :
    Orderly s (workClearNeighbourBlock s c).1 := by
  unfold workClearNeighbourBlock
  split
  · exact (MirrorStays.refl s).toOrderly
  · exact (Orderly.of_same (by simp)).trans
      (State.clearFault_orderly (State.updNeighbour _ _ _) _ _)

theorem workClearFault_orderly (c : QueuedCommand) : Orderly s (workClearFault s c).1 := by
  unfold workClearFault
  split
  · exact (MirrorStays.refl s).toOrderly
  · split
    · next kind _ _ => exact (s.clearFault_orderly kind c.arg2).trans (.of_same (by simp))
    · exact (MirrorStays.refl s).toOrderly

/-! ## The field, the timers of the lines, and HALT -/

theorem State.detectionFaults_mirror (p : Fin 16) (old x : Detected) :
    MirrorStays s (s.detectionFaults p old x) := by
  unfold State.detectionFaults
  extract_lets e a b c
  have first : MirrorStays s a := by
    dsimp only [a]
    split
    · exact (s.clearFault_mirror rfl _).trans (State.clearFault_mirror _ rfl _)
    · exact .refl s
  have second : MirrorStays s b := first.trans (a.setFaultIf_mirror rfl _ e)
  have third : MirrorStays s c := second.trans (b.setFaultIf_mirror rfl _ e)
  split
  · split
    · exact third
    · exact third.trans (c.setFault_mirror rfl e)
  · exact second

theorem State.detect_mirror (p : Fin 16) (x : Detected) : MirrorStays s (s.detect p x) := by
  simp only [State.detect]
  split
  · exact .refl s
  · exact (s.detectionFaults_mirror p (s.pcu.points[p]).detected x).andSame (by simp)

theorem State.moveExpiry_mirror (p : Fin 16) : MirrorStays s (s.moveExpiry p) := by
  simp only [State.moveExpiry]
  split
  · exact (State.setFault_mirror (s.updPoint p _) rfl _).after (by simp)
  · exact .refl s

theorem State.healthExpiry_mirror (l : Line) : MirrorStays s (s.healthExpiry l) := by
  unfold State.healthExpiry
  split
  · exact (State.judgeLines_mirror (s.updLine l _)).after (by simp)
  · exact .refl s

theorem State.refuseImage_mirror (code : Byte) (delivered : List Byte) :
    MirrorStays s (s.refuseImage code delivered) := by
  have refuse : MirrorStays s (s.setFault .configFault code) := s.setFault_mirror rfl code
  refine refuse.andSame ?_
  simp only [State.refuseImage, State.startRefusedStatus]
  split <;> simp

theorem State.answerHalted_mirror (cs : List QueuedCommand) : MirrorStays s (s.answerHalted cs) :=
  State.forEach_mirror _ (fun t c => t.placeResult_mirror c _) s cs

/-- The entry to HALT empties the class-1 queue and the pool, and answers the queued commands
(R137, R161, R169). -/
theorem State.enterHalt_mirror : MirrorStays s s.enterHalt := by
  simp only [State.enterHalt]
  set u := (((({ s with sld := s.sld.toHalt, rtp := TimerPool.reset } :
    State).dropLocks.dropHandover.mapPoints fun _ => PointRec.halted).dropTelegrams).dropCommands)
    with hu
  have emptied : MirrorStays s u :=
    ⟨⟨fun _ => by simp [hu, State.dropCommands, State.dropTelegrams, StationLine.emptied],
      fun _ waiting => absurd rfl waiting, id⟩, fun _ _ => .rfl⟩
  exact emptied.trans (u.answerHalted_mirror _)

theorem State.stop_mirror (delivered : List Byte) : MirrorStays s (s.stop delivered) := by
  have observed : MirrorStays s s.observeStop := .of_same ⟨rfl, rfl, rfl⟩
  have halt : MirrorStays s (s.observeStop.enterHalt.setFault .stopped 0) :=
    (observed.trans (State.enterHalt_mirror _)).trans (State.setFault_mirror _ rfl _)
  simp only [State.stop]
  split
  · exact (observed.trans (State.refuseImage_mirror _ _ _)).trans (State.setFault_mirror _ rfl _)
  · exact halt
  · exact halt
  · exact observed

theorem State.acceptImage_mirror (delivered : List Byte) :
    MirrorStays s (s.acceptImage delivered) := .of_same ⟨rfl, rfl, rfl⟩

theorem State.configReadEnd_mirror (delivered : List Byte) :
    MirrorStays s (s.configReadEnd delivered) := by
  unfold State.configReadEnd
  split
  · split
    · exact s.acceptImage_mirror delivered
    · exact s.refuseImage_mirror _ delivered
  · exact .refl s

theorem State.configReadTimeout_mirror (delivered : List Byte) :
    MirrorStays s (s.configReadTimeout delivered) := by
  unfold State.configReadTimeout
  split
  · exact s.refuseImage_mirror _ delivered
  · exact .refl s

theorem State.headObservation_orderly (h : Fin 24) (a b : Bool) :
    Orderly s (s.headObservation h a b) := by
  have error (t : State) : Orderly t (t.sequenceError h a b) :=
    (t.setFault_orderly .headSequence (byteOf h.val)).trans
      (.of_same (by simp [State.sequenceError]))
  have decode (t : State) : Orderly t (t.decodeHead h a b) := by
    simp only [State.decodeHead]
    split
    · exact .of_same (by simp)
    · split
      · exact (MirrorStays.refl t).toOrderly
      · exact error t
      · split <;> exact .of_same (by simp)
  unfold State.headObservation
  split
  · exact (Orderly.of_same (by simp)).trans (decode _)
  · exact (MirrorStays.refl s).toOrderly

theorem State.putFailed_orderly (g : Fin 16) (l : Lamp) (v : Bool) :
    Orderly s (s.putFailed g l v) := ⟨by simp, by simp [State.PoolFullWhileWaiting],
  putCondition_ordered ⟨.lampFailed, lampElement g l⟩ v⟩

theorem State.putStray_orderly (g : Fin 16) (l : Lamp) (v : Bool) :
    Orderly s (s.putStray g l v) := ⟨by simp, by simp [State.PoolFullWhileWaiting],
  putCondition_ordered ⟨.strayProving, lampElement g l⟩ v⟩

end

/-! ## Every own effect -/

/-- The commands whose own effect may move a condition that mirrors a record. -/
def movesMirror : Instr → Bool
  | .headObservation _ _ _ | .failureTimerExpiry _ _ | .strayTimerExpiry _ _
  | .strayClearTimerExpiry _ _ | .clearNeighbourBlock | .clearFault | .replyTimerExpiry _ => true
  | _ => false

theorem effect_mirror {i : Instr} {s u : State} (h : s.effect i = some u)
    (other : movesMirror i = false) : MirrorStays s u := by
  cases i
  case reset | quietTimerExpiry | statusPeriodExpiry | statusPacingEnd | displayPeriodExpiry
      | displayPacingEnd | transmitAttempt | telegramSent | attemptFailed | transmitGiveUp =>
    nomatch h
  case headObservation | failureTimerExpiry | strayTimerExpiry | strayClearTimerExpiry
      | clearNeighbourBlock | clearFault | replyTimerExpiry => nomatch other
  all_goals cases h
  case configReadEnd d => exact s.configReadEnd_mirror d
  case configReadTimeout d => exact s.configReadTimeout_mirror d
  case stop d => exact s.stop_mirror d
  case detectionObservation p n r =>
    unfold State.detectionObservation
    split
    · exact (State.detect_mirror _ p _).after (by simp)
    · exact .refl s
  case moveTimerExpiry p => exact s.moveExpiry_mirror p
  case sectionNotice k => exact s.sectionNotice_mirror k
  case pointNotice p => exact s.pointNotice_mirror p
  case settingTimerExpiry r => exact s.settingExpiry_mirror r
  case poolTimerExpiry k => exact s.poolExpiry_mirror k
  case silenceTimerExpiry n => exact s.silenceExpiry_mirror n
  case lineHealthTimerExpiry l => exact s.healthExpiry_mirror l
  case command | status | portionRequest | portionGrant | portionRefuse | portionRelease
      | flankRequest | flankGrant | flankRefuse | flankRelease | sectionReset
      | discardedTelegram => exact s.collected_mirror _ _
  case setRoute => exact s.runCommand_mirror _ workSetRoute_mirror
  case cancelRoute => exact s.runCommand_mirror _ workCancelRoute_mirror
  case confirmReset => exact s.runCommand_mirror _ workConfirmReset_mirror
  case movePoint | block | resetSection | unknownCommand =>
    exact s.runCommand_mirror _ fun t c => .of_same (by simp)
  all_goals exact .of_same (by simp)

theorem effect_orderly {i : Instr} {s u : State} (h : s.effect i = some u) : Orderly s u := by
  by_cases moves : movesMirror i = true
  · cases i
    case headObservation x a b => cases h; exact s.headObservation_orderly x a b
    case failureTimerExpiry g l =>
      cases h
      unfold State.failureExpiry
      split
      · exact s.putFailed_orderly g l true
      · exact (MirrorStays.refl s).toOrderly
    case strayTimerExpiry g l =>
      cases h
      unfold State.strayExpiry
      split
      · exact s.putStray_orderly g l true
      · exact (MirrorStays.refl s).toOrderly
    case strayClearTimerExpiry g l =>
      cases h
      unfold State.strayClearExpiry
      split
      · exact s.putStray_orderly g l false
      · exact (MirrorStays.refl s).toOrderly
    case clearNeighbourBlock =>
      cases h; exact s.runCommand_orderly _ workClearNeighbourBlock_orderly
    case clearFault => cases h; exact s.runCommand_orderly _ workClearFault_orderly
    case replyTimerExpiry k => cases h; exact s.replyExpiry_orderly k
    all_goals nomatch moves
  · exact (effect_mirror h (by simpa using moves)).toOrderly

end Sys2Proof.Machine
end

section
/-! Section records, queues and windows followed through every operation: state and count of a
section stay tied together (R25), the command queue within its 8 places (R160), and each duplicate
window a set of at most 8 numbers (R139). -/

namespace Sys2Proof.Machine

open Sys2Proof

/-! ## Section records (R25, R27, R40, R48) -/

namespace SectionRec

variable {r : SectionRec}

@[simp] theorem latched_tied (old new : SectionRec) : (old.latched new).tied ↔ new.tied := .rfl

@[simp] theorem noticed_tied (r : SectionRec) : r.noticed.tied ↔ r.tied := .rfl

theorem prepare_tied (r : SectionRec) : r.prepare.tied := by simp [prepare, tied]

theorem disturbed_tied (h : r.tied) : ({ r with state := .disturbed } : SectionRec).tied :=
  ⟨h.1, trivial⟩

theorem disturb_tied (h : r.tied) : r.disturb.tied := (latched_tied r _).2 (disturbed_tied h)

/-- The state taken at a count within its range is tied to it. -/
theorem atCount_tied (state : SectionState) {n : Nat} (h : n ≤ 999) :
    ({ r with count := n, state := state.atCount n } : SectionRec).tied := by
  refine ⟨h, ?_⟩
  cases state <;> by_cases zero : n = 0 <;> simp [SectionState.atCount, zero]
  all_goals omega

theorem shifted_tied (d : Int) (h : r.tied) : (r.shifted d).tied := by
  simp only [shifted]
  split
  · exact h
  · split
    · exact ⟨Nat.zero_le _, trivial⟩
    · split
      · exact ⟨Nat.le_refl _, trivial⟩
      · exact atCount_tied r.state (by omega)

theorem change_tied (d : Int) (h : r.tied) : (r.change d).tied := shifted_tied d h

theorem reported_tied (d : Int) (disturbs : Bool) (h : r.tied) : (r.reported d disturbs).tied := by
  cases disturbs
  · exact (latched_tied r _).2 (shifted_tied d h)
  · exact (latched_tied r _).2 (disturbed_tied (shifted_tied d h))

end SectionRec

/-! ## Windows (R139) -/

theorem windowOk_nil : windowOk [] := ⟨Nat.zero_le _, .nil⟩

/-- A number that does not stand in a window joins it, and the oldest of nine leaves. -/
theorem pushWindow_ok {x : Byte} {w : List Byte} (h : windowOk w) (new : x ∉ w) :
    windowOk (pushWindow x w) := by
  obtain ⟨-, nodup⟩ := h
  refine ⟨by simp [pushWindow]; omega, ?_⟩
  refine List.Nodup.sublist (List.drop_sublist _ _) ?_
  refine List.nodup_append.2 ⟨nodup, List.nodup_singleton x, ?_⟩
  simp only [List.mem_singleton]
  rintro y mem z rfl rfl
  exact new mem

/-- Every duplicate window is lawful (R139). -/
def State.WindowsOk (s : State) : Prop :=
  (∀ n : Fin 4, windowOk s.slu.neighbourWindows[n]) ∧ ∀ p : Fin 2, windowOk s.slu.panelWindows[p]

/-- A window rewritten to a lawful one leaves every window lawful. -/
theorem State.updWindow_ok {s : State} {src : Source} {f : List Byte → List Byte}
    (h : s.WindowsOk) (new : windowOk (f (s.window src))) : (s.updWindow src f).WindowsOk := by
  obtain ⟨neighbours, panels⟩ := h
  cases src with
  | neighbour n =>
    refine ⟨fun m => ?_, panels⟩
    simp only [State.updWindow, upd_get]
    split
    · next e => subst e; exact new
    · exact neighbours m
  | panel p =>
    refine ⟨neighbours, fun q => ?_⟩
    simp only [State.updWindow, upd_get]
    split
    · next e => subst e; exact new
    · exact panels q

/-! ## What an operation keeps -/

/-- From `s` to `t` the laws of the section records, of the command queue and of the windows are
kept. -/
structure Contained (s t : State) : Prop where
  tied : s.SectionsTied → t.SectionsTied
  queue : s.cmu.queue.length ≤ 8 → t.cmu.queue.length ≤ 8
  windows : s.WindowsOk → t.WindowsOk

/-- The tables of these laws are in `t` as in `s`. -/
def SameTables (s t : State) : Prop :=
  t.acu.sections = s.acu.sections ∧ t.cmu.queue = s.cmu.queue ∧
    t.slu.neighbourWindows = s.slu.neighbourWindows ∧ t.slu.panelWindows = s.slu.panelWindows

@[simp] theorem sameTables_iff (s t : State) : SameTables s t ↔
    t.acu.sections = s.acu.sections ∧ t.cmu.queue = s.cmu.queue ∧
    t.slu.neighbourWindows = s.slu.neighbourWindows ∧
    t.slu.panelWindows = s.slu.panelWindows := .rfl

theorem Contained.of_same {s t : State} (h : SameTables s t) : Contained s t := by
  obtain ⟨sections, queue, neighbours, panels⟩ := h
  constructor
  · rw [State.SectionsTied, State.SectionsTied, sections]; exact id
  · rw [queue]; exact id
  · rw [State.WindowsOk, State.WindowsOk, neighbours, panels]; exact id

theorem Contained.refl (s : State) : Contained s s := .of_same ⟨rfl, rfl, rfl, rfl⟩

theorem Contained.trans {s t u : State} (h : Contained s t) (k : Contained t u) : Contained s u :=
  ⟨k.tied ∘ h.tied, k.queue ∘ h.queue, k.windows ∘ h.windows⟩

/-- An operation that leaves the tables, after one that keeps the laws. -/
theorem Contained.andSame {s t u : State} (h : Contained s t) (k : SameTables t u) :
    Contained s u := h.trans (.of_same k)

/-- An operation that keeps the laws, after one that leaves the tables. -/
theorem Contained.after {s t u : State} (k : Contained t u) (h : SameTables s t) :
    Contained s u := (Contained.of_same h).trans k

section
variable (s : State)

theorem State.updSection_contained (k : Fin 32) {f : SectionRec → SectionRec}
    (h : ∀ r : SectionRec, r.tied → (f r).tied) : Contained s (s.updSection k f) := by
  refine ⟨fun tied j => ?_, id, id⟩
  simp only [State.updSection_sections, upd_get]
  split
  · next e => subst e; exact h _ (tied _)
  · exact tied j

theorem State.mapSections_contained {f : Fin 32 → SectionRec → SectionRec}
    (h : ∀ (k : Fin 32) (r : SectionRec), r.tied → (f k r).tied) :
    Contained s (s.mapSections f) := by
  refine ⟨fun tied k => ?_, id, id⟩
  simp only [State.mapSections_sections, mapTab_get]
  exact h k _ (tied k)

theorem State.updWindow_contained {src : Source} {f : List Byte → List Byte}
    (h : windowOk (s.window src) → windowOk (f (s.window src))) :
    Contained s (s.updWindow src f) := by
  refine ⟨by simp [State.SectionsTied], by simp, fun ok => State.updWindow_ok ok (h ?_)⟩
  obtain ⟨neighbours, panels⟩ := ok
  cases src with
  | neighbour n => exact neighbours n
  | panel p => exact panels p

/-! ## Heads -/

theorem State.countPassage_contained (h : Fin 24) (p : Passage) :
    Contained s (s.countPassage h p) := by
  refine (State.mapSections_contained _ fun k r tied => ?_).after (by simp)
  split
  · exact tied
  · exact r.change_tied _ tied

theorem State.sequenceError_contained (h : Fin 24) (a b : Bool) :
    Contained s (s.sequenceError h a b) := by
  refine (State.mapSections_contained _ fun k r tied => ?_).after (by simp)
  split
  · exact r.disturb_tied tied
  · exact tied

theorem State.decodeHead_contained (h : Fin 24) (a b : Bool) :
    Contained s (s.decodeHead h a b) := by
  simp only [State.decodeHead]
  split
  · exact .of_same (by simp)
  · split
    · exact .refl s
    · exact s.sequenceError_contained h a b
    · split
      · exact .of_same (by simp)
      · exact (State.countPassage_contained _ h _).after (by simp)

theorem State.headObservation_contained (h : Fin 24) (a b : Bool) :
    Contained s (s.headObservation h a b) := by
  unfold State.headObservation
  split
  · exact (State.decodeHead_contained _ h a b).after (by simp)
  · exact .refl s

/-! ## Sections -/

theorem State.sectionNotice_contained (k : Fin 32) : Contained s (s.sectionNotice k) := by
  simp only [State.sectionNotice]
  split
  · exact (s.updSection_contained k fun r tied => r.noticed_tied.2 tied).andSame (by simp)
  · exact .refl s

theorem State.takeSectionReset_contained (n : Fin 4) (number : Byte) :
    Contained s (s.takeSectionReset n number) := by
  unfold State.takeSectionReset
  split
  · exact .refl s
  · split
    · exact s.updSection_contained _ fun r _ => r.prepare_tied
    · exact .refl s

theorem State.executeReset_contained (k : Fin 32) (c : SectionCfg) :
    Contained s (s.executeReset k c) := by
  have prepared := s.updSection_contained k fun r _ => r.prepare_tied
  simp only [State.executeReset]
  split
  · exact prepared.andSame (by simp)
  · exact prepared

/-! ## Neighbours -/

theorem State.reportEvent_contained (n : Fin 4) (heads : List HeadEntry) :
    Contained s (s.reportEvent n heads) := by
  unfold State.reportEvent
  extract_lets report bs counted renewed
  have reports : Contained s counted := s.mapSections_contained fun k r tied =>
    r.reported_tied _ _ tied
  exact reports.andSame (by simp [renewed])

theorem State.acuSilence_contained (n : Fin 4) : Contained s (s.acuSilence n) := by
  unfold State.acuSilence
  extract_lets disturbed
  have disturbs : Contained s disturbed := s.mapSections_contained fun k r tied => by
    split
    · exact r.disturb_tied tied
    · exact tied
  exact disturbs.andSame (by simp)

theorem State.silenceEvent_contained (n : Fin 4) : Contained s (s.silenceEvent n) := by
  simp only [State.silenceEvent]
  set u := s.updNeighbour n fun r => { r with state := .silent, silence := .stopped, view := none }
    with hu
  have quiet : Contained s (((u.dropAllSent n).unconfirmOffers n).acuSilence n) :=
    (State.acuSilence_contained _ n).after (by simp [hu])
  set v := ((u.dropAllSent n).unconfirmOffers n).acuSilence n
  have empty : Contained (v.orphanHosted n)
      ((v.orphanHosted n).updWindow (.neighbour n) fun _ => []) :=
    State.updWindow_contained _ fun _ => windowOk_nil
  exact (quiet.trans (empty.after (by simp))).andSame (by simp)

theorem State.silenceExpiry_contained (n : Fin 4) : Contained s (s.silenceExpiry n) := by
  unfold State.silenceExpiry
  split
  · exact s.silenceEvent_contained n
  · exact .refl s

theorem State.hearStatus_contained (n : Fin 4) (cfg : NeighbourCfg) (c : StatusContent) :
    Contained s (s.hearStatus n cfg c) := by
  have heard : Contained s ((s.updNeighbour n fun r =>
      { r with state := .alive, silence := .start cfg.silenceLimit, view := some c }).reportEvent n
        c.heads) := (State.reportEvent_contained _ n c.heads).after (by simp)
  simp only [State.hearStatus]
  refine heard.andSame ?_
  split <;> split <;> simp

theorem State.takeStatus_contained (n : Fin 4) (c : StatusContent) :
    Contained s (s.takeStatus n c) := by
  unfold State.takeStatus
  split
  · exact .refl s
  · split
    · exact s.silenceEvent_contained n
    · exact s.hearStatus_contained n _ c

/-! ## Panels and queued commands -/

theorem State.panelExpiry_contained (p : Fin 2) : Contained s (s.panelExpiry p) := by
  unfold State.panelExpiry
  split
  · exact ((State.updWindow_contained _ fun _ => windowOk_nil).after (by simp))
  · exact .refl s

theorem State.arrive_contained (c : QueuedCommand) : Contained s (s.arrive c) := by
  unfold State.arrive
  split
  · exact .refl s
  · exact .refl s
  · split
    · next room => exact ⟨id, fun _ => by simp; omega, id⟩
    · exact .of_same (by simp)
  · exact .of_same (by simp)

theorem workConfirmReset_contained (c : QueuedCommand) : Contained s (workConfirmReset s c).1 := by
  simp only [workConfirmReset]
  split
  · exact .refl s
  · split
    · exact .refl s
    · split
      · exact .refl s
      · split
        · exact .of_same (by simp)
        · split
          · exact .of_same (by simp)
          · exact (State.executeReset_contained (s.setPendingReset none) _ _).after (by simp)

/-- A queued command leaves the queue, is worked and answered (R160, R161). -/
theorem State.runCommand_contained (isRow : Byte → Bool)
    {work : State → QueuedCommand → State × Option Reason}
    (works : ∀ t c, Contained t (work t c).1) : Contained s (s.runCommand isRow work) := by
  obtain e | ⟨c, rest, ⟨-, waiting, -⟩, -, e⟩ := s.runCommand_cases isRow work
  · rw [e]; exact .refl s
  · rw [e]
    have taken : Contained s (s.taken rest) :=
      ⟨id, fun le => by
        rw [waiting, List.length_cons] at le
        exact Nat.le_of_succ_le le, id⟩
    exact (taken.trans (works (s.taken rest) c)).andSame (by simp)

/-! ## Received telegrams -/

theorem State.deliver_contained (seq : Byte) (src : Source) (p : Payload) :
    Contained s (deliver seq src p s) := by
  unfold deliver
  split
  · exact s.takeStatus_contained _ _
  case h_10 => exact s.takeSectionReset_contained _ _
  case h_11 => exact s.arrive_contained _
  all_goals exact .of_same (by simp)

theorem State.window_hearFrom (src x : Source) : (s.hearFrom src).window x = s.window x := by
  cases x <;> simp [State.window]

/-- Only a number that its source's window does not hold is accepted (R139). -/
theorem State.received_contained {src : Source} {f : Frame}
    (new : f.seq ∉ (s.goodTelegram f.line).window src) : Contained s (s.received src f) := by
  have heard : Contained s ((s.goodTelegram f.line).hearFrom src) := .of_same (by simp)
  have joined : Contained ((s.goodTelegram f.line).hearFrom src)
      (((s.goodTelegram f.line).hearFrom src).updWindow src (pushWindow f.seq)) :=
    State.updWindow_contained _ fun ok => pushWindow_ok ok (by rwa [State.window_hearFrom])
  exact (heard.trans joined).andSame (by simp [State.received, State.acceptFrom])

theorem State.collected_contained (kind : Byte) (f : Frame) : Contained s (s.collected kind f) := by
  unfold State.collected
  obtain ⟨-, e⟩ | ⟨_, _, _, -, -, e⟩ | ⟨_, _, -, -, e⟩ | ⟨src, p, -, new, e⟩ :=
    receive_cases kind f s
  · rw [e]; exact .refl s
  · rw [e]; exact .of_same (by simp)
  · rw [e]; exact .of_same (by simp)
  · rw [e]; exact (s.received_contained new).trans (State.deliver_contained _ _ src p)

/-! ## HALT -/

theorem State.answerHalted_tables (cs : List QueuedCommand) :
    SameTables s (s.answerHalted cs) := by
  refine ⟨?_, ?_, ?_, ?_⟩
  · exact State.forEach_keeps (·.acu.sections) _ (fun t c => by simp) s cs
  · exact State.forEach_keeps (·.cmu.queue) _ (fun t c => by simp) s cs
  · exact State.forEach_keeps (·.slu.neighbourWindows) _ (fun t c => by simp) s cs
  · exact State.forEach_keeps (·.slu.panelWindows) _ (fun t c => by simp) s cs

theorem State.enterHalt_contained : Contained s s.enterHalt := by
  simp only [State.enterHalt]
  set u := (((({ s with sld := s.sld.toHalt, rtp := TimerPool.reset } :
    State).dropLocks.dropHandover.mapPoints fun _ => PointRec.halted).dropTelegrams).dropCommands)
    with hu
  have emptied : Contained s u := ⟨id, fun _ => by simp [hu, State.dropCommands], id⟩
  exact emptied.andSame (u.answerHalted_tables _)

theorem State.refuseImage_contained (code : Byte) (delivered : List Byte) :
    Contained s (s.refuseImage code delivered) := by
  refine .of_same ?_
  simp only [State.refuseImage, State.startRefusedStatus]
  split <;> simp

theorem State.stop_contained (delivered : List Byte) : Contained s (s.stop delivered) := by
  have observed : Contained s s.observeStop := .of_same ⟨rfl, rfl, rfl, rfl⟩
  have halt : Contained s (s.observeStop.enterHalt.setFault .stopped 0) :=
    (observed.trans (State.enterHalt_contained _)).andSame (by simp)
  simp only [State.stop]
  split
  · have refused := s.observeStop.refuseImage_contained ImageFault.stopped.code delivered
    exact (observed.trans refused).andSame (by simp)
  · exact halt
  · exact halt
  · exact observed

theorem State.configReadEnd_contained (delivered : List Byte) :
    Contained s (s.configReadEnd delivered) := by
  unfold State.configReadEnd
  split
  · split
    · exact .of_same ⟨rfl, rfl, rfl, rfl⟩
    · exact s.refuseImage_contained _ delivered
  · exact .refl s

theorem State.configReadTimeout_contained (delivered : List Byte) :
    Contained s (s.configReadTimeout delivered) := by
  unfold State.configReadTimeout
  split
  · exact s.refuseImage_contained _ delivered
  · exact .refl s

end

/-! ## Every own effect -/

theorem effect_contained {i : Instr} {s u : State} (h : s.effect i = some u) : Contained s u := by
  cases i
  case reset | quietTimerExpiry | statusPeriodExpiry | statusPacingEnd | displayPeriodExpiry
      | displayPacingEnd | transmitAttempt | telegramSent | attemptFailed | transmitGiveUp =>
    nomatch h
  all_goals cases h
  case configReadEnd d => exact s.configReadEnd_contained d
  case configReadTimeout d => exact s.configReadTimeout_contained d
  case stop d => exact s.stop_contained d
  case headObservation x a b => exact s.headObservation_contained x a b
  case sectionNotice k => exact s.sectionNotice_contained k
  case silenceTimerExpiry n => exact s.silenceExpiry_contained n
  case panelSilenceTimerExpiry p => exact s.panelExpiry_contained p
  case command | status | portionRequest | portionGrant | portionRefuse | portionRelease
      | flankRequest | flankGrant | flankRefuse | flankRelease | sectionReset
      | discardedTelegram => exact s.collected_contained _ _
  case confirmReset => exact s.runCommand_contained _ workConfirmReset_contained
  case setRoute | cancelRoute | movePoint | block | resetSection | clearNeighbourBlock | clearFault
      | unknownCommand => exact s.runCommand_contained _ fun t c => .of_same (by simp)
  all_goals exact .of_same (by simp)

end Sys2Proof.Machine
end

section
/-! What every step keeps of the sections, the queues, the windows, the pool and the fault set. -/

namespace Sys2Proof.Machine

open Sys2Proof

/-! ## The rest of an event -/

section
variable (b s : State)

theorem State.clearFlags_orderly (gs : List (Fin 16)) (ls : List Lamp) :
    Orderly s (s.clearFlags gs ls) := by
  have lamps (t : State) (g : Fin 16) : Orderly t (t.clearLamps g ls) :=
    State.forEach_induct (Orderly t) _ (fun u l k => k.trans (u.putFailed_orderly g l false)) t ls
      (MirrorStays.refl t).toOrderly
  exact State.forEach_induct (Orderly s) _ (fun u g k => k.trans (lamps u g)) s gs
    (MirrorStays.refl s).toOrderly

theorem State.settled_orderly : Orderly s (b.settled s) := by
  have aspects : Orderly s (b.clearAspectLamps s) := State.clearFlags_orderly _ _ _
  have reds : Orderly (b.clearAspectLamps s).refreshOutputs.keepShown
      (b.clearRedLamps (b.clearAspectLamps s).refreshOutputs.keepShown) :=
    State.clearFlags_orderly _ _ _
  have outputs : Orderly (b.clearAspectLamps s) (b.clearAspectLamps s).refreshOutputs.keepShown :=
    .of_same (by simp)
  exact ((aspects.trans outputs).trans reds).trans (.of_same (by simp [State.settled,
    State.settleLamps]))

theorem State.finish_orderly : Orderly s (b.finish s) :=
  (b.settled_orderly s).trans (.of_same (by simp [State.finish]))

theorem State.finish_contained : Contained s (b.finish s) := .of_same (by simp)

end

/-! ## The events without such a rest -/

theorem State.quietExpiry_orderly (s : State) : Orderly s s.quietExpiry := by
  by_cases ready : s.sld.station = .quiet ∧ s.sld.quiet.due = true
  · rw [State.quietExpiry_eq ready]
    have enter : Orderly s { s with sld := s.sld.toRun } := .of_same ⟨rfl, rfl, rfl⟩
    exact (enter.trans (s.settled_orderly _)).trans (.of_same (by simp))
  · rw [State.quietExpiry_idle ready]
    exact (MirrorStays.refl s).toOrderly

theorem State.quietExpiry_contained (s : State) : Contained s s.quietExpiry := by
  by_cases ready : s.sld.station = .quiet ∧ s.sld.quiet.due = true
  · rw [State.quietExpiry_eq ready]
    exact .of_same (by simp)
  · rw [State.quietExpiry_idle ready]
    exact .refl s

theorem State.resetKeeping_orderly (s : State) : Orderly s s.resetKeeping :=
  ⟨fun _ => Nat.zero_le _, fun _ waiting => absurd rfl waiting, fun _ => .nil⟩

theorem State.reset_sectionsTied : State.reset.SectionsTied := fun k => by
  simp [State.reset, AxleCount.reset, SectionRec.tied]

theorem State.reset_windowsOk : State.reset.WindowsOk :=
  ⟨fun n => by simp [State.reset, StationLine.reset, windowOk_nil],
    fun p => by simp [State.reset, StationLine.reset, windowOk_nil]⟩

theorem State.resetKeeping_contained (s : State) : Contained s s.resetKeeping :=
  ⟨fun _ => State.reset_sectionsTied, fun _ => Nat.zero_le _, fun _ => State.reset_windowsOk⟩

/-- Of the tables of these laws, an attempt changes the class-1 queue alone, and only shortens it.
-/
structure QueueShrinks (s t : State) : Prop where
  classOne : t.slu.classOne.length ≤ s.slu.classOne.length
  ledgers : t.rtp = s.rtp ∧ t.cmu.faults = s.cmu.faults
  tables : SameTables s t

theorem QueueShrinks.refl (s : State) : QueueShrinks s s :=
  ⟨Nat.le_refl _, ⟨rfl, rfl⟩, ⟨rfl, rfl, rfl, rfl⟩⟩

theorem QueueShrinks.orderly {s t : State} (h : QueueShrinks s t) : Orderly s t := by
  obtain ⟨pool, faults⟩ := h.ledgers
  constructor
  · exact h.classOne.trans
  · rw [State.PoolFullWhileWaiting, State.PoolFullWhileWaiting, pool]; exact id
  · rw [State.FaultsOrdered, State.FaultsOrdered, faults]; exact id

section
variable (s : State) (l : Line) (serial : Nat)

theorem StationLine.progress_classOne (u : StationLine) (f : LineProgress → LineProgress) :
    (u.progress l serial f).classOne.length ≤ u.classOne.length :=
  (List.length_filter_le _ _).trans (by simp)

theorem State.progress_shrinks (f : LineProgress → LineProgress) :
    QueueShrinks s { s with slu := s.slu.progress l serial f } :=
  ⟨s.slu.progress_classOne l serial f, ⟨rfl, rfl⟩, ⟨rfl, rfl, rfl, rfl⟩⟩

theorem State.beginAttempt_shrinks (i : TxItem) : QueueShrinks s (s.beginAttempt l i) := by
  cases l <;> exact ⟨StationLine.progress_classOne _ _ _ _, ⟨rfl, rfl⟩, ⟨rfl, rfl, rfl, rfl⟩⟩

theorem State.endAttempt_shrinks (f : LineProgress → LineProgress) :
    QueueShrinks s (s.endAttempt l serial f) := by
  cases l <;> exact ⟨StationLine.progress_classOne _ _ _ _, ⟨rfl, rfl⟩, ⟨rfl, rfl, rfl, rfl⟩⟩

theorem transmitAttempt_shrinks (idle : Nat) : QueueShrinks s (transmitAttempt l idle s) := by
  unfold transmitAttempt
  split
  · split
    · exact s.beginAttempt_shrinks l _
    · exact .refl s
  · exact .refl s

theorem telegramSent_shrinks (echo : List Byte) : QueueShrinks s (telegramSent l echo s) := by
  unfold telegramSent
  split
  · exact .refl s
  · split
    · exact s.endAttempt_shrinks l _ _
    · exact .refl s

theorem attemptFailed_shrinks (echo : List Byte) : QueueShrinks s (attemptFailed l echo s) := by
  unfold attemptFailed
  split
  · exact .refl s
  · split
    · exact s.endAttempt_shrinks l _ _
    · exact .refl s

theorem transmitGiveUp_shrinks (seq : Byte) : QueueShrinks s (transmitGiveUp l seq s) := by
  unfold transmitGiveUp
  split
  · exact .refl s
  · split <;> exact s.progress_shrinks l _ _

end

/-- A command without a rest of its event that is neither RESET nor the entry to RUN. -/
theorem QueueShrinks.of_exec {i : Instr} {s t : State} (h : s.effect i = .none)
    (e : exec i s = .next t) (reset : i ≠ .reset) (quiet : i ≠ .quietTimerExpiry) :
    QueueShrinks s t := by
  cases i
  case reset => exact absurd rfl reset
  case quietTimerExpiry => exact absurd rfl quiet
  case transmitAttempt l idle => cases e; exact transmitAttempt_shrinks s l idle
  case telegramSent l echo => cases e; exact telegramSent_shrinks s l echo
  case attemptFailed l echo => cases e; exact attemptFailed_shrinks s l echo
  case transmitGiveUp l seq => cases e; exact transmitGiveUp_shrinks s l seq
  case statusPeriodExpiry | statusPacingEnd | displayPeriodExpiry | displayPacingEnd =>
    cases e
    exact ⟨by simp, by simp, by simp⟩
  all_goals nomatch h

/-! ## Every step -/

theorem exec_lawful {i : Instr} {s t : State} (e : exec i s = .next t) :
    Orderly s t ∧ Contained s t := by
  cases h : s.effect i with
  | some u =>
    rw [exec_of_effect h] at e
    cases e
    exact ⟨(effect_orderly h).trans (s.finish_orderly u),
      (effect_contained h).trans (s.finish_contained u)⟩
  | none =>
    by_cases reset : i = .reset
    · subst reset; cases e
      exact ⟨s.resetKeeping_orderly, s.resetKeeping_contained⟩
    · by_cases quiet : i = .quietTimerExpiry
      · subst quiet; cases e
        exact ⟨s.quietExpiry_orderly, s.quietExpiry_contained⟩
      · have shrinks := QueueShrinks.of_exec h e reset quiet
        exact ⟨shrinks.orderly, .of_same shrinks.tables⟩

theorem State.tick_lawful (s : State) : Orderly s s.tick ∧ Contained s s.tick := by
  refine ⟨⟨by simp [State.tick_slu], fun full => ?_, by simp [State.FaultsOrdered, State.tick_cmu]⟩,
    .of_same (by simp [State.tick_acu, State.tick_cmu, State.tick_slu])⟩
  simpa [State.PoolFullWhileWaiting, State.tick_rtp] using full

theorem step_lawful {s t : State} (e : step s = .next t) : Orderly s t ∧ Contained s t := by
  cases waiting : s.pending with
  | nil =>
    rw [step_of_empty_queue waiting] at e
    cases e
    exact s.tick_lawful
  | cons i rest =>
    rw [step, waiting] at e
    obtain ⟨orderly, contained⟩ := exec_lawful e
    have taken : Orderly s { s with pending := rest } := .of_same ⟨rfl, rfl, rfl⟩
    exact ⟨taken.trans orderly, contained.after ⟨rfl, rfl, rfl, rfl⟩⟩

/-- Settles O52, law by law: each own effect keeps the laws, and so does all that follows it. -/
theorem countsQueuesAndFaultSetStayLawful : Obligations.CountsQueuesAndFaultSetStayLawful := by
  intro s t e
  obtain ⟨orderly, contained⟩ := step_lawful e
  refine ⟨contained.tied, ?_, orderly.order, orderly.pool⟩
  rintro ⟨queue, classOne, windows⟩
  exact ⟨contained.queue queue, orderly.classOne classOne, contained.windows windows⟩

end Sys2Proof.Machine
end

section
/-! The records that fault conditions mirror, followed through every operation: the flags of the
lamps (R103), the BLOCKED flags of the neighbours (R150, R163), and the decoders of the heads with
their sequence-fault flags (R22). -/

namespace Sys2Proof.Machine

open Sys2Proof

/-! ## Fault elements -/

theorem byteOf_inj {m n : Nat} (hm : m < 256) (hn : n < 256) (h : byteOf m = byteOf n) : m = n := by
  have values := congrArg BitVec.toNat h
  simpa [byteOf, Nat.mod_eq_of_lt hm, Nat.mod_eq_of_lt hn] using values

theorem byteOf_fin_inj {k : Nat} (small : k ≤ 256) {i j : Fin k} :
    byteOf i.val = byteOf j.val ↔ i = j := by
  refine ⟨fun h => Fin.ext (byteOf_inj (by omega) (by omega) h), fun h => by rw [h]⟩

theorem lampElement_inj {g g' : Fin 16} {l l' : Lamp} :
    lampElement g l = lampElement g' l' ↔ g = g' ∧ l = l' := by
  have small (x : Lamp) : lampNumber x ≤ 2 := by cases x <;> decide
  have numbers (h : lampNumber l = lampNumber l') : l = l' := by
    revert h
    cases l <;> cases l' <;> decide
  have ofLamp := small l
  have ofLamp' := small l'
  constructor
  · intro h
    have sum := byteOf_inj (by omega) (by omega) h
    exact ⟨Fin.ext (by omega), numbers (by omega)⟩
  · rintro ⟨rfl, rfl⟩
    rfl

theorem byteOf_indexOf {n : Nat} {b : Byte} {i : Fin n} (h : indexOf? n b = some i) :
    byteOf i.val = b := by
  unfold indexOf? at h
  split at h
  · cases h
    exact BitVec.eq_of_toNat_eq (by simp [byteOf])
  · nomatch h

theorem indexOf_byteOf {n : Nat} (small : n ≤ 256) (i : Fin n) :
    indexOf? n (byteOf i.val) = some i := by
  have value : (byteOf i.val).toNat = i.val := by
    have := i.isLt
    simp [byteOf]
    omega
  simp [indexOf?, value]

/-! ## Whether a condition stands -/

section
variable (s : State) (k k' : FaultKind) (e e' : Byte)

theorem State.hasFault_iff : s.hasFault k e = true ↔ ⟨k, e⟩ ∈ s.cmu.faults := by
  simp [State.hasFault]

theorem State.hasFault_congr {s t : State} {k : FaultKind} {e : Byte}
    (h : (⟨k, e⟩ : Condition) ∈ t.cmu.faults ↔ (⟨k, e⟩ : Condition) ∈ s.cmu.faults) :
    t.hasFault k e = s.hasFault k e := by
  rw [Bool.eq_iff_iff, State.hasFault_iff, State.hasFault_iff, h]

theorem State.hasFault_put (v : Bool) :
    (s.updFaults (putCondition ⟨k', e'⟩ v)).hasFault k e =
      if k = k' ∧ e = e' then v else s.hasFault k e := by
  rw [Bool.eq_iff_iff, State.hasFault_iff, State.updFaults_faults, mem_putCondition]
  by_cases same : k = k' ∧ e = e' <;> cases v <;> simp [same, State.hasFault_iff]

theorem State.hasFault_setFault : (s.setFault k' e').hasFault k e =
    if k = k' ∧ e = e' then true else s.hasFault k e := s.hasFault_put k k' e e' true

theorem State.hasFault_clearFault : (s.clearFault k' e').hasFault k e =
    if k = k' ∧ e = e' then false else s.hasFault k e := s.hasFault_put k k' e e' false

theorem State.hasFault_putFailed (g : Fin 16) (l : Lamp) (v : Bool) :
    (s.putFailed g l v).hasFault k e =
      if k = .lampFailed ∧ e = lampElement g l then v else s.hasFault k e :=
  State.hasFault_put _ k _ e _ v

theorem State.hasFault_putStray (g : Fin 16) (l : Lamp) (v : Bool) :
    (s.putStray g l v).hasFault k e =
      if k = .strayProving ∧ e = lampElement g l then v else s.hasFault k e :=
  State.hasFault_put _ k _ e _ v

end

/-! ## The three parts of the law -/

/-- The lamp conditions stand with the flags of their lamps (R103). -/
def State.LampFaults (s : State) : Prop :=
  ∀ (g : Fin 16) (l : Lamp),
    s.hasFault .lampFailed (lampElement g l) = (s.lampRec g l).failed ∧
    s.hasFault .strayProving (lampElement g l) = (s.lampRec g l).stray

/-- NEIGHBOUR_BLOCKED stands with the BLOCKED flag of its neighbour (R150, R163). -/
def State.BlockFaults (s : State) : Prop :=
  ∀ n : Fin 4, s.hasFault .neighbourBlocked (byteOf n.val) = (s.hou.neighbours[n]).blocked

/-- The sequence-fault flag of a head stands while its decoder is FAULTED or HEAD_SEQUENCE stands
(R22). -/
def State.HeadFaults (s : State) : Prop :=
  ∀ h : Fin 24, (s.acu.heads[h]).seqFault =
    ((s.acu.heads[h]).phase == .faulted || s.hasFault .headSequence (byteOf h.val))

/-- From `s` to `t` the three parts are kept. -/
structure CausesKept (s t : State) : Prop where
  lamps : s.LampFaults → t.LampFaults
  blocks : s.BlockFaults → t.BlockFaults
  heads : s.HeadFaults → t.HeadFaults

theorem CausesKept.mirror {s t : State} (h : CausesKept s t) :
    s.FaultsMirrorRecords → t.FaultsMirrorRecords
  | ⟨lamps, blocks, heads⟩ => ⟨h.lamps lamps, h.blocks blocks, h.heads heads⟩

theorem CausesKept.refl (s : State) : CausesKept s s := ⟨id, id, id⟩

theorem CausesKept.trans {s t u : State} (h : CausesKept s t) (k : CausesKept t u) :
    CausesKept s u := ⟨k.lamps ∘ h.lamps, k.blocks ∘ h.blocks, k.heads ∘ h.heads⟩

section
variable {s t : State}

/-- Two states in which the flags of every lamp are the same. -/
def SameFlags (s t : State) : Prop :=
  ∀ (g : Fin 16) (l : Lamp), (t.lampRec g l).failed = (s.lampRec g l).failed ∧
    (t.lampRec g l).stray = (s.lampRec g l).stray

/-- Two states in which every BLOCKED flag is the same. -/
def SameBlocks (s t : State) : Prop :=
  ∀ n : Fin 4, (t.hou.neighbours[n]).blocked = (s.hou.neighbours[n]).blocked

/-- Two states in which every decoder and its flag are the same. -/
def SameDecoders (s t : State) : Prop :=
  ∀ h : Fin 24, (t.acu.heads[h]).phase = (s.acu.heads[h]).phase ∧
    (t.acu.heads[h]).seqFault = (s.acu.heads[h]).seqFault

theorem SameFlags.of_asu (h : t.asu = s.asu) : SameFlags s t := fun g l => by
  simp [State.lampRec, h]

theorem SameBlocks.of_neighbours (h : t.hou.neighbours = s.hou.neighbours) : SameBlocks s t :=
  fun n => by rw [h]

theorem SameDecoders.of_heads (h : t.acu.heads = s.acu.heads) : SameDecoders s t := fun x => by
  simp [h]

/-- Two states in which the same conditions of a kind stand. -/
def SameFaults (k : FaultKind) (s t : State) : Prop := ∀ e : Byte, t.hasFault k e = s.hasFault k e

theorem LampFaults.congr (failed : SameFaults .lampFailed s t)
    (stray : SameFaults .strayProving s t) (flags : SameFlags s t) (h : s.LampFaults) :
    t.LampFaults := fun g l => by
  obtain ⟨hf, hs⟩ := flags g l
  rw [failed, stray, hf, hs]
  exact h g l

theorem BlockFaults.congr (faults : SameFaults .neighbourBlocked s t) (blocks : SameBlocks s t)
    (h : s.BlockFaults) : t.BlockFaults := fun n => by
  rw [faults, blocks n]
  exact h n

theorem HeadFaults.congr (faults : SameFaults .headSequence s t) (heads : SameDecoders s t)
    (h : s.HeadFaults) : t.HeadFaults := fun x => by
  obtain ⟨phase, flag⟩ := heads x
  rw [faults, phase, flag]
  exact h x

/-- Conditions and causes alike stay. -/
theorem CausesKept.of_stay
    (faults : ∀ k : FaultKind, k.mirrored = true → SameFaults k s t) (flags : SameFlags s t)
    (blocks : SameBlocks s t) (heads : SameDecoders s t) : CausesKept s t :=
  ⟨LampFaults.congr (faults _ rfl) (faults _ rfl) flags, BlockFaults.congr (faults _ rfl) blocks,
    HeadFaults.congr (faults _ rfl) heads⟩

theorem MirrorStays.same_faults (h : MirrorStays s t) (k : FaultKind) (m : k.mirrored = true) :
    SameFaults k s t := fun e => State.hasFault_congr (h.mirrored ⟨k, e⟩ m)

/-- An operation that leaves the causes and moves no mirrored condition. -/
theorem MirrorStays.causesKept (h : MirrorStays s t) (asu : t.asu = s.asu)
    (neighbours : t.hou.neighbours = s.hou.neighbours) (heads : t.acu.heads = s.acu.heads) :
    CausesKept s t :=
  .of_stay h.same_faults (.of_asu asu) (.of_neighbours neighbours) (.of_heads heads)

theorem SameFaults.of_eq (h : t.cmu.faults = s.cmu.faults) (k : FaultKind) : SameFaults k s t :=
  fun e => by rw [State.hasFault, State.hasFault, h]

end

/-! ## Lamps (R99 to R103) -/

section
variable (s : State) (g : Fin 16) (l : Lamp) (v : Bool)

theorem State.putFailed_causesKept : CausesKept s (s.putFailed g l v) := by
  have others (k : FaultKind) (other : k ≠ .lampFailed) : SameFaults k s (s.putFailed g l v) :=
    fun e => by rw [State.hasFault_putFailed, if_neg fun both => other both.1]
  refine ⟨fun follow g' l' => ?_, BlockFaults.congr (others _ nofun) (.of_neighbours (by simp)),
    HeadFaults.congr (others _ nofun) (.of_heads (by simp))⟩
  obtain ⟨failed, stray⟩ := follow g' l'
  rw [others .strayProving nofun, State.hasFault_putFailed, State.putFailed_lamp]
  simp only [true_and, lampElement_inj, eq_comm (a := g'), eq_comm (a := l')]
  split
  · exact ⟨rfl, stray⟩
  · exact ⟨failed, stray⟩

theorem State.putStray_lamp (g' : Fin 16) (l' : Lamp) : (s.putStray g l v).lampRec g' l' =
    if g = g' ∧ l = l' then { s.lampRec g' l' with stray := v } else s.lampRec g' l' := by
  simp only [State.putStray, State.updSignal, State.updFaults, State.lampRec, upd_get]
  by_cases same : g = g'
  · simp [same, SignalRec.lamp_updLamp]
  · simp [same]

theorem State.putStray_causesKept : CausesKept s (s.putStray g l v) := by
  have others (k : FaultKind) (other : k ≠ .strayProving) : SameFaults k s (s.putStray g l v) :=
    fun e => by rw [State.hasFault_putStray, if_neg fun both => other both.1]
  refine ⟨fun follow g' l' => ?_, BlockFaults.congr (others _ nofun) (.of_neighbours (by simp)),
    HeadFaults.congr (others _ nofun) (.of_heads (by simp))⟩
  obtain ⟨failed, stray⟩ := follow g' l'
  rw [others .lampFailed nofun, State.hasFault_putStray, State.putStray_lamp]
  simp only [true_and, lampElement_inj, eq_comm (a := g'), eq_comm (a := l')]
  split
  · exact ⟨failed, rfl⟩
  · exact ⟨failed, stray⟩

end

/-! ## Neighbours (R150, R163) -/

section
variable (s : State) (n : Fin 4)

/-- The BLOCKED flag of a neighbour and its condition moved together. -/
theorem State.block_causesKept {t : State} (v : Bool)
    (faults : ∀ k e, t.hasFault k e =
      if k = .neighbourBlocked ∧ e = byteOf n.val then v else s.hasFault k e)
    (blocks : ∀ m : Fin 4, (t.hou.neighbours[m]).blocked =
      if m = n then v else (s.hou.neighbours[m]).blocked)
    (flags : SameFlags s t) (heads : SameDecoders s t) : CausesKept s t := by
  have others (k : FaultKind) (other : k ≠ .neighbourBlocked) : SameFaults k s t :=
    fun e => by rw [faults, if_neg fun both => other both.1]
  refine ⟨LampFaults.congr (others _ nofun) (others _ nofun) flags, fun follow m => ?_,
    HeadFaults.congr (others _ nofun) heads⟩
  rw [faults, blocks]
  simp only [true_and, byteOf_fin_inj (k := 4) (by decide)]
  split
  · rfl
  · exact follow m

theorem State.blockNeighbour_causesKept : CausesKept s (s.blockNeighbour n) := by
  set u := (s.updNeighbour n fun r => { r with blocked := true }).setFault .neighbourBlocked
    (byteOf n.val) with hu
  have block : CausesKept s u := s.block_causesKept n true
    (fun k e => by
      rw [hu, State.hasFault_setFault]
      rfl)
    (fun m => by
      simp only [hu, State.setFault_keeps, State.updNeighbour_neighbours, upd_get,
        eq_comm (a := n)]
      split <;> rfl)
    (.of_asu (by simp [hu])) (.of_heads (by simp [hu]))
  exact block.trans ((u.dropAllSent_mirror n).causesKept (by simp) (by simp) (by simp))

theorem State.clearBlock_causesKept : CausesKept s
    ((s.updNeighbour n fun r => { r with blocked := false }).clearFault .neighbourBlocked
      (byteOf n.val)) :=
  s.block_causesKept n false
    (fun k e => by
      rw [State.hasFault_clearFault]
      rfl)
    (fun m => by
      simp only [State.clearFault_keeps, State.updNeighbour_neighbours, upd_get, eq_comm (a := n)]
      split <;> rfl)
    (.of_asu (by simp)) (.of_heads (by simp))

theorem State.replyExpiry_causesKept (k : Fin 8) : CausesKept s (s.replyExpiry k) := by
  have drop : CausesKept s (s.dropSent k) :=
    (s.dropSent_mirror k).causesKept (by simp) (by simp) (by simp)
  have resend (o : Offer) : CausesKept s (s.resend k o) := by
    have placed : MirrorStays s (s.resend k o) := (State.toNeighbour_mirror _ _ _).after (by simp)
    exact placed.causesKept (by simp) (by simp) (by simp)
  unfold State.replyExpiry
  split
  · exact .refl s
  · split
    · exact .refl s
    · split
      · unfold State.applyPolicy
        split
        · exact MirrorStays.causesKept (.of_same (by simp)) (by simp) (by simp) (by simp)
        · split
          · exact resend _
          · exact drop
        · exact drop
        · exact drop.trans (State.blockNeighbour_causesKept _ _)
      · exact .refl s

end

/-! ## Heads (R18 to R22) -/

section
variable (s : State) (h : Fin 24)

/-- No observation decodes to the phase FAULTED. -/
theorem Phase.decode_ne_faulted {p next : Phase} {a b : Bool} {passage : Option Passage}
    (h : p.decode a b = .moved next passage) : next ≠ .faulted := by
  rintro rfl
  revert h
  cases p <;> cases a <;> cases b <;> nofun

/-- Where the record of one head and conditions of HEAD_SEQUENCE alone have moved. -/
theorem State.head_causesKept {t : State} (flags : SameFlags s t) (blocks : SameBlocks s t)
    (others : ∀ k : FaultKind, k ≠ .headSequence → SameFaults k s t)
    (heads : s.HeadFaults → t.HeadFaults) : CausesKept s t :=
  ⟨LampFaults.congr (others _ nofun) (others _ nofun) flags,
    BlockFaults.congr (others _ nofun) blocks, heads⟩

/-- The head records rewritten at one head, the conditions as they were. -/
theorem State.updHead_headFaults {f : HeadRec → HeadRec} (follow : s.HeadFaults)
    (own : (s.acu.heads[h]).seqFault =
        ((s.acu.heads[h]).phase == .faulted || s.hasFault .headSequence (byteOf h.val)) →
      (f s.acu.heads[h]).seqFault =
        ((f s.acu.heads[h]).phase == .faulted || s.hasFault .headSequence (byteOf h.val))) :
    (s.updHead h f).HeadFaults := by
  intro x
  have faults : (s.updHead h f).hasFault .headSequence (byteOf x.val) =
      s.hasFault .headSequence (byteOf x.val) := rfl
  rw [faults, State.updHead_heads, upd_get]
  split
  · next same => subst same; exact own (follow h)
  · exact follow x

theorem State.updHead_causesKept {f : HeadRec → HeadRec}
    (own : (s.acu.heads[h]).seqFault =
        ((s.acu.heads[h]).phase == .faulted || s.hasFault .headSequence (byteOf h.val)) →
      (f s.acu.heads[h]).seqFault =
        ((f s.acu.heads[h]).phase == .faulted || s.hasFault .headSequence (byteOf h.val))) :
    CausesKept s (s.updHead h f) :=
  s.head_causesKept (.of_asu (by simp)) (.of_neighbours (by simp)) (fun k _ e => rfl)
    fun follow => s.updHead_headFaults h follow own

/-- HEAD_SEQUENCE set or removed together with the record of its head. -/
theorem State.putSequence_causesKept {f : HeadRec → HeadRec} {t : State} {v : Bool}
    (faults : ∀ k e, t.hasFault k e =
      if k = .headSequence ∧ e = byteOf h.val then v else s.hasFault k e)
    (heads : t.acu.heads = upd s.acu.heads h f) (asu : t.asu = s.asu)
    (neighbours : t.hou.neighbours = s.hou.neighbours)
    (own : (s.acu.heads[h]).seqFault =
        ((s.acu.heads[h]).phase == .faulted || s.hasFault .headSequence (byteOf h.val)) →
      (f s.acu.heads[h]).seqFault = ((f s.acu.heads[h]).phase == .faulted || v)) :
    CausesKept s t := by
  refine s.head_causesKept (.of_asu asu) (.of_neighbours neighbours)
    (fun k other e => by rw [faults, if_neg fun both => other both.1]) fun follow x => ?_
  rw [faults, heads, upd_get]
  simp only [true_and, byteOf_fin_inj (k := 24) (by decide), eq_comm (a := x)]
  split
  · next same => subst same; exact own (follow h)
  · exact follow x

theorem State.sequenceError_causesKept (a b : Bool) : CausesKept s (s.sequenceError h a b) :=
  s.putSequence_causesKept h (f := HeadRec.fail a b)
    (fun k e => State.hasFault_setFault (s.updHead h (HeadRec.fail a b)) k _ e _)
    (by simp [State.sequenceError]) (by simp) (by simp) (fun _ => by simp [HeadRec.fail])

theorem State.decodeHead_causesKept (a b : Bool) : CausesKept s (s.decodeHead h a b) := by
  simp only [State.decodeHead]
  split
  · exact s.updHead_causesKept h id
  · next running =>
    split
    · exact .refl s
    · exact s.sequenceError_causesKept h a b
    · next next passage decoded =>
      have goes : (next == Phase.faulted) = false := by simpa using Phase.decode_ne_faulted decoded
      have moved : CausesKept s (s.updHead h fun r => { r with phase := next }) :=
        s.updHead_causesKept h fun follow => by
          rw [follow, goes, beq_eq_false_iff_ne.2 running]
      split
      · exact moved
      · next p =>
        have counted := (s.updHead h fun r => { r with phase := next }).updHead_causesKept h
          (f := HeadRec.count p) (by cases p <;> exact id)
        have steps (t : State) (f : Fin 32 → SectionRec → SectionRec) :
            CausesKept t (t.mapSections f) :=
          MirrorStays.causesKept (.of_same (by simp)) (by simp) (by simp) (by simp)
        exact (moved.trans counted).trans (steps _ _)

theorem State.headObservation_causesKept (a b : Bool) :
    CausesKept s (s.headObservation h a b) := by
  unfold State.headObservation
  split
  · have observed : CausesKept s (s.observeHead h a b) :=
      MirrorStays.causesKept (.of_same (by simp)) (by simp) (by simp) (by simp)
    exact observed.trans (State.decodeHead_causesKept _ h a b)
  · exact .refl s

/-- The decoder leaves FAULTED, and the flag stays where HEAD_SEQUENCE still stands (R22). -/
theorem State.restExpiry_causesKept : CausesKept s (s.restExpiry h) := by
  simp only [State.restExpiry]
  split
  · next due =>
    refine s.updHead_causesKept h fun follow => ?_
    rw [due.1] at follow
    cases stands : s.hasFault .headSequence (byteOf h.val)
    · rfl
    · exact follow
  · exact .refl s

/-- A latching condition other than HEAD_SEQUENCE mirrors no record. -/
theorem latchingKindOf_mirrored {b : Byte} {k : FaultKind} (h : latchingKindOf b = some k) :
    k = .headSequence ∨ k.mirrored = false := by
  unfold latchingKindOf at h
  split at h <;> cases h <;> simp [FaultKind.mirrored]

theorem State.faultRemoved_other {k : FaultKind} (h : k ≠ .headSequence) (e : Byte) :
    s.faultRemoved k e = s := by
  unfold State.faultRemoved
  split
  · exact absurd rfl h
  · rfl

/-- The removal of HEAD_SEQUENCE goes with the record of its head; an element that is no head has
none (R22). -/
theorem State.clearSequence_causesKept (e : Byte) :
    CausesKept s ((s.clearFault .headSequence e).faultRemoved .headSequence e) := by
  cases element : indexOf? 24 e with
  | some x =>
    simp only [State.faultRemoved, element]
    refine s.putSequence_causesKept x (f := HeadRec.faultRemoved) (v := false)
      (fun k d => ?_) (by simp) (by simp) (by simp) (fun follow => ?_)
    · rw [byteOf_indexOf element]
      exact s.hasFault_clearFault k _ d _
    · unfold HeadRec.faultRemoved
      split
      · next faulted => rw [follow, faulted]; rfl
      · next running => simpa using running
  | none =>
    simp only [State.faultRemoved, element]
    have faults (k : FaultKind) (d : Byte) := s.hasFault_clearFault k .headSequence d e
    refine s.head_causesKept (.of_asu (by simp)) (.of_neighbours (by simp))
      (fun k other d => by rw [faults, if_neg fun both => other both.1]) fun follow x => ?_
    have noHead : byteOf x.val ≠ e := by
      rintro rfl
      exact nomatch element.symm.trans (indexOf_byteOf (by decide) x)
    rw [faults, if_neg fun both => noHead both.2]
    simpa using follow x

theorem workClearFault_causesKept (c : QueuedCommand) : CausesKept s (workClearFault s c).1 := by
  unfold workClearFault
  split
  · exact .refl s
  · next kind latching =>
    split
    · obtain rfl | free := latchingKindOf_mirrored latching
      · exact s.clearSequence_causesKept c.arg2
      · have other : kind ≠ .headSequence := by rintro rfl; nomatch free
        rw [State.faultRemoved_other _ other]
        exact (s.clearFault_mirror free _).causesKept (by simp) (by simp) (by simp)
    · exact .refl s

theorem workClearNeighbourBlock_causesKept (c : QueuedCommand) :
    CausesKept s (workClearNeighbourBlock s c).1 := by
  unfold workClearNeighbourBlock
  split
  · exact .refl s
  · exact s.clearBlock_causesKept _

theorem State.runCommand_causesKept (isRow : Byte → Bool)
    {work : State → QueuedCommand → State × Option Reason}
    (works : ∀ t c, CausesKept t (work t c).1) : CausesKept s (s.runCommand isRow work) := by
  obtain e | ⟨c, rest, -, -, e⟩ := s.runCommand_cases isRow work
  · rw [e]; exact .refl s
  · rw [e]
    have taken : CausesKept s (s.taken rest) := ⟨id, id, id⟩
    refine (taken.trans (works (s.taken rest) c)).trans ?_
    exact (State.placeResult_mirror _ c _).causesKept (by simp) (by simp) (by simp)

end

/-! ## What the other operations leave -/

/-- The lamps, the BLOCKED flags and the decoders are in `t` as in `s`. -/
structure RecordsStay (s t : State) : Prop where
  asu : t.asu = s.asu
  blocks : SameBlocks s t
  heads : t.acu.heads = s.acu.heads

theorem RecordsStay.of_same {s t : State} (h : t.asu = s.asu ∧
    t.hou.neighbours = s.hou.neighbours ∧ t.acu.heads = s.acu.heads) : RecordsStay s t :=
  ⟨h.1, .of_neighbours h.2.1, h.2.2⟩

theorem RecordsStay.refl (s : State) : RecordsStay s s := .of_same ⟨rfl, rfl, rfl⟩

theorem RecordsStay.trans {s t u : State} (h : RecordsStay s t) (k : RecordsStay t u) :
    RecordsStay s u :=
  ⟨k.asu.trans h.asu, fun n => (k.blocks n).trans (h.blocks n), k.heads.trans h.heads⟩

theorem RecordsStay.causesKept {s t : State} (h : RecordsStay s t) (m : MirrorStays s t) :
    CausesKept s t := .of_stay m.same_faults (.of_asu h.asu) h.blocks (.of_heads h.heads)

section
variable (s : State)

/-- A neighbour's record rewritten but for its BLOCKED flag. -/
theorem State.updNeighbour_records (n : Fin 4) {f : NeighbourRec → NeighbourRec}
    (h : ∀ r, (f r).blocked = r.blocked) : RecordsStay s (s.updNeighbour n f) := by
  refine ⟨by simp, fun m => ?_, by simp⟩
  simp only [State.updNeighbour_neighbours, upd_get]
  split
  · next same => subst same; exact h _
  · rfl

theorem State.silenceEvent_records (n : Fin 4) : RecordsStay s (s.silenceEvent n) := by
  have silent : RecordsStay s (s.updNeighbour n fun r =>
    { r with state := .silent, silence := .stopped, view := none }) :=
    s.updNeighbour_records n fun _ => rfl
  exact silent.trans (.of_same (by simp [State.silenceEvent]))

theorem State.hearStatus_records (n : Fin 4) (cfg : NeighbourCfg) (c : StatusContent) :
    RecordsStay s (s.hearStatus n cfg c) := by
  have alive : RecordsStay s (s.updNeighbour n fun r =>
    { r with state := .alive, silence := .start cfg.silenceLimit, view := some c }) :=
    s.updNeighbour_records n fun _ => rfl
  refine alive.trans (.of_same ?_)
  simp only [State.hearStatus]
  split <;> split <;> simp

theorem State.takeStatus_records (n : Fin 4) (c : StatusContent) :
    RecordsStay s (s.takeStatus n c) := by
  unfold State.takeStatus
  split
  · exact .refl s
  · split
    · exact s.silenceEvent_records n
    · exact s.hearStatus_records n _ c

theorem State.silenceExpiry_records (n : Fin 4) : RecordsStay s (s.silenceExpiry n) := by
  unfold State.silenceExpiry
  split
  · exact s.silenceEvent_records n
  · exact .refl s

theorem State.deliver_records (seq : Byte) (src : Source) (p : Payload) :
    RecordsStay s (deliver seq src p s) := by
  unfold deliver
  split
  · exact s.takeStatus_records _ _
  all_goals exact .of_same (by simp)

theorem State.collected_records (kind : Byte) (f : Frame) : RecordsStay s (s.collected kind f) := by
  unfold State.collected
  obtain ⟨-, e⟩ | ⟨_, _, _, -, -, e⟩ | ⟨_, _, -, -, e⟩ | ⟨src, p, -, new, e⟩ :=
    receive_cases kind f s
  · rw [e]; exact .refl s
  · rw [e]; exact .of_same (by simp)
  · rw [e]; exact .of_same (by simp)
  · rw [e]
    have received : RecordsStay s (s.received src f) :=
      .of_same (by simp [State.received, State.acceptFrom])
    exact received.trans (State.deliver_records _ _ src p)

theorem State.runCommand_records (isRow : Byte → Bool)
    {work : State → QueuedCommand → State × Option Reason}
    (works : ∀ t c, RecordsStay t (work t c).1) : RecordsStay s (s.runCommand isRow work) := by
  obtain e | ⟨c, rest, -, -, e⟩ := s.runCommand_cases isRow work
  · rw [e]; exact .refl s
  · rw [e]
    have taken : RecordsStay s (s.taken rest) := .of_same ⟨rfl, rfl, rfl⟩
    exact (taken.trans (works (s.taken rest) c)).trans (.of_same (by simp))

theorem State.refuseImage_records (code : Byte) (delivered : List Byte) :
    RecordsStay s (s.refuseImage code delivered) := by
  refine .of_same ?_
  simp only [State.refuseImage, State.startRefusedStatus]
  split <;> simp

theorem State.enterHalt_records : RecordsStay s s.enterHalt := by
  have dropped (t : State) : RecordsStay t t.enterHalt := by
    refine .of_same ⟨?_, ?_, ?_⟩
    · exact (State.forEach_keeps (·.asu) _ (fun t c => by simp) _ _)
    · exact (State.forEach_keeps (·.hou.neighbours) _ (fun t c => by simp) _ _)
    · exact (State.forEach_keeps (·.acu.heads) _ (fun t c => by simp) _ _)
  exact dropped s

theorem State.stop_records (delivered : List Byte) : RecordsStay s (s.stop delivered) := by
  have observed : RecordsStay s s.observeStop := .of_same ⟨rfl, rfl, rfl⟩
  have halt : RecordsStay s (s.observeStop.enterHalt.setFault .stopped 0) :=
    (observed.trans (State.enterHalt_records _)).trans (.of_same (by simp))
  simp only [State.stop]
  split
  · have refused := s.observeStop.refuseImage_records ImageFault.stopped.code delivered
    exact (observed.trans refused).trans (.of_same (by simp))
  · exact halt
  · exact halt
  · exact observed

theorem State.configReadEnd_records (delivered : List Byte) :
    RecordsStay s (s.configReadEnd delivered) := by
  unfold State.configReadEnd
  split
  · split
    · exact .of_same ⟨rfl, rfl, rfl⟩
    · exact s.refuseImage_records _ delivered
  · exact .refl s

theorem State.configReadTimeout_records (delivered : List Byte) :
    RecordsStay s (s.configReadTimeout delivered) := by
  unfold State.configReadTimeout
  split
  · exact s.refuseImage_records _ delivered
  · exact .refl s

end

/-! ## Every own effect -/

section
variable {i : Instr} {s u : State}

/-- A command that moves no mirrored condition leaves the causes of them all, but for the flash
boundary, which presents aspects, and the rest timer of a head. -/
theorem effect_records (h : s.effect i = some u) (other : movesMirror i = false)
    (flash : i ≠ .flashBoundary) (rest : ∀ x, i ≠ .restTimerExpiry x) : RecordsStay s u := by
  cases i
  case reset | quietTimerExpiry | statusPeriodExpiry | statusPacingEnd | displayPeriodExpiry
      | displayPacingEnd | transmitAttempt | telegramSent | attemptFailed | transmitGiveUp =>
    nomatch h
  case headObservation | failureTimerExpiry | strayTimerExpiry | strayClearTimerExpiry
      | clearNeighbourBlock | clearFault | replyTimerExpiry => nomatch other
  case flashBoundary => exact absurd rfl flash
  case restTimerExpiry x => exact absurd rfl (rest x)
  all_goals cases h
  case configReadEnd d => exact s.configReadEnd_records d
  case configReadTimeout d => exact s.configReadTimeout_records d
  case stop d => exact s.stop_records d
  case silenceTimerExpiry n => exact s.silenceExpiry_records n
  case command | status | portionRequest | portionGrant | portionRefuse | portionRelease
      | flankRequest | flankGrant | flankRefuse | flankRelease | sectionReset
      | discardedTelegram => exact s.collected_records _ _
  case setRoute | cancelRoute | movePoint | block | resetSection | confirmReset
      | unknownCommand => exact s.runCommand_records _ fun t c => .of_same (by simp)
  all_goals exact .of_same (by simp)

theorem State.flashBoundary_lampRec (s : State) (g : Fin 16) (l : Lamp) :
    s.flashBoundary.lampRec g l = s.lampRec g l := by
  cases l <;> simp [State.flashBoundary, State.lampRec, State.mapSignals, SignalRec.lamp]

/-- Every own effect keeps each mirrored condition with its cause. -/
theorem effect_causesKept (h : s.effect i = some u) : CausesKept s u := by
  by_cases moves : movesMirror i = true
  · cases i
    case headObservation x a b => cases h; exact s.headObservation_causesKept x a b
    case failureTimerExpiry g l =>
      cases h
      unfold State.failureExpiry
      split
      · exact s.putFailed_causesKept g l true
      · exact .refl s
    case strayTimerExpiry g l =>
      cases h
      unfold State.strayExpiry
      split
      · exact s.putStray_causesKept g l true
      · exact .refl s
    case strayClearTimerExpiry g l =>
      cases h
      unfold State.strayClearExpiry
      split
      · exact s.putStray_causesKept g l false
      · exact .refl s
    case clearNeighbourBlock =>
      cases h; exact s.runCommand_causesKept _ workClearNeighbourBlock_causesKept
    case clearFault => cases h; exact s.runCommand_causesKept _ workClearFault_causesKept
    case replyTimerExpiry k => cases h; exact s.replyExpiry_causesKept k
    all_goals nomatch moves
  · have other : movesMirror i = false := by simpa using moves
    by_cases flash : i = .flashBoundary
    · subst flash; cases h
      have faults (k : FaultKind) (_ : k.mirrored = true) : SameFaults k s s.flashBoundary :=
        .of_eq (by simp) k
      exact .of_stay faults (fun g l => by simp [State.flashBoundary_lampRec])
        (.of_neighbours (by simp)) (.of_heads (by simp))
    · by_cases rest : ∃ x, i = .restTimerExpiry x
      · obtain ⟨x, rfl⟩ := rest; cases h
        exact s.restExpiry_causesKept x
      · have stay := effect_records h other flash (by simpa using rest)
        exact stay.causesKept (effect_mirror h other)

end

end Sys2Proof.Machine
end

section
/-! The supervision of the lamps and of the mirrored conditions across every step: the proving
timers follow their conditions (R99, R101, R102), the conditions their causes (R22, R103,
R150, R163), and no red lamp that is energised and lit stands failed (R100). -/

namespace Sys2Proof.Machine

open Sys2Proof

section
variable {i : Instr} {b s t u : State}

/-! ## Timers of the lamps -/

theorem sameTimers.of_asu (h : t.asu = s.asu) : sameTimers s t := fun g l => by
  simp [State.lampRec, h]

theorem State.putStray_timers (s : State) (g : Fin 16) (l : Lamp) (v : Bool) :
    sameTimers s (s.putStray g l v) := fun g' l' => by
  rw [State.putStray_lamp]
  split <;> exact ⟨rfl, rfl, rfl⟩

/-- What an own effect does to the lamps: no proving timer moves, and a lamp comes to stand failed
by the expiry of its failure timer alone (R99). -/
structure LampsMove (s u : State) : Prop where
  timers : sameTimers s u
  failed : ∀ (g : Fin 16) (l : Lamp), (u.lampRec g l).failed = true →
    (s.lampRec g l).failed = true ∨ (s.lampRec g l).failureTimer.due = true

theorem LampsMove.of_asu (h : u.asu = s.asu) : LampsMove s u :=
  ⟨.of_asu h, fun g l failed => .inl (by simpa [State.lampRec, h] using failed)⟩

theorem State.failureExpiry_lamps (s : State) (g : Fin 16) (l : Lamp) :
    LampsMove s (s.failureExpiry g l) := by
  unfold State.failureExpiry
  split
  · next due =>
    refine ⟨s.putFailed_timers g l true, fun g' l' failed => ?_⟩
    rw [State.putFailed_lamp] at failed
    split at failed
    · next same => obtain ⟨rfl, rfl⟩ := same; exact .inr due
    · exact .inl failed
  · exact .of_asu rfl

theorem State.putStray_lamps (s : State) (g : Fin 16) (l : Lamp) (v : Bool) :
    LampsMove s (s.putStray g l v) := by
  refine ⟨s.putStray_timers g l v, fun g' l' failed => .inl ?_⟩
  rw [State.putStray_lamp] at failed
  split at failed <;> exact failed

theorem State.flashBoundary_lamps (s : State) : LampsMove s s.flashBoundary := by
  refine ⟨fun g l => by simp [State.flashBoundary_lampRec], fun g l failed => .inl ?_⟩
  rwa [State.flashBoundary_lampRec] at failed

theorem State.runCommand_lamps (s : State) (isRow : Byte → Bool)
    {work : State → QueuedCommand → State × Option Reason}
    (works : ∀ t c, (work t c).1.asu = t.asu) : LampsMove s (s.runCommand isRow work) := by
  refine .of_asu ?_
  obtain e | ⟨c, rest, -, -, e⟩ := s.runCommand_cases isRow work
  · rw [e]
  · rw [e]
    have answered (x : State) (why : Option Reason) : (x.placeResult c why).asu = x.asu := by simp
    rw [answered, works]
    rfl

theorem effect_lamps (h : s.effect i = some u) : LampsMove s u := by
  by_cases moves : movesMirror i = true
  · cases i
    case headObservation x a b => cases h; exact .of_asu (by simp)
    case failureTimerExpiry g l => cases h; exact s.failureExpiry_lamps g l
    case strayTimerExpiry g l =>
      cases h
      unfold State.strayExpiry
      split
      · exact s.putStray_lamps g l true
      · exact .of_asu rfl
    case strayClearTimerExpiry g l =>
      cases h
      unfold State.strayClearExpiry
      split
      · exact s.putStray_lamps g l false
      · exact .of_asu rfl
    case clearNeighbourBlock => cases h; exact s.runCommand_lamps _ fun t c => by simp
    case clearFault => cases h; exact s.runCommand_lamps _ fun t c => by simp
    case replyTimerExpiry k => cases h; exact .of_asu (by simp)
    all_goals nomatch moves
  · have other : movesMirror i = false := by simpa using moves
    by_cases flash : i = .flashBoundary
    · subst flash; cases h
      exact s.flashBoundary_lamps
    · by_cases rest : ∃ x, i = .restTimerExpiry x
      · obtain ⟨x, rfl⟩ := rest; cases h
        exact .of_asu (by simp)
      · exact .of_asu (effect_records h other flash (by simpa using rest)).asu

/-! ## The rest of an event -/

/-- The lamp-failed flags that an event clears go with their conditions (R100, R103). -/
theorem Consequences.causesKept (h : Consequences b u t) : CausesKept u t := by
  have others (k : FaultKind) (other : k ≠ .lampFailed) : SameFaults k u t := fun e => by
    refine State.hasFault_congr ((h.faults ⟨k, e⟩).trans (and_iff_left ?_))
    rintro ⟨g, l, -, same⟩
    exact other (congrArg Condition.kind same)
  refine ⟨fun follow g l => ?_, BlockFaults.congr (others _ nofun) (.of_neighbours h.neighbours),
    HeadFaults.congr (others _ nofun) (.of_heads (by rw [h.counts]))⟩
  obtain ⟨failed, stray⟩ := follow g l
  refine ⟨?_, by rw [others .strayProving nofun, h.stray, stray]⟩
  rw [h.failed, ← failed, Bool.eq_iff_iff, State.hasFault_iff, h.faults]
  have cleared : (∃ (g' : Fin 16) (l' : Lamp), b.lampRestored t g' l' = true ∧
      (⟨.lampFailed, lampElement g l⟩ : Condition) = ⟨.lampFailed, lampElement g' l'⟩) ↔
      b.lampRestored t g l = true := by
    constructor
    · rintro ⟨g', l', restored, same⟩
      obtain ⟨rfl, rfl⟩ := lampElement_inj.1 (congrArg Condition.element same)
      exact restored
    · exact fun restored => ⟨g, l, restored, rfl⟩
  rw [cleared, ← State.hasFault_iff]
  simp

/-- A red lamp that the event leaves energised and lit stands failed only where it was both before,
and then its failure timer was not running (R99, R100). -/
theorem Consequences.noLitRedFailed (h : Consequences s u t) (move : LampsMove s u)
    (timers : s.LampTimersFollow) (law : s.NoLitRedFailed) : t.NoLitRedFailed := by
  intro g energised lit
  by_contra failed
  have stood := Bool.eq_true_of_not_eq_false failed
  rw [h.failed] at stood
  simp only [State.lampRestored, energised, lit, Bool.and_eq_true, Bool.not_eq_true',
    Bool.not_eq_false', Bool.true_and] at stood
  obtain ⟨now, wasEnergised, wasLit⟩ := stood
  obtain old | due := move.failed g .red now
  · rw [law g wasEnergised wasLit] at old
    nomatch old
  · have running := (timers g .red).1
    rw [wasLit] at running
    cases timer : (s.lampRec g .red).failureTimer <;>
      simp_all [Timer.due, Timer.isRunning]

end

/-! ## The events without such a rest -/

section
variable {s t : State}

theorem SameReport.causesKept (h : SameReport s t) : CausesKept s t :=
  .of_stay (fun k _ => .of_eq h.faults k) (.of_asu h.asu) (.of_neighbours h.neighbours)
    (.of_heads (by rw [h.acu]))

theorem SameReport.timers (h : SameReport s t) (law : s.LampTimersFollow) : t.LampTimersFollow :=
  LampTimersFollow.of_same law h.fsu h.asu

theorem SameReport.noLitRedFailed (h : SameReport s t) (law : s.NoLitRedFailed) :
    t.NoLitRedFailed := by
  simpa [State.NoLitRedFailed, State.energised, State.lit, State.lampRec, h.fsu, h.asu] using law

theorem State.reset_timers : State.reset.LampTimersFollow := fun g l => by
  have energised : State.reset.energised g l = false := by
    simp [State.energised, State.reset, FieldScan.reset]
  have lit : State.reset.lit g l = false := by
    simp [State.lit, State.reset, FieldScan.reset, FilterRec.started]
  rw [State.reset_lampRec, energised, lit]
  exact ⟨rfl, rfl, rfl⟩

theorem State.reset_faultsMirror : State.reset.FaultsMirrorRecords := by
  refine ⟨fun g l => ?_, fun n => ?_, fun h => ?_⟩
  · rw [State.reset_lampRec]
    exact ⟨rfl, rfl⟩
  · simp [State.hasFault, State.reset, CommandUnit.reset, Handover.reset]
  · simp [State.hasFault, State.reset, CommandUnit.reset, AxleCount.reset]

theorem State.reset_noLitRedFailed : State.reset.NoLitRedFailed := fun g _ _ => by
  simp [State.reset_lampRec, LampRec.reset]

theorem State.resetKeeping_report (s : State) : SameReport State.reset s.resetKeeping := by
  constructor <;> rfl

/-- From `s` to `t` the three laws of supervision are kept. -/
structure Supervised (s t : State) : Prop where
  timers : s.LampTimersFollow → t.LampTimersFollow
  mirror : s.FaultsMirrorRecords → t.FaultsMirrorRecords
  reds : s.LampTimersFollow → s.NoLitRedFailed → t.NoLitRedFailed

theorem SameReport.supervised (h : SameReport s t) : Supervised s t :=
  ⟨h.timers, h.causesKept.mirror, fun _ => h.noLitRedFailed⟩

theorem Supervised.andReport {u : State} (h : Supervised s t) (k : SameReport t u) :
    Supervised s u :=
  ⟨k.timers ∘ h.timers, k.causesKept.mirror ∘ h.mirror, fun x y => k.noLitRedFailed (h.reds x y)⟩

theorem State.quietExpiry_supervised (s : State) : Supervised s s.quietExpiry := by
  by_cases ready : s.sld.station = .quiet ∧ s.sld.quiet.due = true
  · rw [State.quietExpiry_eq ready]
    have event := s.settled_consequences { s with sld := s.sld.toRun }
    have enter : CausesKept s { s with sld := s.sld.toRun } := ⟨id, id, id⟩
    have settled : Supervised s (s.settled { s with sld := s.sld.toRun }) :=
      ⟨fun law => State.settled_timers law (.of_asu rfl), (enter.trans event.causesKept).mirror,
        event.noLitRedFailed (.of_asu rfl)⟩
    exact settled.andReport (State.announce_report _)
  · rw [State.quietExpiry_idle ready]
    exact ⟨id, id, fun _ => id⟩

theorem State.resetKeeping_supervised (s : State) : Supervised s s.resetKeeping :=
  have same := s.resetKeeping_report
  ⟨fun _ => same.timers State.reset_timers,
    fun _ => same.causesKept.mirror State.reset_faultsMirror,
    fun _ _ => same.noLitRedFailed State.reset_noLitRedFailed⟩

/-! ## Every step -/

theorem exec_supervised {i : Instr} (e : exec i s = .next t) : Supervised s t := by
  cases h : s.effect i with
  | some u =>
    rw [exec_of_effect h] at e
    cases e
    have event := (s.finish_rest u).toConsequences
    exact ⟨fun law => State.finish_timers law (effect_lamps h).timers,
      ((effect_causesKept h).trans event.causesKept).mirror, event.noLitRedFailed (effect_lamps h)⟩
  | none =>
    obtain ⟨-, rfl⟩ | ⟨-, rfl⟩ | lines := exec_without_effect h e
    · exact s.resetKeeping_supervised
    · exact s.quietExpiry_supervised
    · exact lines.toSameReport.supervised

theorem Timer.tickIf_isRunning (ends : Bool) (x : Timer) :
    (x.tickIf ends).isRunning = x.isRunning := by
  cases ends <;> cases x <;> rfl

/-- An interval moves no lamp, no flag and no proving input; a timer that counts goes on running. -/
theorem State.tick_supervised (s : State) : Supervised s s.tick := by
  have energised (g : Fin 16) (l : Lamp) : s.tick.energised g l = s.energised g l := by
    simp [State.energised, State.tick_keeps]
  refine ⟨fun law g l => ?_, ?_, fun _ law g => ?_⟩
  · rw [energised, State.tick_lit, State.tick_lampRec]
    simpa [LampRec.tickIf, Timer.tickIf_isRunning] using law g l
  · refine (CausesKept.of_stay (fun k _ => .of_eq (by simp [State.tick_cmu]) k) (fun g l => ?_)
      (fun n => ?_) fun x => ?_).mirror
    · simp [State.tick_lampRec, LampRec.tickIf]
    · simp [State.tick_hou]
    · simp [State.tick_acu]
  · rw [energised, State.tick_lit, State.tick_lampRec]
    exact law g

/-- Settles O57: an own effect moves a cause with its condition, and the rest of its event follows
the lamps. -/
theorem supervisionFollowsTheRecords : Obligations.SupervisionFollowsTheRecords := by
  intro s t e
  have supervised : Supervised s t := by
    cases waiting : s.pending with
    | nil =>
      rw [step_of_empty_queue waiting] at e
      cases e
      exact s.tick_supervised
    | cons i rest =>
      rw [step, waiting] at e
      have same : SameReport s { s with pending := rest } := by constructor <;> rfl
      have kept := exec_supervised e
      exact ⟨kept.timers ∘ same.timers, kept.mirror ∘ same.causesKept.mirror,
        fun timers law => kept.reds (same.timers timers) (same.noLitRedFailed law)⟩
  exact ⟨supervised.timers, supervised.mirror, supervised.reds⟩

end

end Sys2Proof.Machine
end

section
/-! The reset state meets every law of the device. -/

namespace Sys2Proof.Machine

open Sys2Proof

theorem State.reset_queuesBounded : State.reset.QueuesBounded :=
  ⟨Nat.zero_le _, Nat.zero_le _, State.reset_windowsOk⟩

theorem State.reset_nothingStands (x : FlankElement) : State.reset.setsNaming x = 0 := by
  simp [State.setsNaming, State.reset, Locking.reset, RouteRec.idle, Handover.reset,
    PortionRec.idle, Hold.entries, Hold.idle, ZoneConfig.empty]

theorem State.reset_offersLawful : State.reset.OffersLawful := by
  simp [State.OffersLawful, State.reset, Handover.reset]

theorem State.reset_offersOwned : State.reset.OffersOwned := by
  simp [State.OffersOwned, State.reset, Locking.reset, RouteRec.idle]

theorem State.reset_offersHeld : State.reset.OffersHeld := by
  simp [State.OffersHeld, State.reset, Locking.reset, RouteRec.idle, Handover.reset]

theorem State.reset_nothingOutsideRun : State.reset.NothingOutsideRun := by
  intro _
  simp [State.reset, Locking.reset, RouteRec.idle, Handover.reset, PortionRec.idle, TimerPool.reset]

theorem State.reset_flankCounted : State.reset.FlankCounted := by
  simp [State.FlankCounted, State.reset_nothingStands]
  simp [State.reset, Locking.reset, RouteRec.idle, Handover.reset, PortionRec.idle, Hold.idle]
  intro q
  cases q <;> exact ⟨rfl, Nat.zero_le _⟩

/-- Settles O51, law by law. -/
theorem resetKeepsEveryLaw : Obligations.ResetKeepsEveryLaw :=
  ⟨State.reset_sectionsTied, .nil, State.reset_queuesBounded, fun waiting => absurd rfl waiting,
    State.reset_offersLawful, State.reset_offersOwned, State.reset_nothingOutsideRun,
    State.reset_offersHeld, State.reset_flankCounted, State.reset.resetKeeping_levels.1,
    State.reset_timers, State.reset_faultsMirror, State.reset.resetKeeping_levels.2,
    State.reset_noLitRedFailed⟩

end Sys2Proof.Machine
end

section
/-! Axle counting: the section table with its latches (R27, R28), the passage table and the sequence
error of a decoder (R18 to R22), each as the own effect of its command. -/

namespace Sys2Proof.Machine

open Sys2Proof

/-! ## The section table (R27, R28) -/

namespace SectionRec

variable (r : SectionRec)

theorem latched_self : r.latched r = r := by simp [latched]

theorem change_zero : r.change 0 = r := by simp [change, shifted, latched_self]

/-- CHG after an event at a section record (R28). -/
theorem latched_chg (new : SectionRec) : (r.latched new).chg = true ↔
    r.chg = true ∨ new.state ≠ r.state ∨ (r.count < new.count ∧ new.state ≠ .disturbed) := by
  simp [latched, or_assoc]

/-- OCC after an event at a section record (R28). -/
theorem latched_occ (new : SectionRec) : (r.latched new).occ = true ↔
    r.occ = true ∨ (r.state = .clear ∧ new.state ≠ .clear) ∨
      (r.count < new.count ∧ new.state ≠ .disturbed) := by
  simp [latched, or_assoc]

variable {r} {d : Int}

theorem shifted_below (nonzero : d ≠ 0) (below : (r.count : Int) + d < 0) :
    r.shifted d = { r with count := 0, state := .disturbed } := by
  simp [shifted, nonzero, below]

theorem shifted_above (nonzero : d ≠ 0) (above : 999 < (r.count : Int) + d) :
    r.shifted d = { r with count := 999, state := .disturbed } := by
  have notBelow : ¬(r.count : Int) + d < 0 := by omega
  simp [shifted, nonzero, notBelow, above]

/-- Within the range of the count, the new count gives the state. -/
theorem shifted_within (nonzero : d ≠ 0) (least : 0 ≤ (r.count : Int) + d)
    (most : (r.count : Int) + d ≤ 999) : r.shifted d =
      { r with
        count := ((r.count : Int) + d).toNat
        state := r.state.atCount ((r.count : Int) + d).toNat } := by
  have notBelow : ¬(r.count : Int) + d < 0 := by omega
  have notAbove : ¬999 < (r.count : Int) + d := by omega
  simp [shifted, nonzero, notBelow, notAbove]

end SectionRec

/-- Settles O16, range by range of the new count. -/
theorem signedChangeFollowsTheSectionTable : Obligations.SignedChangeFollowsTheSectionTable := by
  intro r
  refine ⟨r.change_zero, fun d nonzero => ?_⟩
  refine ⟨fun below => ?_, fun above => ?_, fun least most => ?_, r.latched_chg _, r.latched_occ _⟩
  · rw [SectionRec.change, SectionRec.shifted_below nonzero below]
    exact ⟨rfl, rfl⟩
  · rw [SectionRec.change, SectionRec.shifted_above nonzero above]
    exact ⟨rfl, rfl⟩
  · rw [SectionRec.change, SectionRec.shifted_within nonzero least most]
    generalize (r.count : Int) + d = c at least most
    refine ⟨Int.toNat_of_nonneg least, fun state => ?_, fun empty => ?_, fun some => ?_⟩
    · simp [SectionRec.latched, state, SectionState.atCount]
    · subst empty
      refine ⟨?_, fun state => by simp [SectionRec.latched, state, SectionState.atCount]⟩
      rintro (state | state | state) <;> simp [SectionRec.latched, state, SectionState.atCount]
    · have notZero : c.toNat ≠ 0 := by omega
      constructor <;> rintro (state | state) <;>
        simp [SectionRec.latched, state, SectionState.atCount, notZero]

/-! ## Decoders (R18 to R22) -/

/-- The lines of the passage table that count nothing (R18). -/
def silentLines : List (Phase × Bool × Bool × Phase) :=
  [(.idle, true, false, .aFirst), (.idle, false, true, .bFirst), (.aFirst, true, true, .aBoth),
    (.aBoth, false, true, .aLeaving), (.bFirst, true, true, .bBoth),
    (.bBoth, true, false, .bLeaving), (.aFirst, false, false, .idle),
    (.aBoth, true, false, .aFirst), (.aLeaving, true, true, .aBoth),
    (.bFirst, false, false, .idle), (.bBoth, false, true, .bFirst), (.bLeaving, true, true, .bBoth)]

theorem Phase.decode_silentLines : ∀ q ∈ silentLines,
    q.1.decode q.2.1 q.2.2.1 = .moved q.2.2.2 .none := by decide

/-- An observation that differs from the phase's pair in both members is a sequence error (R20). -/
theorem Phase.decode_both_differ {p : Phase} {a b a' b' : Bool} (pair : p.pair = some (a', b'))
    (first : a ≠ a') (second : b ≠ b') : p.decode a b = .sequenceError := by
  have fromFirst : a = !a' := Bool.eq_not_of_ne first
  have fromSecond : b = !b' := Bool.eq_not_of_ne second
  subst fromFirst fromSecond
  cases p <;> cases pair <;> rfl

theorem upd_upd {α : Type} {n : Nat} (v : Vector α n) (i : Fin n) (f g : α → α) :
    upd (upd v i f) i g = upd v i fun x => g (f x) := by
  ext j hj
  simp only [upd_getNat]
  split <;> rfl

section
variable {s : State} {h : Fin 24} {a b : Bool}

theorem State.updHead_updHead (s : State) (h : Fin 24) (f g : HeadRec → HeadRec) :
    (s.updHead h f).updHead h g = s.updHead h fun r => g (f r) := by
  simp only [State.updHead, upd_upd]

theorem Phase.decode_faulted (a b : Bool) : Phase.faulted.decode a b = .unchanged := by
  cases a <;> cases b <;> rfl

/-- A decoder that an observation moves is not FAULTED (R21). -/
theorem Phase.running_of_decode {p : Phase} (moves : p.decode a b ≠ .unchanged) : p ≠ .faulted := by
  rintro rfl
  exact moves (Phase.decode_faulted a b)

theorem State.headObservation_moved {next : Phase} (configured : (s.config.heads[h]).isSome = true)
    (decoded : (s.acu.heads[h]).phase.decode a b = .moved next .none) : s.headObservation h a b =
      (s.observeHead h a b).updHead h fun r => { r with phase := next } := by
  have running : (s.acu.heads[h]).phase ≠ .faulted :=
    Phase.running_of_decode (by rw [decoded]; nofun)
  simp only [State.headObservation, configured, if_true, State.decodeHead, State.observeHead_keeps,
    running, if_false, decoded]

/-- The step of a section is its orientation for a forward passage and minus it for a backward one
(R26). -/
theorem stepOf_eq (plus : Bool) (p : Passage) :
    stepOf plus p = if plus = (p == .forward) then 1 else -1 := by
  cases plus <;> cases p <;> rfl

theorem State.countPassage_eq (s : State) (h : Fin 24) (p : Passage) :
    s.countPassage h p = (s.updHead h (HeadRec.count p)).stepSections h (p == .forward) := by
  rw [State.stepSections, State.countPassage]
  congr 1
  funext k r
  cases named : orientationOf s.config k (.localHead h) with
  | none => simp only [State.updHead_keeps, named]
  | some plus => simp only [State.updHead_keeps, named, stepOf_eq]

/-- A counted passage moves the phase, the total of its direction, and the sections of the head. -/
theorem State.headObservation_passage {p : Passage}
    (configured : (s.config.heads[h]).isSome = true)
    (decoded : (s.acu.heads[h]).phase.decode a b = .moved .idle (some p)) :
    s.headObservation h a b = (((s.observeHead h a b).updHead h fun r =>
      HeadRec.count p { r with phase := .idle }).stepSections h (p == .forward)) := by
  have running : (s.acu.heads[h]).phase ≠ .faulted :=
    Phase.running_of_decode (by rw [decoded]; nofun)
  have counted : s.headObservation h a b = ((s.observeHead h a b).updHead h fun r =>
      { r with phase := .idle }).countPassage h p := by
    simp only [State.headObservation, configured, if_true, State.decodeHead,
      State.observeHead_keeps, running, if_false, decoded]
  rw [counted, State.countPassage_eq, State.updHead_updHead]

theorem State.headObservation_error (configured : (s.config.heads[h]).isSome = true)
    (decoded : (s.acu.heads[h]).phase.decode a b = .sequenceError) :
    s.headObservation h a b = (s.observeHead h a b).sequenceError h a b := by
  have running : (s.acu.heads[h]).phase ≠ .faulted :=
    Phase.running_of_decode (by rw [decoded]; nofun)
  simp only [State.headObservation, configured, if_true, State.decodeHead, State.observeHead_keeps,
    running, if_false, decoded]

theorem State.headObservation_faulted (configured : (s.config.heads[h]).isSome = true)
    (faulted : (s.acu.heads[h]).phase = .faulted) : s.headObservation h a b =
      (s.observeHead h a b).updHead h fun r => { r with rest := restAfter a b } := by
  simp only [State.headObservation, configured, if_true, State.decodeHead, State.observeHead_keeps,
    faulted]

/-- The records after a sequence error, spelled out (R20, R40). -/
theorem State.sequenceError_eq (s : State) (h : Fin 24) (a b : Bool) : s.sequenceError h a b =
    ((s.updHead h fun r =>
      { r with
        phase := .faulted
        seqFault := true
        rest := if a = false ∧ b = false then .start 10 else r.rest }).setFault .headSequence
          (byteOf h.val)).mapSections fun k r =>
      if (orientationOf s.config k (.localHead h)).isSome then
        r.latched { r with state := .disturbed }
      else r := by
  have record : HeadRec.fail a b = fun r => { r with
      phase := .faulted
      seqFault := true
      rest := if a = false ∧ b = false then .start 10 else r.rest } := by
    funext r
    cases a <;> cases b <;> rfl
  rw [← record]
  rfl

theorem restAfter_eq (a b : Bool) :
    restAfter a b = if a = false ∧ b = false then .start 10 else .stopped := by
  cases a <;> cases b <;> rfl

end

/-- Settles O14, by the lines of the passage table. -/
theorem passageTableMovesHeadAndSections : Obligations.PassageTableMovesHeadAndSections := by
  intro s h configured
  refine ⟨?_, fun leaving => ?_, fun leaving => ?_⟩
  · rintro now next a b rfl line
    rw [← State.headObservation_moved configured (Phase.decode_silentLines _ line)]
    exact exec_rest rfl
  · have decoded : (s.acu.heads[h]).phase.decode false false = .moved .idle (some .forward) := by
      rw [leaving]; rfl
    obtain ⟨t, event, rest⟩ := exec_rest (s := s) (i := .headObservation h false false) rfl
    rw [State.headObservation_passage configured decoded] at rest
    exact ⟨t, event, rest⟩
  · have decoded : (s.acu.heads[h]).phase.decode false false = .moved .idle (some .backward) := by
      rw [leaving]; rfl
    obtain ⟨t, event, rest⟩ := exec_rest (s := s) (i := .headObservation h false false) rfl
    rw [State.headObservation_passage configured decoded] at rest
    exact ⟨t, event, rest⟩

/-- Settles O15: the records after the error, and those of a decoder in FAULTED. -/
theorem sequenceErrorFaultsTheHeadUntilItRests :
    Obligations.SequenceErrorFaultsTheHeadUntilItRests := by
  refine ⟨fun s h a b a' b' configured pair first second => ?_, fun s h faulted => ⟨?_, ?_⟩⟩
  · have decoded := Phase.decode_both_differ pair first second
    obtain ⟨t, event, rest⟩ := exec_rest (s := s) (i := .headObservation h a b) rfl
    rw [State.headObservation_error configured decoded, State.sequenceError_eq] at rest
    exact ⟨t, event, by simpa using rest⟩
  · intro a b configured
    rw [← restAfter_eq, ← State.headObservation_faulted configured faulted]
    exact exec_rest rfl
  · intro due
    obtain ⟨t, event, rest⟩ := exec_rest (s := s) (i := .restTimerExpiry h) rfl
    refine ⟨t, event, ?_⟩
    have effect : s.restExpiry h = s.updHead h fun r => { r with
        phase := .idle
        rest := .stopped
        seqFault := r.seqFault && s.hasFault .headSequence (byteOf h.val) } := by
      simp only [State.restExpiry, faulted, due, and_self, if_true]
      congr 1
      funext r
      cases s.hasFault .headSequence (byteOf h.val) <;> simp
    rwa [effect] at rest

end Sys2Proof.Machine
end

section
/-! The notice of a section: what the taking of it does by the holder of the section and the state
of its owner (R29, R88, R89, R109, R154). -/

namespace Sys2Proof.Machine

open Sys2Proof

/-- A notice of a section stands (R29). -/
structure NoticeStands (s : State) (k : Fin 32) : Prop where
  run : s.sld.station = .run
  configured : (s.config.sections[k]).isSome = true
  chg : (s.acu.sections[k]).chg = true

/-- Both latches of a section cleared (R29). -/
def State.readNotice (s : State) (k : Fin 32) : State := s.updSection k SectionRec.noticed

section
variable {s : State} {k : Fin 32}

theorem NoticeStands.taken (h : NoticeStands s k) : s.sectionNotice k =
    (s.readNotice k).actOnNotice k (s.acu.sections[k]).occ := if_pos ⟨h.run, h.configured, h.chg⟩

/-- The command of a notice answers with what the notice does. -/
theorem sectionNotice_answers {v : State} (h : s.sectionNotice k = v) :
    ∃ t, exec (.sectionNotice k) s = .next t ∧ RestOfEvent s v t := by
  subst h
  exact exec_rest rfl

end

/-! ## Routes (R89, R109) -/

section
variable {u : State} {k : Fin 32} {occ : Bool} {r : Fin 64} {role : Role} {c : RouteCfg}

theorem State.actOnNotice_unheld (holder : (u.lku.sections[k]).holder = none) :
    u.actOnNotice k occ = u := by rw [State.actOnNotice, holder]

theorem State.actOnNotice_route (holder : (u.lku.sections[k]).holder = some ⟨.route r, role⟩) :
    u.actOnNotice k occ = u.routeNotice r role k occ := by rw [State.actOnNotice, holder]

/-- The route is IN_USE with its first path section seen occupied (R89). -/
def State.enterRoute (s : State) (r : Fin 64) : State :=
  s.updRoute r fun x => { x with
    state := .inUse
    hold := { x.hold with status := upd x.hold.status 0 fun _ => .seenOccupied } }

theorem isFirst_iff (cfg : ZoneConfig) (o : Owner) (k : Fin 32) :
    isFirst cfg o k = true ↔ (pathOf cfg o).head? = some k := beq_iff_eq

theorem State.routeNotice_idle (state : (u.lku.routes[r]).state = .idle) :
    u.routeNotice r role k occ = u := by rw [State.routeNotice, state]

/-- Before a train has entered, a notice concerns the entry (R89). -/
theorem State.routeNotice_waiting (state : (u.lku.routes[r]).state = .setting ∨
    (u.lku.routes[r]).state = .locked ∨ (u.lku.routes[r]).state = .approachHeld) :
    u.routeNotice r role k occ = u.entryNotice r k occ := by
  obtain state | state | state := state <;> rw [State.routeNotice, state]

theorem State.entryNotice_elsewhere
    (elsewhere : ¬(occ = true ∧ (pathOf u.config (.route r)).head? = some k)) :
    u.entryNotice r k occ = u := by
  have notFirst : (occ && isFirst u.config (.route r) k) = false := by
    rw [Bool.eq_false_iff, Ne, Bool.and_eq_true, isFirst_iff]
    exact elsewhere
  unfold State.entryNotice
  split
  · rfl
  · rw [notFirst]
    rfl

theorem State.entryNotice_first (configured : u.config.routes[r] = some c)
    (first : occ = true ∧ (pathOf u.config (.route r)).head? = some k) :
    u.entryNotice r k occ =
      if (u.lku.routes[r]).state = .setting then u.notePassed r c.entry
      else u.trainEntry r c.entry := by
  have isFirst : (occ && isFirst u.config (.route r) k) = true := by
    rw [Bool.and_eq_true, isFirst_iff]
    exact first
  simp only [State.entryNotice, configured, isFirst, if_true]

/-- The entry of a train, its pool timer or queue place given up first where it has one (R89). -/
theorem State.trainEntry_eq (u : State) (r : Fin 64) (g : Fin 16) : u.trainEntry r g =
    let waits := (u.lku.routes[r]).state = .approachHeld
    let entered := (if waits then u.giveUpTimer r else u).enterRoute r
    if (u.asu.signals[g]).presented = .danger then entered.notePassed r g else entered := by
  have presented : (if (u.lku.routes[r]).state = .approachHeld then u.giveUpTimer r else u).asu =
      u.asu := by
    split <;> simp
  simp only [State.trainEntry, State.enterRoute, State.updRoute_keeps, presented]

theorem State.routeNotice_overlapHeld (state : (u.lku.routes[r]).state = .overlapHeld)
    (configured : u.config.routes[r] = some c) : u.routeNotice r role k occ =
      if role = .overlap ∧ (c.overlapTime = 0 ∨ (u.lku.routes[r]).pool = .none) then
        u.tryOverlap (.route r)
      else u := by
  simp only [State.routeNotice, state, State.overlapNotice, overlapTime, configured,
    Option.map_some, Option.getD_some, ite_and]

/-- The overlap clear test with the latches of one section just cleared (R109). -/
theorem State.readNotice_overlapClear (s : State) (k : Fin 32) (o : Owner) :
    (s.readNotice k).overlapClear o = true ↔ ∀ j, j ∈ overlapOf s.config o →
      (s.acu.sections[j]).state = .clear ∧ (j = k ∨ (s.acu.sections[j]).occ = false) := by
  have free (j : Fin 32) : ((s.readNotice k).acu.sections[j]).isFree = true ↔
      (s.acu.sections[j]).state = .clear ∧ (j = k ∨ (s.acu.sections[j]).occ = false) := by
    simp only [State.readNotice, State.updSection_sections, upd_get, eq_comm (a := j)]
    split
    · next same => subst same; simp [SectionRec.isFree, SectionRec.noticed]
    · next other => simp [SectionRec.isFree, other]
  simp only [State.overlapClear, List.all_eq_true, free]
  rfl

end

/-! ## Hosted portions (R154) -/

section
variable {u : State} {k : Fin 32} {occ : Bool} {p : Fin 16} {role : Role}

theorem State.actOnNotice_portion
    (holder : (u.lku.sections[k]).holder = some ⟨.portion p, role⟩) :
    u.actOnNotice k occ = u.portionNotice p role k occ := by rw [State.actOnNotice, holder]

theorem State.portionNotice_idle (state : (u.hou.portions[p]).state = .idle) :
    u.portionNotice p role k occ = u := by rw [State.portionNotice, state]

theorem State.portionNotice_provable (state : (u.hou.portions[p]).state.provable) :
    u.portionNotice p role k occ =
      if occ = true ∧ (pathOf u.config (.portion p)).head? = some k then u.portionEntry p
      else u.provingTest p := by
  obtain state | state := state <;>
    simp only [State.portionNotice, state, Bool.and_eq_true, isFirst_iff]

theorem upd_congr {α : Type} {n : Nat} {v : Vector α n} {i : Fin n} {f g : α → α}
    (h : f v[i] = g v[i]) : upd v i f = upd v i g := by
  ext j hj
  simp only [upd_getNat]
  split
  · next same => subst same; exact h
  · rfl

theorem State.updPortion_congr {f g : PortionRec → PortionRec}
    (h : f u.hou.portions[p] = g u.hou.portions[p]) : u.updPortion p f = u.updPortion p g := by
  rw [State.updPortion, State.updPortion, upd_congr h]

/-- The proving test of a portion that may be tested gives PROVEN or SETTING (R154). -/
theorem State.provingTest_provable (state : (u.hou.portions[p]).state.provable) :
    u.provingTest p = u.updPortion p fun x => { x with
      state := if u.portionProves p then .proven else .setting } := by
  exact State.updPortion_congr (by rw [PortionState.proved_of_provable state])

theorem State.portionNotice_overlapHeld (state : (u.hou.portions[p]).state = .overlapHeld) :
    u.portionNotice p role k occ = if role = .overlap then u.tryOverlap (.portion p) else u := by
  rw [State.portionNotice, state]

end

/-- Settles O22, by the holder of the section and the state of its owner. -/
theorem sectionNoticeFollowsItsHolder : Obligations.SectionNoticeFollowsItsHolder := by
  intro s k run configured chg read answers first overlapFree
  have taken := (NoticeStands.mk run configured chg).taken
  have answer {v : State} (h : read.actOnNotice k (s.acu.sections[k]).occ = v) : answers v :=
    sectionNotice_answers (taken.trans h)
  have clear (o : Owner) : read.overlapClear o = true ↔ overlapFree o :=
    s.readNotice_overlapClear k o
  refine ⟨fun holder => answer (State.actOnNotice_unheld holder), ?_, ?_⟩
  · intro r role c holder routed state enter note passed tests
    have onRoute : read.actOnNotice k (s.acu.sections[k]).occ =
        read.routeNotice r role k (s.acu.sections[k]).occ := State.actOnNotice_route holder
    have entry (first : first (.route r)) (waits : state = .setting ∨ state = .locked ∨
        state = .approachHeld) : read.actOnNotice k (s.acu.sections[k]).occ =
          if state = .setting then read.notePassed r c.entry else read.trainEntry r c.entry :=
      onRoute.trans ((State.routeNotice_waiting (u := read) waits).trans
        (State.entryNotice_first (u := read) routed first))
    have train : read.trainEntry r c.entry =
        passed (enter (if state = .approachHeld then read.giveUpTimer r else read)) :=
      State.trainEntry_eq read r c.entry
    have beyond (held : state = .overlapHeld) : read.actOnNotice k (s.acu.sections[k]).occ =
        if tests then read.tryOverlap (.route r) else read :=
      onRoute.trans (State.routeNotice_overlapHeld (u := read) held routed)
    refine ⟨fun first locked => answer ?_, fun first held => answer ?_,
      fun first setting => answer ?_, fun elsewhere waits => answer ?_, fun idle => answer ?_,
      fun held tested free => answer ?_, fun held fails => answer ?_⟩
    · rw [entry first (.inr (.inl locked)), train, locked]
      rfl
    · rw [entry first (.inr (.inr held)), train, held]
      rfl
    · rw [entry first (.inl setting), if_pos setting]
      rfl
    · exact onRoute.trans ((State.routeNotice_waiting (u := read) waits).trans
        (State.entryNotice_elsewhere (u := read) elsewhere))
    · exact onRoute.trans (State.routeNotice_idle (u := read) idle)
    · rw [beyond held, if_pos tested, State.tryOverlap, if_pos ((clear _).2 free)]
      rfl
    · rw [beyond held]
      split
      · next tested =>
        rw [State.tryOverlap, if_neg fun free => fails ⟨tested, (clear _).1 free⟩]
      · rfl
  · intro p role holder state
    have onPortion : read.actOnNotice k (s.acu.sections[k]).occ =
        read.portionNotice p role k (s.acu.sections[k]).occ := State.actOnNotice_portion holder
    have proving (provable : state.provable) := onPortion.trans
      (State.portionNotice_provable (u := read) provable)
    have beyond (held : state = .overlapHeld) := onPortion.trans
      (State.portionNotice_overlapHeld (u := read) held)
    refine ⟨fun provable first => answer ?_, fun provable elsewhere => answer ?_,
      fun idle => answer ?_, fun held overlap free => answer ?_, fun held fails => answer ?_⟩
    · exact (proving provable).trans (if_pos first)
    · exact (proving provable).trans ((if_neg elsewhere).trans
        (State.provingTest_provable (u := read) provable))
    · exact onPortion.trans (State.portionNotice_idle (u := read) idle)
    · rw [beyond held, if_pos overlap, State.tryOverlap, if_pos ((clear _).2 free)]
      rfl
    · rw [beyond held]
      split
      · next overlap =>
        rw [State.tryOverlap, if_neg fun free => fails ⟨overlap, (clear _).1 free⟩]
      · rfl

end Sys2Proof.Machine
end

section
/-! Accepted telegrams, and the proving tests with which a STATUS and a silence end (R138, R154). -/

namespace Sys2Proof.Machine

open Sys2Proof

/-! ## Acceptance -/

section
variable {s : State} {kind : Byte} {f : Frame} {src : Source} {p : Payload}

/-- An accepted telegram is delivered to the records after its acceptance. -/
theorem State.collected_accepted (h : Accepts s kind f src p) :
    s.collected kind f = deliver f.seq src p (s.received src f) := by
  obtain ⟨screen, new⟩ := h
  have window : (s.goodTelegram f.line).window src = s.window src := by
    cases src <;> simp [State.window]
  unfold State.collected
  obtain ⟨e, -⟩ | ⟨_, _, _, e, other, -⟩ | ⟨_, _, e, old, -⟩ | ⟨_, _, e, -, accepted⟩ :=
    receive_cases kind f s
  · cases screen.symm.trans e
  · cases screen.symm.trans e
    exact absurd rfl other
  · cases screen.symm.trans e
    rw [window] at old
    exact absurd old new
  · cases screen.symm.trans e
    rw [accepted]

/-- The acceptance of a telegram concerns the lines, the windows and the fault set alone. -/
@[simp] theorem State.received_keeps (s : State) (src : Source) (f : Frame) :
    (s.received src f).pending = s.pending ∧ (s.received src f).ticks = s.ticks ∧
    (s.received src f).pins = s.pins ∧ (s.received src f).config = s.config ∧
    (s.received src f).fsu = s.fsu ∧ (s.received src f).acu = s.acu ∧
    (s.received src f).pcu = s.pcu ∧ (s.received src f).lku = s.lku ∧
    (s.received src f).asu = s.asu ∧ (s.received src f).rtp = s.rtp ∧
    (s.received src f).slu.classOne = s.slu.classOne ∧ (s.received src f).hou = s.hou ∧
    (s.received src f).cmu.queue = s.cmu.queue ∧ (s.received src f).sld = s.sld := by
  simp [State.received, State.acceptFrom]

end

/-! ## Proving tests -/

section
variable {b s t u : State}

/-- What a portion is proved by: the points, the sections, the views, and the red lamps of its own
held-flank set (R154). -/
theorem State.portionProves_of_reds (config : t.config = s.config) (acu : t.acu = s.acu)
    (pcu : t.pcu = s.pcu) (neighbours : t.hou.neighbours = s.hou.neighbours) (p : Fin 16)
    (hold : (t.hou.portions[p]).hold = (s.hou.portions[p]).hold)
    (reds : ∀ g ∈ flankSignals s.config (s.hou.portions[p]).hold.flank,
      t.redProved g = s.redProved g) : t.portionProves p = s.portionProves p := by
  have view : t.neighbourView = s.neighbourView := by
    funext n k
    simp [State.neighbourView, State.viewOf, config, neighbours]
  have free : t.provesFree = s.provesFree := by
    funext k
    simp [State.provesFree, State.proves, config, acu, view]
  have rest : t.pointsRestAt = s.pointsRestAt := by
    funext ps
    simp [State.pointsRestAt, pcu]
  have holds : t.holdOf (.portion p) = s.holdOf (.portion p) := hold
  have signals : (flankSignals s.config (s.holdOf (.portion p)).flank).all t.redProved =
      (flankSignals s.config (s.holdOf (.portion p)).flank).all s.redProved := by
    rw [Bool.eq_iff_iff, List.all_eq_true, List.all_eq_true]
    exact forall₂_congr fun g mem => by rw [reds g mem]
  simp only [State.portionProves, State.ownPoints]
  rw [holds, config, free, rest, signals]

/-- A red lamp that an event did not change is proved as it was. -/
theorem State.redProved_of_unchanged {g : Fin 16} (h : b.redChanged t g = false) :
    t.redProved g = b.redProved g := by
  simp only [State.redChanged, Bool.or_eq_false_iff, bne_eq_false_iff_eq] at h
  rw [State.redProved, State.redProved, h.1, h.2]

theorem PortionState.proved_eq_proven {x : PortionState} {ok : Bool} (h : x.provable) :
    x.proved ok = .proven ↔ ok = true := by
  rw [PortionState.proved_of_provable h]
  cases ok <;> simp

/-- A proving test leaves a portion between SETTING and PROVEN, or leaves its state. -/
theorem PortionState.proved_provable (x : PortionState) (ok : Bool) :
    (x.proved ok).provable ↔ x.provable := by
  cases x <;> cases ok <;> simp [PortionState.proved, PortionState.provable]

theorem PortionState.proved_other {x : PortionState} (h : ¬x.provable) (ok : Bool) :
    x.proved ok = x := by
  cases x <;> simp_all [PortionState.proved, PortionState.provable]

/-- A portion tested at the end of an own effect is PROVEN, or in SETTING, by the conditions of the
test as they stand at the end of the event (R154). -/
theorem Consequences.portions_proved {w : State} {ps : List (Fin 16)} (h : Consequences b u t)
    (tests : u = w.provingTests ps) (once : ps.Nodup) (contacts : w.fsu.contacts = b.fsu.contacts)
    (asu : w.asu = b.asu) {p : Fin 16} (tested : p ∈ ps)
    (provable : (t.hou.portions[p]).state.provable) :
    (t.hou.portions[p]).state = .proven ↔ t.portionProves p = true := by
  have before : u.hou.portions[p] = { w.hou.portions[p] with
      state := (w.hou.portions[p]).state.proved (w.portionProves p) } := by
    rw [tests, w.provingTests_portion ps once, if_pos tested]
  cases bears : b.redsOf t p with
  | true =>
    rw [h.portions, if_pos bears] at provable ⊢
    exact PortionState.proved_eq_proven ((PortionState.proved_provable _ _).1 provable)
  | false =>
    have after : t.hou.portions[p] = u.hou.portions[p] := by
      rw [h.portions, if_neg (by simp [bears])]
    have hold : (t.hou.portions[p]).hold = (w.hou.portions[p]).hold := by rw [after, before]
    have config : t.config = w.config := by rw [h.surroundings.2.2.2, tests]; simp
    have same : t.portionProves p = w.portionProves p := by
      refine State.portionProves_of_reds config ?_ ?_ ?_ p hold fun g mem => ?_
      · rw [h.counts, tests]; simp
      · rw [h.points, tests]; simp
      · rw [h.neighbours, tests]; simp
      · have unchanged : b.redChanged t g = false := by
          rw [← hold, ← config] at mem
          simpa using List.any_eq_false.1 bears g mem
        rw [State.redProved_of_unchanged unchanged, State.redProved, State.redProved,
          State.lit_congr contacts, State.lampRec, State.lampRec, asu]
    rw [after, before] at provable ⊢
    rw [same]
    exact PortionState.proved_eq_proven ((PortionState.proved_provable _ _).1 provable)

end

/-! ## STATUS (R32 to R37, R145, R147) -/

section
variable (s : State) (n : Fin 4) (cfg : NeighbourCfg) (c : StatusContent)

/-- The records after the report of a STATUS, before anything is settled (R145). -/
def State.counted (s : State) (n : Fin 4) (cfg : NeighbourCfg) (c : StatusContent) : State :=
  (s.updNeighbour n fun r =>
    { r with state := .alive, silence := .start cfg.silenceLimit, view := some c }).reportEvent n
      c.heads

/-- The records after the settling, before the proving tests. -/
def State.answered (s : State) (n : Fin 4) (cfg : NeighbourCfg) (c : StatusContent) : State :=
  let counted := s.counted n cfg c
  let resumed := if s.alive n then counted else (counted.reconcileOffers n c).reconcileHosted n c
  if resumed.sld.station = .run then resumed.answerStray n c else resumed

theorem State.hearStatus_eq : s.hearStatus n cfg c =
    (s.answered n cfg c).provingTests ((s.answered n cfg c).portionsBounded n) := rfl

theorem State.completionTests_faults (rs : List (Fin 64)) (x : Condition)
    (other : x.kind ≠ .settingFailed) :
    x ∈ (s.completionTests rs).cmu.faults ↔ x ∈ s.cmu.faults := by
  refine State.forEach_induct (fun t => x ∈ t.cmu.faults ↔ x ∈ s.cmu.faults) _
    (fun t r kept => ?_) s rs .rfl
  rw [← kept, State.completionTest]
  split
  · rw [State.clearFault_faults]
    simp
    rintro - rfl
    exact other rfl
  · rfl

@[simp] theorem State.counted_keeps :
    (s.counted n cfg c).config = s.config ∧ (s.counted n cfg c).lku = s.lku ∧
    (s.counted n cfg c).rtp = s.rtp ∧ (s.counted n cfg c).hou.offers = s.hou.offers ∧
    (s.counted n cfg c).sld = s.sld ∧ (s.counted n cfg c).hou.portions = s.hou.portions ∧
    (s.counted n cfg c).acu.heads = s.acu.heads ∧ (s.counted n cfg c).asu = s.asu ∧
    (s.counted n cfg c).fsu = s.fsu := by simp [State.counted]

theorem State.answered_keeps :
    (s.answered n cfg c).acu = (s.counted n cfg c).acu ∧
    (s.answered n cfg c).hou.neighbours = (s.counted n cfg c).hou.neighbours ∧
    (s.answered n cfg c).asu = s.asu ∧ (s.answered n cfg c).fsu = s.fsu := by
  simp only [State.answered]
  split <;> split <;> simp

/-- A STATUS of a neighbour that was ALIVE concerns no lock, no offer and no pool timer (R147). -/
theorem State.answered_alive (alive : s.alive n = true) :
    (s.answered n cfg c).lku = s.lku ∧ (s.answered n cfg c).hou.offers = s.hou.offers ∧
    (s.answered n cfg c).rtp = s.rtp := by
  simp only [State.answered, alive, if_true]
  split <;> simp

/-- What is settled after a report leaves its faults (R35). -/
theorem State.answered_faults (x : Condition) (other : x.kind ≠ .settingFailed) :
    x ∈ (s.answered n cfg c).cmu.faults ↔ x ∈ (s.counted n cfg c).cmu.faults := by
  have settled (t : State) : x ∈ (t.reconcileOffers n c).cmu.faults ↔ x ∈ t.cmu.faults := by
    simp only [State.reconcileOffers]
    rw [State.completionTests_faults _ _ x other]
    simp
  simp only [State.answered]
  split <;> split <;> simp [settled]

theorem State.counted_neighbours : (s.counted n cfg c).hou.neighbours =
    upd s.hou.neighbours n fun r =>
      { r with state := .alive, silence := .start cfg.silenceLimit, view := some c } := by
  simp [State.counted]

theorem State.counted_baselines (e : Fin 8) : (s.counted n cfg c).acu.baselines[e] =
    match reportFor s.config n c.heads e with
    | none => s.acu.baselines[e]
    | some h => ⟨true, h.forward, h.backward⟩ := by
  simp [State.counted, State.reportEvent] <;> rfl

theorem State.counted_sections (k : Fin 32) : (s.counted n cfg c).acu.sections[k] =
    (s.acu.sections[k]).reported
      (reportChange s.config s.acu.baselines (reportFor s.config n c.heads) k)
      (reportDisturbs s.config s.acu.baselines (reportFor s.config n c.heads) k) := by
  simp [State.counted, State.reportEvent]

theorem State.mem_setImplausible (es : List (Fin 8)) (x : Condition) :
    x ∈ (s.setImplausible es).cmu.faults ↔
      x ∈ s.cmu.faults ∨ ∃ e ∈ es, x = ⟨.remoteImplausible, byteOf e.val⟩ := by
  unfold State.setImplausible
  induction es generalizing s with
  | nil => simp
  | cons e es ih =>
    rw [State.forEach_cons, ih]
    simp
    tauto

theorem State.counted_implausible {e : Fin 8} {h : HeadEntry}
    (report : reportFor s.config n c.heads e = some h)
    (implausible : (s.acu.baselines[e]).implausible h = true) :
    ⟨.remoteImplausible, byteOf e.val⟩ ∈ (s.counted n cfg c).cmu.faults := by
  refine (State.mem_setImplausible _ _ _).2 (.inr ⟨e, ?_, rfl⟩)
  have reported : (reportFor s.config n c.heads e).any (s.acu.baselines[e]).implausible = true := by
    rw [report]
    exact implausible
  exact List.mem_filter.2 ⟨List.mem_finRange e, reported⟩

end

/-! ## The report of one entry alone (R33 to R36) -/

section
variable {cfg : ZoneConfig} {bs : Vector Baseline 8} {report : Fin 8 → Option HeadEntry}
  {k : Fin 32} {e : Fin 8} {h : HeadEntry} {plus : Bool}

theorem reportChange_alone (reported : report e = some h)
    (oriented : orientationOf cfg k (.remoteHead e) = some plus)
    (alone : ∀ e', e' ≠ e → orientationOf cfg k (.remoteHead e') = none) :
    reportChange cfg bs report k = if plus then (bs[e]).net h else -(bs[e]).net h := by
  rw [reportChange, ← Fin.sum_univ_def, Finset.sum_eq_single e]
  · rw [reported, oriented]
  · intro e' _ other
    rw [alone e' other]
    cases report e' <;> rfl
  · exact fun missing => absurd (Finset.mem_univ e) missing

theorem reportDisturbs_alone (reported : report e = some h) (unflagged : h.flag = 0)
    (oriented : orientationOf cfg k (.remoteHead e) = some plus)
    (alone : ∀ e', e' ≠ e → orientationOf cfg k (.remoteHead e') = none) :
    reportDisturbs cfg bs report k = (bs[e]).implausible h := by
  have own : (bounds cfg k (.remoteHead e) && (report e).any fun h =>
      (bs[e]).implausible h || h.flag != 0) = (bs[e]).implausible h := by
    rw [bounds, oriented, reported, Option.any_some, unflagged]
    exact Bool.or_false _
  rw [Bool.eq_iff_iff, reportDisturbs, List.any_eq_true]
  constructor
  · rintro ⟨e', -, disturbs⟩
    by_cases same : e' = e
    · subst same
      rwa [own] at disturbs
    · rw [bounds, alone e' same] at disturbs
      nomatch disturbs
  · intro implausible
    exact ⟨e, List.mem_finRange e, own.trans implausible⟩

/-- The signed change of a plausible report, by the orientation of its entry (R34, R36). -/
theorem Baseline.net_plausible {b : Baseline} (valid : b.valid = true)
    (plausible : delta h.forward b.forward + delta h.backward b.backward ≤ 250) :
    b.implausible h = false ∧
      b.net h = (delta h.forward b.forward : Int) - delta h.backward b.backward := by
  have not : b.implausible h = false := by simp [Baseline.implausible]; omega
  exact ⟨not, by simp [Baseline.net, valid, not]⟩

/-- An implausible report applies nothing (R35). -/
theorem Baseline.net_implausible {b : Baseline} (valid : b.valid = true)
    (beyond : 250 < delta h.forward b.forward + delta h.backward b.backward) :
    b.implausible h = true ∧ b.net h = 0 := by
  have implausible : b.implausible h = true := by simp [Baseline.implausible, valid, beyond]
  exact ⟨implausible, by simp [Baseline.net, implausible]⟩

theorem SectionRec.reported_undisturbed (d : Int) (r : SectionRec) :
    r.reported d false = r.change d := rfl

theorem SectionRec.reported_implausible (r : SectionRec) :
    r.reported 0 true = r.latched { r with state := .disturbed } := by
  simp [SectionRec.reported, SectionRec.shifted]

/-- A section after the report of one entry alone (R35, R36). -/
theorem SectionRec.reported_alone (r : SectionRec) (reported : report e = some h)
    (valid : (bs[e]).valid = true) (unflagged : h.flag = 0)
    (oriented : orientationOf cfg k (.remoteHead e) = some plus)
    (alone : ∀ e', e' ≠ e → orientationOf cfg k (.remoteHead e') = none) :
    let dF := delta h.forward (bs[e]).forward
    let dB := delta h.backward (bs[e]).backward
    let new := r.reported (reportChange cfg bs report k) (reportDisturbs cfg bs report k)
    (dF + dB ≤ 250 → new = r.change (if plus then (dF : Int) - dB else (dB : Int) - dF)) ∧
      (250 < dF + dB → new = r.latched { r with state := .disturbed }) := by
  intro dF dB new
  have change := reportChange_alone (bs := bs) reported oriented alone
  have disturbs := reportDisturbs_alone (bs := bs) reported unflagged oriented alone
  refine ⟨fun plausible => ?_, fun beyond => ?_⟩
  · obtain ⟨not, net⟩ := Baseline.net_plausible valid plausible
    simp only [new, change, disturbs, not, net, SectionRec.reported_undisturbed]
    cases plus
    · simp only [Bool.false_eq_true, if_false, neg_sub, dF, dB]
    · rfl
  · obtain ⟨implausible, net⟩ := Baseline.net_implausible valid beyond
    simp only [new, change, disturbs, implausible, net, neg_zero, ite_self,
      SectionRec.reported_implausible]

end

/-- The bounded portions, as the statement of R154 names them. -/
theorem State.mem_portionsBounded (s : State) (n : Fin 4) (p : Fin 16) :
    p ∈ s.portionsBounded n ↔ s.portionBounded n p := by
  simp only [State.portionsBounded, State.portionBounded, List.mem_filter, List.mem_finRange,
    true_and, List.any_eq_true, List.mem_append]
  refine exists_congr fun k => ?_
  split <;> simp_all [and_comm]

theorem State.portionsBounded_nodup (s : State) (n : Fin 4) : (s.portionsBounded n).Nodup :=
  (List.nodup_finRange 16).filter _

theorem State.portionBounded_congr {s t : State} (config : t.config = s.config) {p : Fin 16}
    (hold : (t.hou.portions[p]).hold = (s.hou.portions[p]).hold) (n : Fin 4) :
    t.portionBounded n p ↔ s.portionBounded n p := by
  have holds : t.holdOf (.portion p) = s.holdOf (.portion p) := hold
  rw [State.portionBounded, State.portionBounded, holds, config]

/-- The rest of an event leaves the held-flank set of a portion. -/
theorem Consequences.portion_hold {b u t : State} (h : Consequences b u t) (p : Fin 16) :
    (t.hou.portions[p]).hold = (u.hou.portions[p]).hold := by
  rw [h.portions]
  split <;> rfl

theorem State.provingTests_hold (s : State) (ps : List (Fin 16)) (once : ps.Nodup) (p : Fin 16) :
    ((s.provingTests ps).hou.portions[p]).hold = (s.hou.portions[p]).hold := by
  rw [s.provingTests_portion ps once]
  split <;> rfl

/-- The event that ends with the proving tests of the portions that a neighbour bears on (R154). -/
theorem Consequences.bounded_proved {b w t : State} {n : Fin 4}
    (h : Consequences b (w.provingTests (w.portionsBounded n)) t)
    (contacts : w.fsu.contacts = b.fsu.contacts) (asu : w.asu = b.asu) (p : Fin 16)
    (bounded : t.portionBounded n p) (provable : (t.hou.portions[p]).state.provable) :
    (t.hou.portions[p]).state = .proven ↔ t.portionProves p = true := by
  have once := w.portionsBounded_nodup n
  refine h.portions_proved rfl once contacts asu ?_ provable
  rw [State.mem_portionsBounded, ← State.portionBounded_congr (t := t)]
  · exact bounded
  · rw [h.surroundings.2.2.2]; simp
  · rw [h.portion_hold, State.provingTests_hold _ _ once]

/-- Settles O39 from the records of each stage of the event. -/
theorem statusIsHeard : Obligations.StatusIsHeard := by
  intro s f n cfg c accepts configured running report
  set u := s.received (.neighbour n) f with hu
  obtain ⟨-, -, -, config, fsu, acu, pcu, lku, asu, rtp, -, hou, queue, sld⟩ :=
    s.received_keeps (.neighbour n) f
  rw [← hu] at config fsu acu pcu lku asu rtp hou queue sld
  have effect : s.collected kindStatus f = u.hearStatus n cfg c := by
    rw [State.collected_accepted accepts]
    show u.takeStatus n c = _
    rw [State.takeStatus, config, configured]
    exact if_neg running
  obtain ⟨t, event, rest⟩ := exec_rest (s := s) (i := .status f) rfl
  rw [effect] at rest
  have tested : Consequences s ((u.answered n cfg c).provingTests
      ((u.answered n cfg c).portionsBounded n)) t := rest.toConsequences
  obtain ⟨counts, views, lamps, field⟩ := u.answered_keeps n cfg c
  have heard : t.acu = (u.counted n cfg c).acu := by rw [tested.counts]; simp [counts]
  have neighbours : t.hou.neighbours = upd s.hou.neighbours n fun r =>
      { r with state := .alive, silence := .start cfg.silenceLimit, view := some c } := by
    rw [tested.neighbours, ← hou, ← State.counted_neighbours, ← views]
    simp
  have baselines (e : Fin 8) := (congrArg (·.baselines[e]) heard).trans
    (u.counted_baselines n cfg c e)
  have sections (k : Fin 32) := (congrArg (·.sections[k]) heard).trans
    (u.counted_sections n cfg c k)
  rw [config, acu] at baselines sections
  refine ⟨t, event, ?_, fun m other => ?_, baselines, sections, ?_, ?_, ?_, ?_, ?_, ?_, ?_, ?_⟩
  · rw [neighbours, upd_same]
  · rw [neighbours, upd_other _ _ _ _ (Ne.symm other)]
  · rintro e ⟨h, reported, implausible⟩
    have set : ⟨.remoteImplausible, byteOf e.val⟩ ∈ (u.counted n cfg c).cmu.faults :=
      u.counted_implausible n cfg c (by rwa [config]) (by rwa [acu])
    refine (tested.faults _).2 ⟨?_, ?_⟩
    · have other : FaultKind.remoteImplausible ≠ .settingFailed := nofun
      have kept := (u.answered_faults n cfg c ⟨_, byteOf e.val⟩ other).2 set
      simpa using kept
    · rintro ⟨g, l, -, same⟩
      have kinds : FaultKind.remoteImplausible = .lampFailed := congrArg Condition.kind same
      nomatch kinds
  · rw [heard]; simp [acu]
  · rw [rest.points]; simp [pcu]
  · rw [rest.loader]; simp [sld]
  · rw [rest.commands.1]; simp [queue]
  · intro alive
    have again : u.alive n = true := by simpa [State.alive, hou] using alive
    obtain ⟨locks, offers, pool⟩ := u.answered_alive n cfg c again
    rw [tested.locks, tested.offers.1, tested.pool]
    simp [locks, offers, pool, lku, hou, rtp]
  · exact tested.bounded_proved (by rw [field, fsu]) (by rw [lamps, asu])
  · intro k e h plus reported valid unflagged oriented alone
    rw [sections]
    exact (s.acu.sections[k]).reported_alone reported valid unflagged oriented alone

end Sys2Proof.Machine
end

section
/-! The removal of offer records with their releases, and the full release of the routes that fail
with them (R86, R87, R126, R150, R151, R156): one relation between the records before and after, for
each removal, for each full release, and for any sequence of them. -/

namespace Sys2Proof.Machine

open Sys2Proof

/-! ## Routes and locks before and after -/

/-- Two route records alike but for offer references and the pool reference. -/
structure RouteAlike (a b : RouteRec) : Prop where
  state : b.state = a.state
  setting : b.setting = a.setting
  status : b.hold.status = a.hold.status
  overlap : b.hold.overlap = a.hold.overlap
  entries : b.hold.entries = a.hold.entries
  note : b.note = a.note

theorem RouteAlike.refl (a : RouteRec) : RouteAlike a a := ⟨rfl, rfl, rfl, rfl, rfl, rfl⟩

theorem RouteAlike.trans {a b c : RouteRec} (h : RouteAlike a b) (k : RouteAlike b c) :
    RouteAlike a c :=
  ⟨k.state.trans h.state, k.setting.trans h.setting, k.status.trans h.status,
    k.overlap.trans h.overlap, k.entries.trans h.entries, k.note.trans h.note⟩

theorem RouteRec.dropOffer_alike (c : RouteRec) (k : Fin 8) : RouteAlike c (c.dropOffer k) := by
  have entry (i : FlankItem) : (i.dropOffer k).entry = i.entry := by
    unfold FlankItem.dropOffer
    split <;> rfl
  refine ⟨rfl, rfl, rfl, rfl, ?_, rfl⟩
  simp [RouteRec.dropOffer, Hold.entries, entry]

/-- A route record at the values that a full release leaves (R73, R86). -/
structure RouteEmptied (overlap : OverlapState) (c : RouteRec) : Prop where
  state : c.state = .idle
  setting : c.setting = .stopped
  offers : c.offers = []
  hold : c.hold = Hold.idle overlap

theorem RouteEmptied.alike {overlap : OverlapState} {a b : RouteRec} (h : RouteEmptied overlap a)
    (alike : RouteAlike a b) (offers : ∀ k, k ∈ b.offers → k ∈ a.offers) :
    RouteEmptied overlap b := by
  have flank : b.hold.flank = [] := by
    have entries := alike.entries
    rw [h.hold] at entries
    simpa [Hold.entries, Hold.idle] using entries
  refine ⟨alike.state.trans h.state, alike.setting.trans h.setting, ?_, ?_⟩
  · refine List.eq_nil_iff_forall_not_mem.2 fun k mem => ?_
    have before := offers k mem
    rw [h.offers] at before
    nomatch before
  · have status := alike.status
    have overlap := alike.overlap
    rw [h.hold] at status overlap
    cases hold : b.hold
    simp_all [Hold.idle]

theorem Freed.refl (a : Option Holder) : Freed (fun _ => False) a a :=
  .inr ⟨rfl, fun _ _ _ => id⟩

theorem Freed.trans {f g : Fin 64 → Prop} {a b c : Option Holder} (h : Freed f a b)
    (k : Freed g b c) : Freed (fun r => g r ∨ f r) a c := by
  obtain ⟨rfl, r, role, held, fails⟩ | ⟨rfl, stays⟩ := h
  · obtain ⟨rfl, r', role', gone, -⟩ | ⟨rfl, -⟩ := k
    · nomatch gone
    · exact .inl ⟨rfl, r, role, held, .inr fails⟩
  · obtain ⟨rfl, r, role, held, fails⟩ | ⟨rfl, others⟩ := k
    · exact .inl ⟨rfl, r, role, held, .inl fails⟩
    · exact .inr ⟨rfl, fun r role held fails =>
        fails.elim (others r role held) (stays r role held)⟩

theorem Freed.congr {f g : Fin 64 → Prop} {a b : Option Holder} (h : Freed f a b)
    (same : ∀ r, f r ↔ g r) : Freed g a b := by
  obtain rfl : f = g := funext fun r => propext (same r)
  exact h

theorem dropHolder_freed (r : Fin 64) (a : Option Holder) :
    Freed (· = r) a (dropHolder (.route r) anyRole a) := by
  unfold dropHolder
  split
  · next held =>
    obtain ⟨⟨owner, role⟩, rfl, owned⟩ := (Option.any_eq_true _ _).1 held
    obtain rfl : owner = .route r := by simpa [anyRole] using owned
    exact .inl ⟨rfl, r, role, rfl, rfl⟩
  · next other =>
    refine .inr ⟨rfl, ?_⟩
    rintro x role rfl rfl
    simp [heldBy, anyRole] at other

/-- The holders of every element before and after, and its block flag. -/
structure LocksFreed (fails : Fin 64 → Prop) (s t : State) : Prop where
  sections : ∀ k : Fin 32,
    Freed fails (s.lku.sections[k]).holder (t.lku.sections[k]).holder ∧
    (t.lku.sections[k]).blocked = (s.lku.sections[k]).blocked
  points : ∀ p : Fin 16,
    Freed fails (s.lku.points[p]).holder (t.lku.points[p]).holder ∧
    (t.lku.points[p]).blocked = (s.lku.points[p]).blocked
  signals : ∀ g : Fin 16,
    Freed fails (s.lku.signals[g]).holder (t.lku.signals[g]).holder ∧
    (t.lku.signals[g]).blocked = (s.lku.signals[g]).blocked

theorem LocksFreed.of_same {s t : State} (sections : t.lku.sections = s.lku.sections)
    (points : t.lku.points = s.lku.points) (signals : t.lku.signals = s.lku.signals) :
    LocksFreed (fun _ => False) s t := by
  refine ⟨fun k => ?_, fun p => ?_, fun g => ?_⟩
  · rw [sections]; exact ⟨.refl _, rfl⟩
  · rw [points]; exact ⟨.refl _, rfl⟩
  · rw [signals]; exact ⟨.refl _, rfl⟩

theorem LocksFreed.trans {f g : Fin 64 → Prop} {s t u : State} (h : LocksFreed f s t)
    (k : LocksFreed g t u) : LocksFreed (fun r => g r ∨ f r) s u :=
  ⟨fun i => ⟨(h.sections i).1.trans (k.sections i).1, (k.sections i).2.trans (h.sections i).2⟩,
    fun i => ⟨(h.points i).1.trans (k.points i).1, (k.points i).2.trans (h.points i).2⟩,
    fun i => ⟨(h.signals i).1.trans (k.signals i).1, (k.signals i).2.trans (h.signals i).2⟩⟩

theorem LocksFreed.congr {f g : Fin 64 → Prop} {s t : State} (h : LocksFreed f s t)
    (same : ∀ r, f r ↔ g r) : LocksFreed g s t :=
  ⟨fun i => ⟨(h.sections i).1.congr same, (h.sections i).2⟩,
    fun i => ⟨(h.points i).1.congr same, (h.points i).2⟩,
    fun i => ⟨(h.signals i).1.congr same, (h.signals i).2⟩⟩

/-! ## The flank counts (R71, R126) -/

/-- How many of some routes name an element in their held-flank sets. -/
def State.namedBy (s : State) (rs : List (Fin 64)) (x : FlankElement) : Nat :=
  (rs.filter fun r => NamesElement s.config (s.lku.routes[r]).hold.entries x).length

/-- The claims and holds of the held-flank sets of some routes are given back. -/
structure FlankReturned (rs : List (Fin 64)) (s t : State) : Prop where
  claims : ∀ (p : Fin 16) (q : Position),
    (t.lku.points[p]).claims q = (s.lku.points[p]).claims q - s.namedBy rs (.point p q)
  holds : ∀ g : Fin 16,
    (t.lku.signals[g]).holds = (s.lku.signals[g]).holds - s.namedBy rs (.signal g)

theorem State.namedBy_append (s : State) (rs rs' : List (Fin 64)) (x : FlankElement) :
    s.namedBy (rs ++ rs') x = s.namedBy rs x + s.namedBy rs' x := by
  simp [State.namedBy]

theorem State.namedBy_congr {s t : State} {rs : List (Fin 64)} (config : t.config = s.config)
    (entries : ∀ r ∈ rs, (t.lku.routes[r]).hold.entries = (s.lku.routes[r]).hold.entries)
    (x : FlankElement) : t.namedBy rs x = s.namedBy rs x := by
  unfold State.namedBy
  rw [List.filter_congr fun r mem => by rw [config, entries r mem]]

theorem FlankReturned.of_same {s t : State} (points : t.lku.points = s.lku.points)
    (signals : t.lku.signals = s.lku.signals) : FlankReturned [] s t :=
  ⟨fun p q => by rw [points]; rfl, fun g => by rw [signals]; rfl⟩

theorem FlankReturned.trans {rs rs' : List (Fin 64)} {s t u : State} (h : FlankReturned rs s t)
    (k : FlankReturned rs' t u) (same : ∀ x, t.namedBy rs' x = s.namedBy rs' x) :
    FlankReturned (rs' ++ rs) s u := by
  refine ⟨fun p q => ?_, fun g => ?_⟩
  · rw [k.claims, h.claims, same, State.namedBy_append]
    omega
  · rw [k.holds, h.holds, same, State.namedBy_append]
    omega

/-! ## Releases (R134, R151) -/

/-- At the tail of the class-1 queue stand releases of records that are gone, and, where the queue
has room, one of each of them. -/
structure Releases (s t : State) (new : List TxItem) : Prop where
  queue : t.slu.classOne = s.slu.classOne ++ new
  only : ∀ i ∈ new, ∃ (k : Fin 8) (o : Offer), s.hou.offers[k] = some o ∧ t.hou.offers[k] = none ∧
    i.telegram.payload = o.release
  all : ∀ (k : Fin 8) (o : Offer) (c : NeighbourCfg), s.hou.offers[k] = some o →
    t.hou.offers[k] = none → s.config.neighbours[o.neighbour] = some c →
    t.slu.classOne.length < 16 →
    ∃ i ∈ new, i.telegram.payload = o.release ∧ i.telegram.dest = c.address

theorem Releases.none {s t : State} (queue : t.slu.classOne = s.slu.classOne)
    (offers : t.hou.offers = s.hou.offers) : Releases s t [] := by
  refine ⟨by simp [queue], nofun, fun k o c stands gone => ?_⟩
  rw [offers, stands] at gone
  nomatch gone

/-- Records stay or go. -/
def OffersLeave (s t : State) : Prop :=
  ∀ k : Fin 8, t.hou.offers[k] = s.hou.offers[k] ∨ t.hou.offers[k] = none

theorem Releases.trans {s t u : State} {new new' : List TxItem} (h : Releases s t new)
    (k : Releases t u new') (leave : OffersLeave s t) (leave' : OffersLeave t u)
    (config : t.config = s.config) : Releases s u (new ++ new') := by
  refine ⟨by rw [k.queue, h.queue, List.append_assoc], fun i mem => ?_,
    fun x o c stands gone c' room => ?_⟩
  · obtain mem | mem := List.mem_append.1 mem
    · obtain ⟨x, o, stands, gone, payload⟩ := h.only i mem
      refine ⟨x, o, stands, ?_, payload⟩
      exact (leave' x).elim (fun same => same.trans gone) id
    · obtain ⟨x, o, stands, gone, payload⟩ := k.only i mem
      refine ⟨x, o, ?_, gone, payload⟩
      obtain same | none := leave x
      · exact same.symm.trans stands
      · nomatch none.symm.trans stands
  · have shorter : t.slu.classOne.length ≤ u.slu.classOne.length := by
      rw [k.queue, List.length_append]; omega
    obtain same | none := leave x
    · obtain ⟨i, mem, placed⟩ := k.all x o c (same.trans stands) gone (by rwa [config]) room
      exact ⟨i, List.mem_append_right _ mem, placed⟩
    · obtain ⟨i, mem, placed⟩ := h.all x o c stands none c' (by omega)
      exact ⟨i, List.mem_append_left _ mem, placed⟩

/-! ## Records gone, routes failed -/

/-- Between `s` and `t` the records of `ks` have gone, each with its release, and the routes of `rs`
have been fully released; all else of the offers and the locks is as it was (R71, R86, R126,
R151). -/
structure Dropped (ks : List (Fin 8)) (rs : List (Fin 64)) (s t : State) : Prop where
  config : t.config = s.config
  lastId : t.hou.lastId = s.hou.lastId
  portions : t.hou.portions = s.hou.portions
  gone : ∀ k ∈ ks, t.hou.offers[k] = none
  left : ∀ k, k ∉ ks → t.hou.offers[k] = s.hou.offers[k]
  refs : ∀ (r : Fin 64) (k : Fin 8),
    k ∈ (t.lku.routes[r]).offers ↔ k ∈ (s.lku.routes[r]).offers ∧ k ∉ ks
  failed : ∀ r ∈ rs, RouteEmptied (idleOverlap s.config (.route r)) t.lku.routes[r]
  stays : ∀ r, r ∉ rs → RouteAlike s.lku.routes[r] t.lku.routes[r]
  releases : ∃ new, Releases s t new
  locks : LocksFreed (· ∈ rs) s t
  flank : FlankReturned rs s t
  pool : (∀ r ∈ rs, (s.lku.routes[r]).pool = .none) →
    t.rtp = s.rtp ∧ ∀ r : Fin 64, (t.lku.routes[r]).pool = (s.lku.routes[r]).pool

namespace Dropped

variable {ks ks' : List (Fin 8)} {rs rs' : List (Fin 64)} {s t u : State}

theorem leave (h : Dropped ks rs s t) : OffersLeave s t := fun k => by
  by_cases mem : k ∈ ks
  · exact .inr (h.gone k mem)
  · exact .inl (h.left k mem)

/-- Offer references go on naming records that their route owns. -/
theorem owned (h : Dropped ks rs s t) (own : s.OffersOwned) : t.OffersOwned := fun r k mem => by
  obtain ⟨before, other⟩ := (h.refs r k).1 mem
  rw [h.left k other]
  exact own r k before

theorem trans (h : Dropped ks rs s t) (k : Dropped ks' rs' t u) (apart : ∀ r ∈ rs', r ∉ rs) :
    Dropped (ks' ++ ks) (rs' ++ rs) s u where
  config := k.config.trans h.config
  lastId := k.lastId.trans h.lastId
  portions := k.portions.trans h.portions
  gone x mem := by
    obtain mem | mem := List.mem_append.1 mem
    · exact k.gone x mem
    · exact (k.leave x).elim (fun same => same.trans (h.gone x mem)) id
  left x other := by
    rw [List.mem_append, not_or] at other
    exact (k.left x other.1).trans (h.left x other.2)
  refs r x := by
    rw [k.refs, h.refs, List.mem_append]
    tauto
  failed r mem := by
    by_cases late : r ∈ rs'
    · rw [← h.config]
      exact k.failed r late
    · have early := (List.mem_append.1 mem).resolve_left late
      exact (h.failed r early).alike (k.stays r late) fun x => fun mem => ((k.refs r x).1 mem).1
  stays r other := by
    rw [List.mem_append, not_or] at other
    exact (h.stays r other.2).trans (k.stays r other.1)
  releases := by
    obtain ⟨new, first⟩ := h.releases
    obtain ⟨new', second⟩ := k.releases
    exact ⟨_, first.trans second h.leave k.leave h.config⟩
  locks := (h.locks.trans k.locks).congr fun r => List.mem_append.symm
  flank := h.flank.trans k.flank (State.namedBy_congr h.config fun r mem =>
    (h.stays r (apart r mem)).entries)
  pool none := by
    obtain ⟨pool, refs⟩ := h.pool fun r mem => none r (List.mem_append_right _ mem)
    obtain ⟨pool', refs'⟩ := k.pool fun r mem => by
      rw [refs]
      exact none r (List.mem_append_left _ mem)
    exact ⟨pool'.trans pool, fun r => (refs' r).trans (refs r)⟩

/-- Nothing gone, nothing failed. -/
theorem of_same (config : t.config = s.config) (lku : t.lku = s.lku)
    (offers : t.hou.offers = s.hou.offers) (lastId : t.hou.lastId = s.hou.lastId)
    (portions : t.hou.portions = s.hou.portions) (queue : t.slu.classOne = s.slu.classOne)
    (pool : t.rtp = s.rtp) : Dropped [] [] s t where
  config := config
  lastId := lastId
  portions := portions
  gone := nofun
  left _ _ := by rw [offers]
  refs r k := by simp [lku]
  failed := nofun
  stays r _ := by rw [lku]; exact .refl _
  releases := ⟨[], .none queue offers⟩
  locks := (LocksFreed.of_same (by rw [lku]) (by rw [lku]) (by rw [lku])).congr fun r => by simp
  flank := .of_same (by rw [lku]) (by rw [lku])
  pool _ := ⟨pool, fun _ => by rw [lku]⟩

theorem refl (s : State) : Dropped [] [] s s := .of_same rfl rfl rfl rfl rfl rfl rfl

end Dropped

/-! ## One record handed back (R150, R151) -/

section
variable (s : State)

/-- A release to a neighbour stands at the tail of the queue where there is room (R134). -/
theorem State.toNeighbour_releases {u : State} {k : Fin 8} {o : Offer}
    (stands : s.hou.offers[k] = some o) (gone : u.hou.offers[k] = none)
    (others : ∀ j, j ≠ k → u.hou.offers[j] = s.hou.offers[j])
    (config : u.config = s.config) (queue : u.slu = s.slu) :
    ∃ new, Releases s (u.toNeighbour o.neighbour o.release) new := by
  have offers : (u.toNeighbour o.neighbour o.release).hou.offers = u.hou.offers := by simp
  have only (j : Fin 8) (q : Offer) (before : s.hou.offers[j] = some q)
      (after : u.hou.offers[j] = none) : q = o := by
    by_cases same : j = k
    · subst same
      exact Option.some.inj (before.symm.trans stands)
    · rw [others j same, before] at after
      nomatch after
  obtain ⟨new, placed, content, -⟩ := u.toNeighbour_queued o.neighbour o.release
  rw [queue] at placed content
  refine ⟨new, placed, fun i mem => ⟨k, o, stands, by rw [offers, gone], ?_⟩, ?_⟩
  · have listed := List.mem_map_of_mem (f := fun i => (i.telegram.payload, i.telegram.dest)) mem
    rw [content] at listed
    obtain ⟨c, -, same⟩ := List.mem_map.1 (List.mem_of_mem_take listed)
    exact (congrArg Prod.fst same).symm
  · intro j q c before after configured room
    rw [offers] at after
    obtain rfl := only j q before after
    have free : s.slu.classOne.length < 16 := by
      rw [placed, List.length_append] at room
      omega
    have listed : (q.release, c.address) ∈
        new.map fun i => (i.telegram.payload, i.telegram.dest) := by
      rw [content, addressed, config, configured, Option.toList_some, List.map_singleton,
        List.take_of_length_le (by simp; omega)]
      exact List.mem_singleton_self _
    obtain ⟨i, mem, same⟩ := List.mem_map.1 listed
    exact ⟨i, mem, congrArg Prod.fst same, congrArg Prod.snd same⟩

theorem State.removeOffer_some {k : Fin 8} {o : Offer} (stands : s.hou.offers[k] = some o) :
    s.removeOffer k = (s.updOffer k fun _ => none).updRoute o.route (RouteRec.dropOffer k) := by
  rw [State.removeOffer, stands]

theorem State.handBack_some {k : Fin 8} {o : Offer} (stands : s.hou.offers[k] = some o) :
    s.handBack k = (s.removeOffer k).toNeighbour o.neighbour o.release := by
  rw [State.handBack, stands]

/-- The removal of a record takes its number out of the references of its route. -/
theorem State.removeOffer_route {k : Fin 8} {o : Offer} (stands : s.hou.offers[k] = some o)
    (r : Fin 64) : (s.removeOffer k).lku.routes[r] =
      if o.route = r then (s.lku.routes[r]).dropOffer k else s.lku.routes[r] := by
  rw [s.removeOffer_some stands, State.updRoute_routes, upd_get]
  rfl

theorem State.handBack_dropped (own : s.OffersOwned) (k : Fin 8) :
    Dropped [k] [] s (s.handBack k) := by
  cases stands : s.hou.offers[k] with
  | none =>
    have same : s.handBack k = s := by rw [State.handBack, stands]
    rw [same]
    have unnamed (r : Fin 64) : k ∉ (s.lku.routes[r]).offers := fun mem => by
      obtain ⟨o, named, -⟩ := own r k mem
      nomatch stands.symm.trans named
    exact { Dropped.refl s with
      gone := fun x mem => by rw [List.mem_singleton.1 mem]; exact stands
      left := fun _ _ => rfl
      refs := fun r x => by
        rw [List.mem_singleton, iff_self_and]
        rintro mem rfl
        exact unnamed r mem }
  | some o =>
    rw [s.handBack_some stands]
    set u := s.removeOffer k with hu
    have route := s.removeOffer_route stands
    have offers (j : Fin 8) : u.hou.offers[j] = if k = j then none else s.hou.offers[j] := by
      rw [hu, s.removeOffer_some stands]
      exact upd_get _ k j _
    have gone : u.hou.offers[k] = none := by rw [offers, if_pos rfl]
    have others (j : Fin 8) (other : j ≠ k) : u.hou.offers[j] = s.hou.offers[j] := by
      rw [offers, if_neg other.symm]
    have refs (r : Fin 64) (x : Fin 8) : x ∈ (u.lku.routes[r]).offers ↔
        x ∈ (s.lku.routes[r]).offers ∧ x ∉ [k] := by
      rw [route, List.mem_singleton]
      split
      · simp [RouteRec.dropOffer]
      · next other =>
        rw [iff_self_and]
        rintro mem rfl
        obtain ⟨q, named, owner⟩ := own r x mem
        cases stands.symm.trans named
        exact other owner
    have stays (r : Fin 64) : RouteAlike s.lku.routes[r] u.lku.routes[r] := by
      rw [route]
      split
      · exact RouteRec.dropOffer_alike _ k
      · exact .refl _
    have after : (u.toNeighbour o.neighbour o.release).lku = u.lku ∧
        (u.toNeighbour o.neighbour o.release).hou = u.hou ∧
        (u.toNeighbour o.neighbour o.release).rtp = u.rtp ∧
        (u.toNeighbour o.neighbour o.release).config = u.config := by simp
    obtain ⟨lku, hou, rtp, config⟩ := after
    exact
      { config := by rw [config]; simp [hu]
        lastId := by rw [hou]; simp [hu]
        portions := by rw [hou]; simp [hu]
        gone := fun x mem => by rw [hou, List.mem_singleton.1 mem, gone]
        left := fun x other => by rw [hou, others x (by simpa using other)]
        refs := fun r x => by rw [lku]; exact refs r x
        failed := nofun
        stays := fun r _ => by rw [lku]; exact stays r
        releases := s.toNeighbour_releases stands gone others (by simp [hu]) (by simp [hu])
        locks := (LocksFreed.of_same (by simp [hu]) (by simp [hu]) (by simp [hu])).congr
          fun r => by simp
        flank := .of_same (by simp [hu]) (by simp [hu])
        pool := fun _ => ⟨by rw [rtp]; simp [hu], fun r => by rw [lku, s.removeOffer_pool]⟩ }

theorem State.handBacks_dropped (own : s.OffersOwned) (ks : List (Fin 8)) :
    ∃ ks', (∀ k, k ∈ ks' ↔ k ∈ ks) ∧ Dropped ks' [] s (s.forEach ks State.handBack) := by
  induction ks generalizing s with
  | nil => exact ⟨[], fun _ => .rfl, by simpa using Dropped.refl s⟩
  | cons k ks ih =>
    have first := s.handBack_dropped own k
    obtain ⟨ks', same, rest⟩ := ih (s.handBack k) (first.owned own)
    refine ⟨ks' ++ [k], fun x => ?_, ?_⟩
    · rw [List.mem_append, same, List.mem_singleton, List.mem_cons, or_comm]
    · rw [State.forEach_cons]
      exact first.trans rest nofun

/-! ## The full release of a route (R86) -/

/-- Counting claims and holds changes no holder. -/
theorem State.releaseFlank_holders (items : List FlankItem) :
    (∀ p : Fin 16, ((s.releaseFlank items).lku.points[p]).holder = (s.lku.points[p]).holder) ∧
    ∀ g : Fin 16, ((s.releaseFlank items).lku.signals[g]).holder = (s.lku.signals[g]).holder := by
  have points (t : State) (f : Nat → Nat) (ps : List (Fin 16 × Position)) (p : Fin 16) :
      ((t.countPoints f ps).lku.points[p]).holder = (t.lku.points[p]).holder :=
    State.forEach_keeps (fun t => (t.lku.points[p]).holder) _ (fun t q => by
      simp only [State.updPointLock_points, upd_get]
      split
      · cases q.2 <;> rfl
      · rfl) t ps
  have signals (t : State) (f : Nat → Nat) (gs : List (Fin 16)) (g : Fin 16) :
      ((t.countSignals f gs).lku.signals[g]).holder = (t.lku.signals[g]).holder :=
    State.forEach_keeps (fun t => (t.lku.signals[g]).holder) _ (fun t x => by
      simp only [State.updSignalLock_signals, upd_get]
      split <;> rfl) t gs
  refine ⟨fun p => ?_, fun g => ?_⟩
  · have kept : (s.releaseFlank items).lku.points =
        (s.countPoints (· - 1) (flankPoints s.config items)).lku.points := by
      simp [State.releaseFlank, State.countFlank]
    rw [kept, points]
  · rw [State.releaseFlank, State.countFlank, signals]
    simp

theorem State.dropFlank_locks (o : Owner) :
    (s.dropFlank o).lku.sections = s.lku.sections ∧
    (s.dropFlank o).lku.points = (s.releaseFlank (s.holdOf o).flank).lku.points ∧
    (s.dropFlank o).lku.signals = (s.releaseFlank (s.holdOf o).flank).lku.signals := by
  simp [State.dropFlank]

theorem State.freeElements_holders (o : Owner) (roles : Role → Bool) :
    (∀ k : Fin 32, ((s.freeElements o roles).lku.sections[k]).holder =
      dropHolder o roles (s.lku.sections[k]).holder) ∧
    (∀ p : Fin 16, ((s.freeElements o roles).lku.points[p]).holder =
      dropHolder o roles (s.lku.points[p]).holder) ∧
    ∀ g : Fin 16, ((s.freeElements o roles).lku.signals[g]).holder =
      dropHolder o roles (s.lku.signals[g]).holder := by
  simp [State.freeElements]

theorem State.freeElements_counts (o : Owner) (roles : Role → Bool) :
    (∀ (p : Fin 16) (q : Position), ((s.freeElements o roles).lku.points[p]).claims q =
      (s.lku.points[p]).claims q) ∧
    ∀ g : Fin 16, ((s.freeElements o roles).lku.signals[g]).holds = (s.lku.signals[g]).holds := by
  refine ⟨fun p q => ?_, fun g => ?_⟩
  · cases q <;> simp [State.freeElements, PointLock.claims]
  · simp [State.freeElements]

/-- The elements of a route are free, and its held-flank set is given back and emptied. -/
def State.unlocked (s : State) (r : Fin 64) : State :=
  (s.freeElements (.route r) anyRole).dropFlank (.route r)

theorem State.unlocked_locks (r : Fin 64) : LocksFreed (· = r) s (s.unlocked r) := by
  set u := s.freeElements (.route r) anyRole with hu
  obtain ⟨sections, points, signals⟩ := u.dropFlank_locks (.route r)
  obtain ⟨pointHolders, signalHolders⟩ := u.releaseFlank_holders (u.holdOf (.route r)).flank
  obtain ⟨freeSections, freePoints, freeSignals⟩ := s.freeElements_holders (.route r) anyRole
  obtain ⟨sectionBlocks, pointBlocks, signalBlocks⟩ :=
    (Locking.blocks_eq_iff (s.unlocked r).lku s.lku).1 (by simp [State.unlocked])
  refine ⟨fun k => ⟨?_, sectionBlocks k⟩, fun p => ⟨?_, pointBlocks p⟩,
    fun g => ⟨?_, signalBlocks g⟩⟩
  · rw [State.unlocked, ← hu, sections, hu, freeSections]
    exact dropHolder_freed r _
  · rw [State.unlocked, ← hu, points, pointHolders, hu, freePoints]
    exact dropHolder_freed r _
  · rw [State.unlocked, ← hu, signals, signalHolders, hu, freeSignals]
    exact dropHolder_freed r _

theorem State.namedBy_singleton (r : Fin 64) (x : FlankElement) : s.namedBy [r] x =
    if NamesElement s.config (s.lku.routes[r]).hold.entries x then 1 else 0 := by
  by_cases named : NamesElement s.config (s.lku.routes[r]).hold.entries x
  · rw [if_pos named]
    exact congrArg List.length (List.filter_eq_self.2 (by simpa using named))
  · rw [if_neg named]
    exact congrArg List.length (List.filter_eq_nil_iff.2 (by simpa using named))

theorem State.unlocked_flank (r : Fin 64) : FlankReturned [r] s (s.unlocked r) := by
  set u := s.freeElements (.route r) anyRole with hu
  obtain ⟨-, points, signals⟩ := u.dropFlank_locks (.route r)
  obtain ⟨claims, holds⟩ := u.releaseFlank_removed (u.holdOf (.route r)).flank
  obtain ⟨freeClaims, freeHolds⟩ := s.freeElements_counts (.route r) anyRole
  have entries : (u.holdOf (.route r)).flank.map (·.entry) = (s.lku.routes[r]).hold.entries := by
    simp [hu, State.holdOf, Hold.entries]
  have config : u.config = s.config := by simp [hu]
  rw [entries] at claims holds
  refine ⟨fun p q => ?_, fun g => ?_⟩
  · rw [State.unlocked, ← hu, points, claims, hu, freeClaims, State.namedBy_singleton]
    rw [← hu, config]
  · rw [State.unlocked, ← hu, signals, holds, hu, freeHolds, State.namedBy_singleton]
    rw [← hu, config]

theorem State.unlocked_route (r x : Fin 64) : (s.unlocked r).lku.routes[x] =
    if r = x then { s.lku.routes[x] with hold := { (s.lku.routes[x]).hold with flank := [] } }
    else s.lku.routes[x] := by
  simp only [State.unlocked, State.dropFlank, State.updHold, State.updRoute_routes, upd_get]
  split <;> simp

@[simp] theorem State.unlocked_keeps (r : Fin 64) :
    (s.unlocked r).config = s.config ∧ (s.unlocked r).hou = s.hou ∧
    (s.unlocked r).slu = s.slu ∧ (s.unlocked r).rtp = s.rtp := by
  simp [State.unlocked, State.dropFlank, State.updHold]

/-- A route record without its pool reference. -/
def RouteRec.poolless (c : RouteRec) : RouteRec := { c with pool := .none }

theorem RouteAlike.of_poolless {a b : RouteRec} (h : b.poolless = a.poolless) :
    RouteAlike a b ∧ b.offers = a.offers := by
  cases a
  cases b
  cases h
  exact ⟨⟨rfl, rfl, rfl, rfl, rfl, rfl⟩, rfl⟩

theorem State.updRoute_poolless {f : RouteRec → RouteRec} (h : ∀ c, (f c).poolless = c.poolless)
    (r x : Fin 64) : ((s.updRoute r f).lku.routes[x]).poolless = (s.lku.routes[x]).poolless := by
  rw [State.updRoute_routes, upd_get]
  split
  · exact h _
  · rfl

theorem State.grantHead_poolless (k : Fin 16) (x : Fin 64) :
    ((s.grantHead k).lku.routes[x]).poolless = (s.lku.routes[x]).poolless := by
  unfold State.grantHead
  split
  · rfl
  · next q _ _ =>
    exact State.updRoute_poolless _ (f := fun c => { c with pool := .timer k }) (fun _ => rfl) q x

/-- Giving up a timer touches the pool references alone (R116). -/
theorem State.giveUpTimer_poolless (r x : Fin 64) :
    ((s.giveUpTimer r).lku.routes[x]).poolless = (s.lku.routes[x]).poolless := by
  have freed := s.updRoute_poolless (f := fun c => { c with pool := .none }) (fun _ => rfl) r x
  unfold State.giveUpTimer
  cases (s.lku.routes[r]).pool with
  | none => rfl
  | queued => exact freed
  | timer k => exact (State.grantHead_poolless _ k x).trans freed

theorem State.fullRelease_dropped (own : s.OffersOwned) (r : Fin 64) :
    ∃ ks, (∀ k, k ∈ ks ↔ k ∈ (s.lku.routes[r]).offers) ∧ Dropped ks [r] s (s.fullRelease r) := by
  set w := s.unlocked r with hw
  obtain ⟨config, hou, slu, rtp⟩ := s.unlocked_keeps r
  rw [← hw] at config hou slu rtp
  have refs (x : Fin 64) : (w.lku.routes[x]).offers = (s.lku.routes[x]).offers := by
    rw [hw, s.unlocked_route]
    split <;> rfl
  have others (x : Fin 64) (other : x ≠ r) : w.lku.routes[x] = s.lku.routes[x] := by
    rw [hw, s.unlocked_route, if_neg (Ne.symm other)]
  have ownW : w.OffersOwned := fun x k mem => by
    rw [refs] at mem
    rw [hou]
    exact own x k mem
  obtain ⟨ks, same, back⟩ := w.handBacks_dropped ownW (w.lku.routes[r]).offers
  rw [refs] at same
  set v := w.handBackAll r with hv
  have back : Dropped ks [] w v := back
  have released : s.fullRelease r = (v.giveUpTimer r).idleRoute r := rfl
  have given (x : Fin 64) := RouteAlike.of_poolless (v.giveUpTimer_poolless r x)
  have route (x : Fin 64) : (s.fullRelease r).lku.routes[x] =
      if r = x then RouteRec.idle (idleOverlap s.config (.route r))
      else (v.giveUpTimer r).lku.routes[x] := by
    have idle : (v.giveUpTimer r).config = s.config := by
      rw [(v.giveUpTimer_keeps r).2.2.2.1, back.config, config]
    rw [released, State.idleRoute, State.updRoute_routes, upd_get, idle]
  have keeps : (s.fullRelease r).config = v.config ∧ (s.fullRelease r).hou = v.hou ∧
      (s.fullRelease r).slu = v.slu ∧ (s.fullRelease r).lku.sections = v.lku.sections ∧
      (s.fullRelease r).lku.points = v.lku.points ∧
      (s.fullRelease r).lku.signals = v.lku.signals := by
    rw [released]
    simp
  obtain ⟨configV, houV, sluV, sections, points, signals⟩ := keeps
  refine ⟨ks, same, ?_⟩
  exact
    { config := by rw [configV, back.config, config]
      lastId := by rw [houV, back.lastId, hou]
      portions := by rw [houV, back.portions, hou]
      gone := fun k mem => by rw [houV, back.gone k mem]
      left := fun k other => by rw [houV, back.left k other, hou]
      refs := fun x k => by
        rw [route]
        split
        · next e =>
          subst e
          rw [same]
          simp [RouteRec.idle]
        · rw [(given x).2, back.refs, refs]
      failed := fun x mem => by
        rw [List.mem_singleton.1 mem, route, if_pos rfl]
        exact ⟨rfl, rfl, rfl, rfl⟩
      stays := fun x other => by
        have other : x ≠ r := by simpa using other
        rw [route, if_neg (Ne.symm other), ← others x other]
        exact (back.stays x nofun).trans (given x).1
      releases := by
        obtain ⟨new, placed⟩ := back.releases
        refine ⟨new, ⟨by rw [sluV, placed.queue, slu], fun i mem => ?_, ?_⟩⟩
        · rw [houV, ← hou]
          exact placed.only i mem
        · rw [houV, sluV, ← hou, ← config]
          exact placed.all
      locks := by
        have later := (back.locks.trans (LocksFreed.of_same sections points signals))
        exact ((s.unlocked_locks r).trans later).congr fun x => by simp
      flank := by
        have later := back.flank.trans (FlankReturned.of_same points signals) fun _ => rfl
        exact (s.unlocked_flank r).trans later fun _ => rfl
      pool := fun uncounted => by
        obtain ⟨pool, kept⟩ := s.fullRelease_pool (uncounted r (List.mem_singleton_self r))
        refine ⟨pool, fun x => ?_⟩
        by_cases same : x = r
        · rw [same, route, if_pos rfl, uncounted r (List.mem_singleton_self r)]
          rfl
        · exact kept x same }

end

end Sys2Proof.Machine
end

section
/-! The silence event of a neighbour (R38, R87, R141, R151, R154, R156). -/

namespace Sys2Proof.Machine

open Sys2Proof

/-! ## The records SENT to a neighbour removed, one after the other (R87, R156) -/

/-- Between `s` and `t` the records of `ks` that were SENT to a neighbour have gone, and with them
those of `gone`, which are of this kind or owned by a route of `failed`; these routes were in
SETTING and have failed with their SENT record. -/
structure SentGone (n : Fin 4) (ks gone : List (Fin 8)) (failed : List (Fin 64)) (s t : State) :
    Prop where
  dropped : Dropped gone failed s t
  once : failed.Nodup
  fails : ∀ r ∈ failed, s.FailsWith n r
  sent : ∀ k ∈ ks, ∀ o, s.Sent n k o → k ∈ gone
  cause : ∀ k ∈ gone, ∀ o, s.hou.offers[k] = some o →
    s.Sent n k o ∨ ∃ r ∈ failed, k ∈ (s.lku.routes[r]).offers
  setting : ∀ k ∈ gone, ∀ o, s.hou.offers[k] = some o →
    (s.lku.routes[o.route]).state = .setting → o.route ∈ failed

namespace SentGone

variable {n : Fin 4} {ks ks' gone gone' : List (Fin 8)} {failed failed' : List (Fin 64)}
  {s t u : State}

/-- Nothing was to be removed. -/
theorem nothing (h : ∀ k ∈ ks, ∀ o, ¬s.Sent n k o) : SentGone n ks [] [] s s :=
  ⟨.refl s, List.nodup_nil, nofun, fun k mem o sent => absurd sent (h k mem o), nofun, nofun⟩

/-- A route that fails later had not failed before, and it failed from the start. -/
theorem failsWith_before (h : SentGone n ks gone failed s t) {r : Fin 64} (late : t.FailsWith n r) :
    r ∉ failed ∧ s.FailsWith n r := by
  obtain ⟨setting, k, o, ⟨stands, sent⟩, owner⟩ := late
  have standing : r ∉ failed := fun mem => by
    rw [(h.dropped.failed r mem).state] at setting
    nomatch setting
  refine ⟨standing, (h.dropped.stays r standing).state.symm.trans setting, k, o, ⟨?_, sent⟩, owner⟩
  obtain same | none := h.dropped.leave k
  · exact same.symm.trans stands
  · nomatch none.symm.trans stands

theorem trans (h : SentGone n ks gone failed s t) (l : SentGone n ks' gone' failed' t u) :
    SentGone n (ks ++ ks') (gone' ++ gone) (failed' ++ failed) s u := by
  have apart (r : Fin 64) (mem : r ∈ failed') : r ∉ failed :=
    (h.failsWith_before (l.fails r mem)).1
  have later (k : Fin 8) (o : Offer) (stands : s.hou.offers[k] = some o) (left : k ∉ gone) :
      t.hou.offers[k] = some o := (h.dropped.left k left).trans stands
  refine ⟨h.dropped.trans l.dropped apart, ?_, fun r mem => ?_, fun k mem o sent => ?_,
    fun k mem o stands => ?_, fun k mem o stands setting => ?_⟩
  · exact List.nodup_append.2 ⟨l.once, h.once, fun r mem r' mem' same =>
      apart r mem (same ▸ mem')⟩
  · obtain mem | mem := List.mem_append.1 mem
    · exact (h.failsWith_before (l.fails r mem)).2
    · exact h.fails r mem
  · by_cases early : k ∈ gone
    · exact List.mem_append_right _ early
    · obtain mem | mem := List.mem_append.1 mem
      · exact absurd (h.sent k mem o sent) early
      · exact List.mem_append_left _ (l.sent k mem o ⟨later k o sent.1 early, sent.2⟩)
  · by_cases early : k ∈ gone
    · obtain sent | ⟨r, failed, owned⟩ := h.cause k early o stands
      · exact .inl sent
      · exact .inr ⟨r, List.mem_append_right _ failed, owned⟩
    · have late := (List.mem_append.1 mem).resolve_right early
      obtain sent | ⟨r, failed, owned⟩ := l.cause k late o (later k o stands early)
      · exact .inl ⟨stands, sent.2⟩
      · exact .inr ⟨r, List.mem_append_left _ failed, ((h.dropped.refs r k).1 owned).1⟩
  · by_cases failed : o.route ∈ failed
    · exact List.mem_append_right _ failed
    · have late : k ∉ gone := fun early => failed (h.setting k early o stands setting)
      exact List.mem_append_left _ (l.setting k ((List.mem_append.1 mem).resolve_right late) o
        (later k o stands late) ((h.dropped.stays _ failed).state.trans setting))

end SentGone

section
variable (s : State) (n : Fin 4)

/-- One SENT record removed: its route fails where it was in SETTING. -/
theorem State.dropSent_gone (own : s.OffersOwned) {k : Fin 8} {o : Offer} (sent : s.Sent n k o) :
    ∃ gone failed, SentGone n [k] gone failed s (s.dropSent k) := by
  obtain ⟨stands, towards⟩ := sent
  have alone (j : Fin 8) (q : Offer) (before : s.hou.offers[j] = some q) (same : j = k) :
      q = o := by
    subst same
    exact Option.some.inj (before.symm.trans stands)
  have back := s.handBack_dropped own k
  have step : s.dropSent k = (s.handBack k).failSetting o.route := by
    rw [State.dropSent, stands]
  have state := (back.stays o.route List.not_mem_nil).state
  by_cases setting : (s.lku.routes[o.route]).state = .setting
  · obtain ⟨ks, refs, released⟩ := (s.handBack k).fullRelease_dropped (back.owned own) o.route
    have whole := back.trans released fun _ _ => List.not_mem_nil
    have failing : s.dropSent k = (s.handBack k).fullRelease o.route := by
      rw [step, State.failSetting, if_pos (state.trans setting)]
    rw [← failing] at whole
    have owned (j : Fin 8) (mem : j ∈ ks) : j ∈ (s.lku.routes[o.route]).offers :=
      ((back.refs _ j).1 ((refs j).1 mem)).1
    refine ⟨ks ++ [k], [o.route], whole, List.nodup_singleton _, fun r mem => ?_, ?_, ?_, ?_⟩
    · rw [List.mem_singleton.1 mem]
      exact ⟨setting, k, o, ⟨stands, towards⟩, rfl⟩
    · exact fun j mem q _ => List.mem_append_right _ mem
    · intro j mem q before
      obtain mem | mem := List.mem_append.1 mem
      · exact .inr ⟨_, List.mem_singleton_self _, owned j mem⟩
      · obtain rfl := alone j q before (List.mem_singleton.1 mem)
        exact .inl ⟨before, towards⟩
    · intro j mem q before _
      rw [List.mem_singleton]
      obtain mem | mem := List.mem_append.1 mem
      · obtain ⟨q', named, owner⟩ := own _ j (owned j mem)
        rwa [Option.some.inj (before.symm.trans named)]
      · exact congrArg Offer.route (alone j q before (List.mem_singleton.1 mem))
  · have staying : s.dropSent k = s.handBack k := by
      rw [step, State.failSetting, if_neg fun e => setting (state.symm.trans e)]
    rw [staying]
    refine ⟨[k], [], back, List.nodup_nil, nofun, fun j mem q _ => mem, ?_, ?_⟩
    · intro j mem q before
      obtain rfl := alone j q before (List.mem_singleton.1 mem)
      exact .inl ⟨before, towards⟩
    · intro j mem q before e
      rw [alone j q before (List.mem_singleton.1 mem)] at e
      exact absurd e setting

theorem State.dropSentIn_gone (own : s.OffersOwned) (ks : List (Fin 8)) :
    ∃ gone failed, SentGone n ks gone failed s (s.dropSentIn n ks) := by
  induction ks generalizing s with
  | nil => exact ⟨[], [], by simpa [State.dropSentIn] using .nothing nofun⟩
  | cons k ks ih =>
    have cons (t : State)
        (first : (if (s.hou.offers[k]).any (·.sentTo n) then s.dropSent k else s) = t) :
        s.dropSentIn n (k :: ks) = t.dropSentIn n ks := by
      rw [State.dropSentIn, State.forEach_cons, first, State.dropSentIn]
    by_cases towards : (s.hou.offers[k]).any (·.sentTo n) = true
    · obtain ⟨o, stands, sentTo⟩ := (Option.any_eq_true _ _).1 towards
      have sent : s.Sent n k o := ⟨stands, by simpa [Offer.sentTo] using sentTo⟩
      obtain ⟨gone, failed, first⟩ := s.dropSent_gone n own sent
      obtain ⟨gone', failed', rest⟩ := ih (s.dropSent k) (first.dropped.owned own)
      rw [cons _ (if_pos towards)]
      exact ⟨_, _, first.trans rest⟩
    · obtain ⟨gone, failed, rest⟩ := ih s own
      have first : SentGone n [k] [] [] s s := .nothing fun j mem o sent => towards <| by
        rw [← List.mem_singleton.1 mem, sent.1]
        simpa [Offer.sentTo] using sent.2
      rw [cons _ (if_neg towards)]
      exact ⟨_, _, first.trans rest⟩

end

end Sys2Proof.Machine
end

section
/-! Settles the silence of a neighbour (R38, R87, R141, R151, R154, R156). -/

namespace Sys2Proof.Machine

open Sys2Proof

/-! ## What the removal of the SENT records says of the state after the event -/

namespace SentGone

variable {n : Fin 4} {gone : List (Fin 8)} {failed : List (Fin 64)} {s b t : State}

/-- The routes that fail are those in SETTING that own a SENT record. -/
theorem failed_iff (h : SentGone n (indices 8) gone failed s b) (r : Fin 64) :
    r ∈ failed ↔ s.FailsWith n r := by
  refine ⟨h.fails r, ?_⟩
  rintro ⟨setting, k, o, sent, rfl⟩
  exact h.setting k (h.sent k (List.mem_finRange k) o sent) o sent.1 setting

/-- A record that was not SENT and that no failing route referenced is left. -/
theorem left (h : SentGone n (indices 8) gone failed s b) {k : Fin 8} {o : Offer}
    (stands : s.hou.offers[k] = some o) (unsent : ¬s.Sent n k o)
    (unowned : ∀ r, s.FailsWith n r → k ∉ (s.lku.routes[r]).offers) :
    b.hou.offers[k] = some o := by
  refine (h.dropped.left k fun mem => ?_).trans stands
  obtain sent | ⟨r, fails, owned⟩ := h.cause k mem o stands
  · exact unsent sent
  · exact unowned r (h.fails r fails) owned

/-- What follows the removals leaves the locks, the pool and the class-1 queue, and removes no
record. -/
theorem sentDropped (h : SentGone n (indices 8) gone failed s b) (locks : t.lku = b.lku)
    (offers : ∀ k : Fin 8, t.hou.offers[k] = none ↔ b.hou.offers[k] = none)
    (lastId : t.hou.lastId = b.hou.lastId) (queue : t.slu.classOne = b.slu.classOne)
    (pool : t.rtp = b.rtp) : SentDropped n s t := by
  have drop := h.dropped
  obtain ⟨new, placed⟩ := drop.releases
  have appended : t.slu.classOne = s.slu.classOne ++ new := queue.trans placed.queue
  have tail : t.slu.classOne.drop s.slu.classOne.length = new := by
    rw [appended, List.drop_left]
  have removed (k : Fin 8) (mem : k ∈ gone) : t.hou.offers[k] = none :=
    (offers k).2 (drop.gone k mem)
  have sentGone (k : Fin 8) (o : Offer) (sent : s.Sent n k o) : k ∈ gone :=
    h.sent k (List.mem_finRange k) o sent
  have freed := drop.locks.congr h.failed_iff
  exact
    { gone := fun k o sent => removed k (sentGone k o sent)
      queue := ⟨new, appended.symm⟩
      released := fun k o c sent configured room => by
        rw [tail]
        have none := drop.gone k (sentGone k o sent)
        obtain ⟨stands, rfl, -⟩ := sent
        exact placed.all k o c stands none configured (by rwa [← queue])
      fails := fun r fails => by
        have idle := drop.failed r ((h.failed_iff r).2 fails)
        rw [locks]
        refine ⟨idle.state, idle.setting, idle.offers, idle.hold, fun k owned => removed k ?_⟩
        by_contra left
        have referenced := (drop.refs r k).2 ⟨owned, left⟩
        rw [idle.offers] at referenced
        nomatch referenced
      only := fun i mem => by
        obtain ⟨k, o, stands, none, payload⟩ := placed.only i (tail ▸ mem)
        exact ⟨k, o, stands, (offers k).2 none, payload⟩
      counts := by
        rw [locks]
        exact ⟨failed, h.once, h.failed_iff, drop.flank.claims, drop.flank.holds⟩
      pool := fun unpooled => by
        obtain ⟨same, refs⟩ := drop.pool fun r mem => unpooled r (h.fails r mem)
        rw [locks]
        exact ⟨pool.trans same, refs⟩
      lastId := lastId.trans drop.lastId
      stays := fun r stands => by
        have alike := drop.stays r fun mem => stands (h.fails r mem)
        rw [locks]
        exact ⟨alike.state, alike.setting, alike.status, alike.overlap, alike.entries, alike.note⟩
      sections := by rw [locks]; exact freed.sections
      points := by rw [locks]; exact freed.points
      signals := by rw [locks]; exact freed.signals }

end SentGone

/-! ## Records of the silence -/

/-- The record of a silent requester, as R156 words it. -/
theorem PortionRec.orphaned_eq (n : Fin 4) (r : PortionRec) : r.orphaned n =
    { r with orphan := r.orphan || (r.state != .idle && r.requester.map (·.1) == some n &&
      !r.released) } := by
  have requester : (r.requester.any (·.1 == n)) = (r.requester.map (·.1) == some n) := by
    cases r.requester <;> simp
  unfold PortionRec.orphaned
  split
  · next orphan =>
    obtain ⟨busy, named, held⟩ := orphan
    simp [busy, ← requester, named, held]
  · next other =>
    have stays : (r.state != .idle && r.requester.map (·.1) == some n && !r.released) = false := by
      rw [← requester]
      simpa [and_assoc] using other
    rw [stays, Bool.or_false]

theorem Grant.orphaned_eq (n : Fin 4) (g : Grant) :
    g.orphaned n = { g with orphan := g.orphan || g.requester == n } := by
  unfold Grant.orphaned
  split
  · next same => simp [same]
  · next other => rw [beq_false_of_ne other, Bool.or_false]

/-- An unconfirmed record keeps all but its state (R156). -/
theorem Offer.unconfirm_eq (n : Fin 4) (o : Offer) : o.unconfirm n =
    if o.neighbour = n ∧ o.state = .granted then { o with state := .unconfirmed } else o := rfl

/-- The records to a neighbour that were not SENT stand UNCONFIRMED (R156). -/
theorem Offer.unconfirm_state {n : Fin 4} {o : Offer} (named : (o.unconfirm n).neighbour = n)
    (unsent : ¬(o.neighbour = n ∧ o.state = .sent)) : (o.unconfirm n).state = .unconfirmed := by
  rw [Offer.unconfirm_eq] at named ⊢
  split
  · rfl
  · next other =>
    rw [if_neg other] at named
    cases state : o.state with
    | sent => exact absurd ⟨named, state⟩ unsent
    | granted => exact absurd ⟨named, state⟩ other
    | unconfirmed => rfl

/-! ## The stages of the event -/

section
variable (s : State) (n : Fin 4)

/-- The record of a silent neighbour (R141). -/
def State.silentRecord (s : State) (n : Fin 4) : State :=
  s.updNeighbour n fun r => { r with state := .silent, silence := .stopped, view := none }

/-- The records after the removal of the SENT records. -/
def State.withoutSent (s : State) (n : Fin 4) : State := (s.silentRecord n).dropAllSent n

/-- The records before the proving tests. -/
def State.silencedBare (s : State) (n : Fin 4) : State :=
  ((((s.withoutSent n).unconfirmOffers n).acuSilence n).orphanHosted n).updWindow (.neighbour n)
    fun _ => []

theorem State.silenceEvent_eq : s.silenceEvent n =
    (s.silencedBare n).provingTests ((s.silencedBare n).portionsBounded n) := rfl

theorem State.withoutSent_gone (own : s.OffersOwned) :
    ∃ gone failed, SentGone n (indices 8) gone failed s (s.withoutSent n) := by
  have silent : SentGone n [] [] [] s (s.silentRecord n) :=
    ⟨.of_same rfl rfl rfl rfl rfl rfl rfl, List.nodup_nil, nofun, nofun, nofun, nofun⟩
  obtain ⟨gone, failed, removed⟩ := (s.silentRecord n).dropSentIn_gone n own (indices 8)
  exact ⟨_, _, silent.trans removed⟩

theorem State.silencedBare_keeps :
    (s.silencedBare n).config = s.config ∧ (s.silencedBare n).fsu = s.fsu ∧
    (s.silencedBare n).asu = s.asu ∧
    (s.silencedBare n).slu.panelWindows = s.slu.panelWindows := by
  simp [State.silencedBare, State.withoutSent, State.silentRecord, State.updWindow]

/-- The removals and what precedes them leave the counts and the hosted grants. -/
theorem State.withoutSent_keeps :
    (s.withoutSent n).config = s.config ∧ (s.withoutSent n).acu = s.acu ∧
    (s.withoutSent n).hou.grants = s.hou.grants ∧
    (s.withoutSent n).slu.neighbourWindows = s.slu.neighbourWindows ∧
    (s.withoutSent n).hou.neighbours = upd s.hou.neighbours n fun r =>
      { r with state := .silent, silence := .stopped, view := none } := by
  simp [State.withoutSent, State.silentRecord]

/-- What follows the removals leaves the locks, the pool and the class-1 queue. -/
theorem State.silenceEvent_withoutSent :
    (s.silenceEvent n).lku = (s.withoutSent n).lku ∧
    (s.silenceEvent n).rtp = (s.withoutSent n).rtp ∧
    (s.silenceEvent n).slu.classOne = (s.withoutSent n).slu.classOne ∧
    (s.silenceEvent n).hou.lastId = (s.withoutSent n).hou.lastId ∧
    (s.silenceEvent n).hou.neighbours = (s.withoutSent n).hou.neighbours := by
  rw [State.silenceEvent_eq]
  simp [State.silencedBare]

theorem State.silenceEvent_offers (k : Fin 8) : (s.silenceEvent n).hou.offers[k] =
    ((s.withoutSent n).hou.offers[k]).map (Offer.unconfirm n) := by
  rw [State.silenceEvent_eq]
  simp [State.silencedBare, State.unconfirmOffers]

theorem State.silenceEvent_sections (k : Fin 32) : (s.silenceEvent n).acu.sections[k] =
    if namesRemoteOf s.config n k then (s.acu.sections[k]).latched
      { s.acu.sections[k] with state := .disturbed } else s.acu.sections[k] := by
  obtain ⟨config, acu, -⟩ := s.withoutSent_keeps n
  rw [State.silenceEvent_eq]
  simp [State.silencedBare, State.acuSilence, config, acu, SectionRec.disturb]

theorem State.silenceEvent_baselines (e : Fin 8) : (s.silenceEvent n).acu.baselines[e] =
    if (s.config.remoteHeads[e]).any (·.neighbour == n) then
      { s.acu.baselines[e] with valid := false } else s.acu.baselines[e] := by
  obtain ⟨config, acu, -⟩ := s.withoutSent_keeps n
  rw [State.silenceEvent_eq]
  simp [State.silencedBare, State.acuSilence, config, acu]

theorem State.silenceEvent_grants (k : Fin 8) : (s.silenceEvent n).hou.grants[k] =
    (s.hou.grants[k]).map (Grant.orphaned n) := by
  obtain ⟨-, -, grants, -⟩ := s.withoutSent_keeps n
  rw [State.silenceEvent_eq]
  simp [State.silencedBare, State.orphanHosted, grants]

theorem State.silenceEvent_windows :
    (s.silenceEvent n).slu.neighbourWindows = upd s.slu.neighbourWindows n fun _ => [] := by
  obtain ⟨-, -, -, windows, -⟩ := s.withoutSent_keeps n
  rw [State.silenceEvent_eq]
  simp [State.silencedBare, State.updWindow, windows]

theorem State.silencedBare_portions (own : s.OffersOwned) (p : Fin 16) :
    (s.silencedBare n).hou.portions[p] = (s.hou.portions[p]).orphaned n := by
  obtain ⟨_, _, removed⟩ := s.withoutSent_gone n own
  simp [State.silencedBare, State.orphanHosted, removed.dropped.portions]

end

/-! ## The event -/

/-- Between two states of a portion its proving test has been made, or not. -/
def PortionState.Tested (x y : PortionState) : Prop :=
  (y.provable ↔ x.provable) ∧ (¬x.provable → y = x)

theorem PortionState.tested_proved (x : PortionState) (ok : Bool) : x.Tested (x.proved ok) :=
  ⟨x.proved_provable ok, fun other => PortionState.proved_other other ok⟩

theorem PortionState.Tested.refl (x : PortionState) : x.Tested x := ⟨.rfl, fun _ => rfl⟩

theorem PortionState.Tested.trans {x y z : PortionState} (h : x.Tested y) (k : y.Tested z) :
    x.Tested z :=
  ⟨k.1.trans h.1, fun other => (k.2 fun y => other (h.1.1 y)).trans (h.2 other)⟩

/-- Proving tests touch no more of a portion than its state. -/
theorem State.provingTests_tested (s : State) {ps : List (Fin 16)} (once : ps.Nodup) (p : Fin 16) :
    ((s.hou.portions[p]).state.Tested ((s.provingTests ps).hou.portions[p]).state) ∧
    (s.provingTests ps).hou.portions[p] = { s.hou.portions[p] with
      state := ((s.provingTests ps).hou.portions[p]).state } := by
  rw [s.provingTests_portion ps once]
  split
  · exact ⟨PortionState.tested_proved _ _, rfl⟩
  · exact ⟨.refl _, rfl⟩

theorem Consequences.portion_moved {b u t : State} (h : Consequences b u t) (p : Fin 16) :
    ((u.hou.portions[p]).state.Tested (t.hou.portions[p]).state) ∧
    t.hou.portions[p] = { u.hou.portions[p] with state := (t.hou.portions[p]).state } := by
  rw [h.portions]
  split
  · exact ⟨PortionState.tested_proved _ _, rfl⟩
  · exact ⟨.refl _, rfl⟩

/-- The rest of an event changes no more of a hosted grant than whether it is proven. -/
theorem Consequences.grant_proven {b u t : State} (h : Consequences b u t) (k : Fin 8) :
    (t.hou.grants[k]).map (fun g => { g with proven := false }) =
      (u.hou.grants[k]).map fun g => { g with proven := false } := by
  rw [h.grants, Option.map_map]
  congr 1
  funext g
  rw [Function.comp_apply]
  split <;> rfl

/-- The silence event with what follows within the same event. -/
theorem silenced_of_rest {b u t : State} {n : Fin 4} (rest : RestOfEvent b (u.silenceEvent n) t)
    (own : u.OffersOwned) (contacts : u.fsu.contacts = b.fsu.contacts) (asu : u.asu = b.asu) :
    Silenced n u t := by
  obtain ⟨gone, failed, removed⟩ := u.withoutSent_gone n own
  obtain ⟨locks, pool, queue, lastId, neighbours⟩ := u.silenceEvent_withoutSent n
  obtain ⟨-, -, -, -, silent⟩ := u.withoutSent_keeps n
  obtain ⟨config, fsu, lamps, panelWindows⟩ := u.silencedBare_keeps n
  have tested : Consequences b ((u.silencedBare n).provingTests
      ((u.silencedBare n).portionsBounded n)) t := rest.toConsequences
  obtain ⟨pending, ticks, pins, sameConfig⟩ := rest.surroundings
  obtain ⟨classOne, lineA, lineB, otherWindows, panels, silence⟩ := rest.lines
  have once := (u.silencedBare n).portionsBounded_nodup n
  have offers (k : Fin 8) : t.hou.offers[k] =
      ((u.withoutSent n).hou.offers[k]).map (Offer.unconfirm n) := by
    rw [rest.offers.1, State.silenceEvent_offers]
  have views : t.hou.neighbours = upd u.hou.neighbours n fun r =>
      { r with state := .silent, silence := .stopped, view := none } := by
    rw [rest.neighbours, neighbours, silent]
  have windows : t.slu.neighbourWindows = upd u.slu.neighbourWindows n fun _ => [] := by
    rw [otherWindows, State.silenceEvent_windows]
  have portion (p : Fin 16) : (u.hou.portions[p]).state.Tested (t.hou.portions[p]).state ∧
      t.hou.portions[p] = { (u.hou.portions[p]).orphaned n with
        state := (t.hou.portions[p]).state } := by
    obtain ⟨early, record⟩ := (u.silencedBare n).provingTests_tested once p
    obtain ⟨late, final⟩ := tested.portion_moved p
    rw [u.silencedBare_portions n own p] at early record
    refine ⟨?_, ?_⟩
    · have state : ((u.hou.portions[p]).orphaned n).state = (u.hou.portions[p]).state := by
        rw [PortionRec.orphaned_eq]
      rw [state] at early
      exact early.trans late
    · rw [record] at final
      exact final
  have bounded (p : Fin 16) : u.portionBounded n p → t.portionBounded n p := by
    refine (State.portionBounded_congr ?_ ?_ n).2
    · rw [sameConfig]; simp
    · rw [(portion p).2, PortionRec.orphaned_eq]
  exact
    { record := by rw [views, upd_same]
      others := fun m other => by rw [views, upd_other _ _ _ _ (Ne.symm other)]
      sent := removed.sentDropped (by rw [rest.locks, locks])
        (fun k => by rw [offers, Option.map_eq_none_iff])
        (by rw [rest.offers.2, lastId]) (by rw [classOne, queue]) (by rw [rest.pool, pool])
      offers := fun k o stands unsent unowned => by
        rw [offers, removed.left stands unsent unowned, Option.map_some, Offer.unconfirm_eq]
      unconfirmed := fun k o stands named => by
        rw [offers] at stands
        obtain ⟨q, left, rfl⟩ := Option.map_eq_some_iff.1 stands
        refine Offer.unconfirm_state named fun sent => ?_
        have before : u.hou.offers[k] = some q := by
          obtain same | none := removed.dropped.leave k
          · exact same.symm.trans left
          · nomatch none.symm.trans left
        have mem := removed.sent k (List.mem_finRange k) q ⟨before, sent⟩
        nomatch (removed.dropped.gone k mem).symm.trans left
      heads := by rw [rest.counts]; simp
      sections := fun k => by rw [rest.counts, State.silenceEvent_sections]
      baselines := fun e => by rw [rest.counts, State.silenceEvent_baselines]
      portions := fun p => by
        have record := (portion p).2
        rw [PortionRec.orphaned_eq] at record
        exact record
      states := fun p => by
        obtain ⟨same, other⟩ := (portion p).1
        exact ⟨other, fun provable => ⟨same.2 provable, fun names =>
          tested.bounded_proved (by rw [fsu, contacts]) (by rw [lamps, asu]) p (bounded p names)
            (same.2 provable)⟩⟩
      grants := fun k => by
        rw [rest.grant_proven, State.silenceEvent_grants, Option.map_map]
        congr 1
        funext g
        rw [Function.comp_apply, Grant.orphaned_eq]
      window := by rw [windows, upd_same]
      windows := fun m other => by rw [windows, upd_other _ _ _ _ (Ne.symm other)]
      faults := fun c other => by
        rw [rest.faults]
        simp
        rintro - g l - rfl
        exact other rfl
      frame := by
        obtain ⟨sensors, sensed, half⟩ := rest.inputs
        obtain ⟨commands, reset, -⟩ := rest.commands
        have unheard : (u.silenceEvent n).slu.panelWindows = u.slu.panelWindows := by
          rw [State.silenceEvent_eq]
          simp [panelWindows]
        rw [rest.points, rest.loader, pending, ticks, pins, sameConfig, sensors, sensed, half, commands,
          reset, lineA, lineB, panels, silence, unheard]
        simp [rest.outputs] }

theorem State.silenceEvent_leftAlone (s : State) (n : Fin 4) : LeftAlone s (s.silenceEvent n) := by
  obtain ⟨-, -, -, -, fsu, -, -, asu, status, zero, one, -, -, -, -, period, pacing, change, cmu,
    -⟩ := s.silenceEvent_keeps n
  exact ⟨fsu, asu, cmu, ⟨status, period, pacing, change⟩, zero, one⟩

/-- The sender of an accepted telegram is a configured source (R138, check 3). -/
theorem Accepts.configured {s : State} {kind : Byte} {f : Frame} {n : Fin 4} {p : Payload}
    (h : Accepts s kind f (.neighbour n) p) : ∃ c, s.config.neighbours[n] = some c := by
  obtain ⟨screen, -⟩ := h
  cases configured : s.config.neighbours[n] with
  | some c => exact ⟨c, rfl⟩
  | none =>
    have unknown : codeOf s.config (.neighbour n) = none := by rw [codeOf, configured]; rfl
    unfold screened at screen
    repeat' split at screen
    all_goals simp_all

/-- Settles O41 from the silence event, by the timer and by a STATUS that carries HALT. -/
theorem silenceOfANeighbour : Obligations.SilenceOfANeighbour := by
  intro s n
  refine ⟨fun due own => ?_, fun f c accepts halt own => ?_⟩
  · obtain ⟨t, event, rest⟩ := exec_rest (s := s) (i := .silenceTimerExpiry n) rfl
    have effect : s.silenceExpiry n = s.silenceEvent n := if_pos due
    rw [effect] at rest
    exact ⟨t, event, silenced_of_rest rest own rfl rfl, rest, s.silenceEvent_leftAlone n⟩
  · set u := s.received (.neighbour n) f with hu
    obtain ⟨-, -, -, config, fsu, -, -, lku, asu, -, -, hou, -⟩ := s.received_keeps (.neighbour n) f
    rw [← hu] at config fsu lku asu hou
    have owned : u.OffersOwned := fun r k mem => by
      rw [lku] at mem
      rw [hou]
      exact own r k mem
    obtain ⟨cfg, configured⟩ := Accepts.configured accepts
    have effect : s.collected kindStatus f = u.silenceEvent n := by
      rw [State.collected_accepted accepts]
      show u.takeStatus n c = _
      rw [State.takeStatus, config, configured]
      exact if_pos halt
    obtain ⟨t, event, rest⟩ := exec_rest (s := s) (i := .status f) rfl
    rw [effect] at rest
    exact ⟨t, event, silenced_of_rest rest owned (by rw [fsu]) asu, rest,
      u.silenceEvent_leftAlone n⟩

end Sys2Proof.Machine
end

section
/-! The reset of a section: its conditions (R44, R45), RESET_SECTION and CONFIRM_RESET as the
command unit works them (R44, R46 to R49), and SECTION_RESET (R50). -/

namespace Sys2Proof.Machine

open Sys2Proof

/-! ## The reset conditions (R44, R45) -/

theorem SectionState.resettable_iff (x : SectionState) :
    x.resettable = true ↔ x = .disturbed ∨ x = .prepared ∨ x = .sweeping := by
  cases x <;> simp [SectionState.resettable]

/-- A section is locked by a holder, or as an approach section of an APPROACH_HELD route (R45). -/
theorem State.sectionLocked_iff (s : State) (k : Fin 32) : s.sectionLocked k = true ↔
    (s.lku.sections[k]).holder ≠ none ∨
      ∃ (q : Fin 64) (x : RouteCfg), (s.lku.routes[q]).state = .approachHeld ∧
        s.config.routes[q] = some x ∧ k ∈ x.approach := by
  simp [State.sectionLocked, Option.any_eq_true, Option.isSome_iff_ne_none]

/-- The neighbour of a boundary section is ALIVE; a local section has none (R44, check 4). -/
def State.heardAt (s : State) (k : Fin 32) : Prop :=
  ∀ n, boundaryNeighbour s.config k = some n → (s.hou.neighbours[n]).state = .alive

section
variable {s : State} {k : Fin 32} {cfg : SectionCfg}

theorem State.resetRefusal_notOwner (foreign : cfg.owner ≠ none) :
    s.resetRefusal k cfg = some .notOwner :=
  if_pos (Option.isSome_iff_ne_none.2 foreign)

theorem State.resetRefusal_owned (owned : cfg.owner = none) : s.resetRefusal k cfg =
    if !(s.acu.sections[k]).state.resettable then some .notResettable
    else if s.sectionLocked k then some .sectionLocked
    else
      match boundaryNeighbour s.config k with
      | none => none
      | some n => if s.alive n then none else some .neighbourSilent := by
  unfold State.resetRefusal
  rw [owned]
  rfl

theorem State.resetRefusal_notResettable (owned : cfg.owner = none)
    (other : ¬(s.acu.sections[k]).state.resettable = true) :
    s.resetRefusal k cfg = some .notResettable := by
  rw [State.resetRefusal_owned owned]
  exact if_pos (by simpa using other)

theorem State.resetRefusal_locked (owned : cfg.owner = none)
    (resettable : (s.acu.sections[k]).state.resettable = true) (locked : s.sectionLocked k = true) :
    s.resetRefusal k cfg = some .sectionLocked := by
  rw [State.resetRefusal_owned owned, resettable, locked]
  rfl

/-- Where checks 1 to 3 pass, check 4 decides (R44). -/
theorem State.resetRefusal_free (owned : cfg.owner = none)
    (resettable : (s.acu.sections[k]).state.resettable = true)
    (free : ¬s.sectionLocked k = true) :
    (s.heardAt k → s.resetRefusal k cfg = none) ∧
      (¬s.heardAt k → s.resetRefusal k cfg = some .neighbourSilent) := by
  rw [State.resetRefusal_owned owned, resettable, Bool.eq_false_of_not_eq_true free]
  unfold State.heardAt
  cases boundaryNeighbour s.config k with
  | none => simp
  | some n => simp [State.alive]

end

/-- The conditions are about the section, its locks and its neighbour, not about the queue. -/
theorem State.taken_resetRefusal (s : State) (rest : List QueuedCommand) (k : Fin 32)
    (cfg : SectionCfg) : (s.taken rest).resetRefusal k cfg = s.resetRefusal k cfg := rfl

/-! ## Queued commands (R160, R161) -/

section
variable {s : State} {isRow : Byte → Bool} {code : Byte} {c : QueuedCommand}
  {rest : List QueuedCommand} {work : State → QueuedCommand → State × Option Reason} {v : State}

/-- The command at the head of the queue leaves it, is worked and answered. -/
theorem State.runCommand_takes (takes : Takes s code c rest) (row : isRow code = true) :
    s.runCommand isRow work =
      (work (s.taken rest) c).1.placeResult c (work (s.taken rest) c).2 := by
  obtain ⟨run, queue, rfl⟩ := takes
  simp only [State.runCommand, State.takeCommand, run, queue, row, if_true]
  rfl

theorem State.runCommand_refused {why : Reason} (takes : Takes s code c rest)
    (row : isRow code = true) (works : work (s.taken rest) c = (v, some why)) :
    s.runCommand isRow work = v.refused c why := by
  rw [State.runCommand_takes takes row, works]
  rfl

theorem State.runCommand_done (takes : Takes s code c rest) (row : isRow code = true)
    (works : work (s.taken rest) c = (v, none)) : s.runCommand isRow work = v.done c := by
  rw [State.runCommand_takes takes row, works]
  rfl

end

/-! ## RESET_SECTION (R44) -/

section
variable {s : State} {c : QueuedCommand} {k : Fin 32} {cfg : SectionCfg} {why : Reason}

theorem workResetSection_unknown (none : configured s.config.sections c.arg1 = none) :
    workResetSection s c = (s, some .unknownElement) := by
  rw [workResetSection, none]

theorem workResetSection_refused (found : configured s.config.sections c.arg1 = some (k, cfg))
    (refused : s.resetRefusal k cfg = some why) : workResetSection s c = (s, some why) := by
  simp only [workResetSection, found, refused]

theorem workResetSection_passed (found : configured s.config.sections c.arg1 = some (k, cfg))
    (passes : s.resetRefusal k cfg = none) : workResetSection s c =
      if s.cmu.pendingReset.isSome then (s, some .resetPending)
      else (s.setPendingReset (some ⟨k, panelAddress s.config c.panel, .start Config.windowTime⟩),
        none) := by
  simp only [workResetSection, found, passes]

end

/-- Settles O36: the reset conditions by `State.resetRefusal`, check by check, then the record. -/
theorem resetSectionMakesThePendingRecord : Obligations.ResetSectionMakesThePendingRecord := by
  intro s c rest takes u answers
  have refuse {why : Reason} (works : workResetSection u c = (u, some why)) :
      answers (u.refused c why) :=
    exec_rest (congrArg some (State.runCommand_refused takes (by decide) works))
  refine ⟨fun none => refuse (workResetSection_unknown none), ?_⟩
  intro k cfg found r owned resettable locked heard
  have check {why : Reason} (refused : u.resetRefusal k cfg = some why) :
      answers (u.refused c why) := refuse (workResetSection_refused found refused)
  have resettable_iff : (u.acu.sections[k]).state.resettable = true ↔ resettable :=
    SectionState.resettable_iff _
  have locked_iff : u.sectionLocked k = true ↔ locked := u.sectionLocked_iff k
  have last (own : owned) (ready : resettable) (free : ¬locked) :=
    State.resetRefusal_free (s := u) own (resettable_iff.2 ready) (mt locked_iff.1 free)
  have passed (own : owned) (ready : resettable) (free : ¬locked) (hears : heard) :=
    workResetSection_passed (s := u) found ((last own ready free).1 hears)
  refine ⟨fun foreign => check (State.resetRefusal_notOwner foreign),
    fun own other => check (State.resetRefusal_notResettable own (mt resettable_iff.1 other)),
    fun own ready lock => check
      (State.resetRefusal_locked own (resettable_iff.2 ready) (locked_iff.2 lock)),
    fun own ready free silent => check ((last own ready free).2 silent),
    fun own ready free hears stands => refuse ((passed own ready free hears).trans ?_),
    fun own ready free hears none => ?_⟩
  · exact if_pos (Option.isSome_iff_ne_none.2 stands)
  · have works := (passed own ready free hears).trans (if_neg (by
      rw [Option.isSome_iff_ne_none]; exact not_not.2 none))
    exact exec_rest (congrArg some (State.runCommand_done takes (by decide) works))

/-! ## CONFIRM_RESET (R46, R48, R49) -/

section
variable {s : State} {c : QueuedCommand} {k : Fin 32} {cfg : SectionCfg} {r : PendingReset}

theorem workConfirmReset_unknown (none : configured s.config.sections c.arg1 = none) :
    workConfirmReset s c = (s, some .unknownElement) := by
  rw [workConfirmReset, none]

theorem workConfirmReset_noRecord (found : configured s.config.sections c.arg1 = some (k, cfg))
    (none : s.cmu.pendingReset = none) :
    workConfirmReset s c = (s, some .noPendingReset) := by
  simp only [workConfirmReset, found, none]

theorem workConfirmReset_otherPanel (found : configured s.config.sections c.arg1 = some (k, cfg))
    (stands : s.cmu.pendingReset = some r) (other : r.panel ≠ panelAddress s.config c.panel) :
    workConfirmReset s c = (s, some .noPendingReset) := by
  simp only [workConfirmReset, found, stands]
  exact if_pos other

theorem workConfirmReset_mismatch (found : configured s.config.sections c.arg1 = some (k, cfg))
    (stands : s.cmu.pendingReset = some r) (mine : r.panel = panelAddress s.config c.panel)
    (differs : ¬(r.number = k ∧ c.arg2 = 255 - c.arg1)) :
    workConfirmReset s c = (s.setPendingReset none, some .confirmMismatch) := by
  simp only [workConfirmReset, found, stands]
  exact (if_neg (not_not.2 mine)).trans (if_pos (not_and_or.1 differs))

/-- Steps 4 and 5, for a record of the panel and the section, with the complement (R46). -/
theorem workConfirmReset_confirmed (found : configured s.config.sections c.arg1 = some (k, cfg))
    (stands : s.cmu.pendingReset = some r) (mine : r.panel = panelAddress s.config c.panel)
    (agrees : r.number = k ∧ c.arg2 = 255 - c.arg1) : workConfirmReset s c =
      match s.resetRefusal k cfg with
      | some why => (s.setPendingReset none, some why)
      | none => ((s.setPendingReset none).executeReset k cfg, none) := by
  simp only [workConfirmReset, found, stands]
  exact (if_neg (not_not.2 mine)).trans (if_neg (mt not_and_or.2 (not_not.2 agrees)))

theorem State.executeReset_local (none : boundaryNeighbour s.config k = none) :
    s.executeReset k cfg = s.updSection k SectionRec.prepare := by
  simp only [State.executeReset, State.updSection_keeps, none]

theorem State.executeReset_boundary {n : Fin 4} {number : Fin 32}
    (boundary : boundaryNeighbour s.config k = some n)
    (named : cfg.neighbourNumber = some number) : s.executeReset k cfg =
      (s.updSection k SectionRec.prepare).toNeighbour n (.sectionReset (byteOf number.val)) := by
  simp only [State.executeReset, State.updSection_keeps, boundary, named]

end

/-- Settles O37, step by step (R46): a reset that passes every step is executed. -/
theorem confirmResetExecutesTheReset : Obligations.ConfirmResetExecutesTheReset := by
  intro s c rest takes u ended answers
  have refuse {v : State} {why : Reason} (works : workConfirmReset u c = (v, some why)) :
      answers (v.refused c why) :=
    exec_rest (congrArg some (State.runCommand_refused takes (by decide) works))
  have finish {v : State} (works : workConfirmReset u c = (v, none)) : answers (v.done c) :=
    exec_rest (congrArg some (State.runCommand_done takes (by decide) works))
  refine ⟨fun none => refuse (workConfirmReset_unknown none), ?_⟩
  intro k cfg found
  refine ⟨fun none => refuse (workConfirmReset_noRecord (s := u) found none), ?_⟩
  intro r stands mine agrees prepared
  have confirmed (own : mine) (agree : agrees) :=
    workConfirmReset_confirmed (s := u) found stands own agree
  refine ⟨fun other => refuse (workConfirmReset_otherPanel (s := u) found stands other),
    fun own differs => refuse (workConfirmReset_mismatch (s := u) found stands own differs),
    fun own agree why refused => refuse ?_, fun own agree passes =>
      ⟨fun inner => finish ?_, fun n number boundary named => finish ?_⟩⟩
  · rw [confirmed own agree, s.taken_resetRefusal, refused]
    rfl
  · rw [confirmed own agree, s.taken_resetRefusal, passes]
    exact congrArg (·, none) (State.executeReset_local (s := ended) inner)
  · rw [confirmed own agree, s.taken_resetRefusal, passes]
    exact congrArg (·, none) (State.executeReset_boundary (s := ended) boundary named)

/-! ## SECTION_RESET (R50) -/

theorem State.takeSectionReset_beyond (s : State) (n : Fin 4) {number : Byte}
    (beyond : 32 ≤ number.toNat) : s.takeSectionReset n number = s := by
  rw [State.takeSectionReset, indexOf?, dif_neg (by omega)]

theorem State.takeSectionReset_byteOf (s : State) (n : Fin 4) (k : Fin 32) :
    s.takeSectionReset n (byteOf k.val) =
      if s.sld.station = .run ∧ namesRemoteOf s.config n k = true ∧
        (s.acu.sections[k]).state.resettable = true ∧ s.sectionLocked k = false then
        s.updSection k SectionRec.prepare
      else s := by
  simp [State.takeSectionReset, indexOf_byteOf]

theorem State.takeSectionReset_outside_run {s : State} (outside : s.sld.station ≠ .run)
    (n : Fin 4) (number : Byte) : s.takeSectionReset n number = s := by
  unfold State.takeSectionReset
  split
  · rfl
  · exact if_neg fun takes => outside takes.1

/-- The lock test reads the lock table and the configuration alone (R45). -/
theorem State.sectionLocked_congr {s t : State} (locks : t.lku = s.lku)
    (config : t.config = s.config) (k : Fin 32) : t.sectionLocked k = s.sectionLocked k := by
  rw [State.sectionLocked, State.sectionLocked, locks, config]

/-- Settles O46: the delivery of an accepted SECTION_RESET, by the number it names. -/
theorem sectionResetPreparesOrIsIgnored : Obligations.SectionResetPreparesOrIsIgnored := by
  intro s f n number accepts u answers
  obtain ⟨-, -, -, config, -, acu, -, lku, -, -, -, -, -, sld⟩ := s.received_keeps (.neighbour n) f
  have answer {v : State} (takes : u.takeSectionReset n number = v) : answers v :=
    exec_rest (congrArg some ((State.collected_accepted accepts).trans takes))
  refine ⟨fun outside => answer (State.takeSectionReset_outside_run (by rwa [sld]) n number),
    fun beyond => answer (u.takeSectionReset_beyond n beyond), ?_⟩
  rintro k rfl r takes
  have taking : u.takeSectionReset n (byteOf k.val) =
      if takes then u.updSection k SectionRec.prepare else u := by
    rw [State.takeSectionReset_byteOf, State.sectionLocked_congr lku config]
    simp only [u, config, acu, sld, SectionState.resettable_iff, takes, r]
  exact ⟨fun taken => answer (taking.trans (if_pos taken)),
    fun ignored => answer (taking.trans (if_neg ignored))⟩

end Sys2Proof.Machine
end

section
/-! The expiries of the reset window, of the panel silence timers and of the line health timers
(R43, R141, R142). -/

namespace Sys2Proof.Machine

open Sys2Proof

section
variable {s : State} {l : Line}

/-- A line whose timer has just expired is judged by the other's timer alone (R142). -/
theorem State.judgeLines_expired (expired : (s.line l).health = .expired) : s.judgeLines =
    if (s.line (otherLine l)).health.hasTime then s.setFault .lineFault (lineElement l) else s := by
  have spent : LineHealth.hasTime .expired = false := rfl
  cases l with
  | a =>
    change s.slu.lineA.health = .expired at expired
    change _ = if s.slu.lineB.health.hasTime then s.setFault .lineFault 0 else s
    cases time : s.slu.lineB.health.hasTime <;> simp [State.judgeLines, expired, spent, time]
  | b =>
    change s.slu.lineB.health = .expired at expired
    change _ = if s.slu.lineA.health.hasTime then s.setFault .lineFault 1 else s
    simp [State.judgeLines, expired, spent]

theorem State.updLine_line (f : LineRec → LineRec) : (s.updLine l f).line l = f (s.line l) ∧
    (s.updLine l f).line (otherLine l) = s.line (otherLine l) := by
  cases l <;> exact ⟨rfl, rfl⟩

theorem State.healthExpiry_due (due : (s.line l).health.due = true) : s.healthExpiry l =
    if (s.line (otherLine l)).health.hasTime then
      (s.updLine l fun r => { r with health := .expired }).setFault .lineFault (lineElement l)
    else s.updLine l fun r => { r with health := .expired } := by
  obtain ⟨here, there⟩ := State.updLine_line (s := s) (l := l) fun r =>
    { r with health := .expired }
  rw [State.healthExpiry, if_pos due, State.judgeLines_expired (l := l) (by rw [here]), there]

end

/-- Settles O48, timer by timer. -/
theorem windowSilenceAndHealthTimersExpire : Obligations.WindowSilenceAndHealthTimersExpire := by
  intro s
  refine ⟨fun r stands due => ?_, fun p due => ?_, fun l due => ?_⟩
  · have effect : s.windowExpiry = s.setPendingReset none := if_pos (by rw [stands]; exact due)
    exact exec_rest (congrArg some effect)
  · have effect : s.panelExpiry p =
        (s.setPanelSilence p .stopped).updWindow (.panel p) fun _ => [] := if_pos due
    exact exec_rest (congrArg some effect)
  · have effect := State.healthExpiry_due due
    refine ⟨fun time => ?_, fun none => ?_⟩
    · rw [time] at effect
      exact exec_rest (congrArg some effect)
    · rw [none] at effect
      exact exec_rest (congrArg some effect)

end Sys2Proof.Machine
end

section
/-! What a shown permission rests on (R52, R53, R93 to R97). -/

namespace Sys2Proof.Machine

open Sys2Proof

variable {s : State} {g : Fin 16}

theorem Aspect.eq_danger_iff (a : Aspect) : a = .danger ↔ a.rank = 0 := by
  cases a <;> simp [Aspect.rank]

/-- A signal that shows a permission has it commanded and presented (R97). -/
theorem State.shown_permits (h : s.shown g ≠ .danger) :
    s.commanded g ≠ .danger ∧ (s.asu.signals[g]).presented ≠ .danger := by
  obtain ⟨commanded, presented, -⟩ := s.shown_le g
  rw [Ne, Aspect.eq_danger_iff] at h ⊢
  rw [Ne, Aspect.eq_danger_iff]
  omega

/-- A permission commanded is that of a LOCKED route from the signal whose condition holds (R96). -/
theorem State.commanded_permits (h : s.commanded g ≠ .danger) :
    ∃ r c, (r, c) ∈ s.lockedFrom g ∧ s.routeCondition r c = true ∧
      (c.cls = .callOn → s.commanded g = .callOn) := by
  unfold State.commanded at h ⊢
  split at h
  · exact absurd rfl h
  · next r c first =>
    refine ⟨r, c, List.mem_of_mem_head? first, ?_⟩
    unfold State.routeCondition
    split at h
    · next main =>
      split at h
      · next holds => simp [main, holds]
      · exact absurd rfl h
    · next callOn =>
      split at h
      · next holds => simp [callOn, holds]
      · exact absurd rfl h

/-- Of the aspects no less restrictive than CALL_ON, CALL_ON alone is a permission. -/
theorem State.shown_callOn (h : s.shown g ≠ .danger) (callOn : s.commanded g = .callOn) :
    s.shown g = .callOn := by
  have least := (s.shown_le g).1
  rw [callOn] at least
  rw [Ne, Aspect.eq_danger_iff] at h
  have one : Aspect.callOn.rank = 1 := rfl
  exact Aspect.rank_inj (by omega)

/-- Settles O58: the permission is commanded over a LOCKED route, and the items of its condition
(R93, R95) are what the statement names. -/
theorem permissiveAspectHasAProvedRoute : Obligations.PermissiveAspectHasAProvedRoute := by
  intro s g permission
  obtain ⟨commanded, presented⟩ := State.shown_permits permission
  obtain ⟨r, c, mem, condition, alone⟩ := State.commanded_permits commanded
  obtain ⟨configured, rfl, locked⟩ := (s.mem_lockedFrom g r c).1 mem
  obtain ⟨base, path, -⟩ := (s.routeCondition_iff r c).1 condition
  obtain ⟨run, -, blocked, holds, lamps, points, -, offers, -⟩ := (s.conditionBase_iff r c).1 base
  refine ⟨run, presented, blocked, holds, lamps, r, c, configured, rfl, locked,
    fun q mem => points q (.inl mem), fun k mem => ?_, fun main k mem => ?_, fun callOn =>
    ⟨State.shown_callOn permission (alone callOn), fun k mem => ?_⟩⟩
  · obtain ⟨o, stands, granted, -⟩ := (s.offerStands_iff k).1 (offers k mem)
    exact ⟨o, stands, granted⟩
  · have proved := path k mem
    rw [if_pos main] at proved
    exact (s.provesFree_iff k).1 proved
  · have proved := path k mem
    rw [if_neg (by rw [callOn]; nofun)] at proved
    exact ((s.callOnProves_iff k).1 proved).1

end Sys2Proof.Machine
end

section
/-! STOP (R168): the entry to HALT said once, with the answers to the queued commands (R74, R137,
R161, R169). -/

namespace Sys2Proof.Machine

open Sys2Proof

/-! ## The answers to the queued commands (R161) -/

/-- What tells a queued command that it is not worked, for HALT (R161). -/
def QueuedCommand.haltedAnswer (c : QueuedCommand) : Payload :=
  .commandResult c.seq c.code 1 Reason.halted.code

/-- The payloads that wait in the class-1 queue. -/
def State.classOnePayloads (s : State) : List Payload := s.slu.classOne.map (·.telegram.payload)

/-- A panel is configured. -/
def State.hasPanel (s : State) (p : Fin 2) : Bool := (s.config.panels[p]).isSome

/-- The answers to the queued commands that have a configured panel to go to. -/
def State.haltedAnswers (s : State) (cs : List QueuedCommand) : List Payload :=
  (cs.filter fun c => s.hasPanel c.panel).map QueuedCommand.haltedAnswer

/-- Which commands have a panel to be answered at is configuration. -/
theorem State.haltedAnswers_congr {s t : State} (config : t.config = s.config)
    (cs : List QueuedCommand) : t.haltedAnswers cs = s.haltedAnswers cs := by
  simp only [State.haltedAnswers, State.hasPanel, config]

section
variable (s : State)

/-- A telegram to a panel joins the class-1 queue where the panel is configured and 16 are not
waiting (R134). -/
theorem State.toPanel_payloads (p : Fin 2) (x : Payload) :
    (s.toPanel p x).classOnePayloads = s.classOnePayloads ++
      if s.hasPanel p ∧ s.classOnePayloads.length < 16 then [x] else [] := by
  unfold State.toPanel State.placeClassOne State.classOnePayloads State.hasPanel
  cases s.config.panels[p] with
  | none => simp
  | some c =>
    by_cases full : 16 ≤ s.slu.classOne.length
    · simp [full]
    · simp [full, Nat.lt_of_not_le full, State.nextItem, State.nextTelegram]

/-- The answers stand at the tail of the class-1 queue in the order of their commands, as far as it
has room (R134, R161). -/
theorem State.answerHalted_payloads (cs : List QueuedCommand) :
    (s.answerHalted cs).classOnePayloads = s.classOnePayloads ++
      (s.haltedAnswers cs).take (16 - s.classOnePayloads.length) := by
  unfold State.answerHalted
  induction cs generalizing s with
  | nil => simp [State.haltedAnswers]
  | cons c cs ih =>
    have same : (s.placeResult c (some .halted)).haltedAnswers cs = s.haltedAnswers cs :=
      State.haltedAnswers_congr (by simp) cs
    have placed : (s.placeResult c (some .halted)).classOnePayloads = s.classOnePayloads ++
        if s.hasPanel c.panel ∧ s.classOnePayloads.length < 16 then
          [c.haltedAnswer] else [] := s.toPanel_payloads c.panel c.haltedAnswer
    rw [State.forEach_cons, ih, same, placed]
    by_cases panel : s.hasPanel c.panel
    · have first : s.haltedAnswers (c :: cs) = c.haltedAnswer :: s.haltedAnswers cs := by
        simp [State.haltedAnswers, panel]
      by_cases room : s.classOnePayloads.length < 16
      · obtain ⟨k, left⟩ : ∃ k, 16 - s.classOnePayloads.length = k + 1 :=
          ⟨15 - s.classOnePayloads.length, by omega⟩
        have after : 16 - (s.classOnePayloads.length + 1) = k := by omega
        simp [panel, room, first, left, after]
      · simp [room, Nat.sub_eq_zero_of_le (Nat.le_of_not_lt room)]
    · have skipped : s.haltedAnswers (c :: cs) = s.haltedAnswers cs := by
        simp [State.haltedAnswers, panel]
      simp [panel, skipped]

/-- The answers concern the class-1 queue alone. -/
@[simp] theorem State.answerHalted_others (cs : List QueuedCommand) :
    (s.answerHalted cs).acu = s.acu ∧ (s.answerHalted cs).pcu = s.pcu ∧
    (s.answerHalted cs).rtp = s.rtp ∧ (s.answerHalted cs).slu.statusSlot = s.slu.statusSlot ∧
    (s.answerHalted cs).slu.displayZero = s.slu.displayZero ∧
    (s.answerHalted cs).slu.displayOne = s.slu.displayOne ∧ (s.answerHalted cs).hou = s.hou ∧
    (s.answerHalted cs).cmu = s.cmu := by
  unfold State.answerHalted
  induction cs generalizing s with
  | nil => simp
  | cons c cs ih =>
    simp only [State.forEach_cons, ih]
    simp

end

/-! ## What STOP leaves of a station in QUIET or RUN -/

/-- The records after the entry to HALT by STOP (R43, R68, R74, R137, R159, R161, R168, R169). -/
structure Stopped (s u : State) : Prop where
  loader : u.sld = { s.sld with
    station := .halt, quiet := .stopped, stopFilter := s.sld.stopFilter.accept true }
  routes : ∀ r : Fin 64, u.lku.routes[r] = RouteRec.idle (idleOverlap s.config (.route r))
  sections : ∀ k : Fin 32, u.lku.sections[k] = { s.lku.sections[k] with holder := none }
  points : ∀ p : Fin 16,
    u.lku.points[p] = { s.lku.points[p] with holder := none, claimsN := 0, claimsR := 0 }
  signals : ∀ g : Fin 16, u.lku.signals[g] = { s.lku.signals[g] with holder := none, holds := 0 }
  pool : u.rtp = TimerPool.reset
  hosted : (∀ p : Fin 16,
    u.hou.portions[p] = PortionRec.idle (idleOverlap s.config (.portion p))) ∧
    ∀ k : Fin 8, u.hou.grants[k] = none ∧ u.hou.offers[k] = none
  moves : ∀ p : Fin 16, u.pcu.points[p] = (s.pcu.points[p]).halted
  commands : u.cmu.queue = [] ∧ u.cmu.pendingReset = none
  faults : u.cmu.faults = setCondition ⟨.stopped, 0⟩ s.cmu.faults
  slots : u.slu.statusSlot = none ∧ u.slu.displayZero = none ∧ u.slu.displayOne = none
  answers : u.classOnePayloads = (s.haltedAnswers s.cmu.queue).take 16
  stays : u.acu = s.acu ∧ u.hou.neighbours = s.hou.neighbours ∧ u.hou.lastId = s.hou.lastId ∧
    u.config = s.config

section
variable {s u t : State} {delivered : List Byte}

/-- The records at the entry to HALT, with everything dropped and no command answered yet (R169). -/
def State.allDropped (s : State) : State :=
  (({ s with sld := s.sld.toHalt, rtp := TimerPool.reset } : State).dropLocks.dropHandover.mapPoints
    fun _ => PointRec.halted).dropTelegrams.dropCommands

theorem State.enterHalt_eq (s : State) : s.enterHalt = s.allDropped.answerHalted s.cmu.queue := rfl

theorem State.allDropped_payloads (s : State) : s.allDropped.classOnePayloads = [] := rfl

theorem State.allDropped_config (s : State) : s.allDropped.config = s.config := by
  simp [State.allDropped, State.dropLocks, State.dropHandover, State.dropTelegrams,
    State.dropCommands]

theorem State.setFault_payloads (s : State) (kind : FaultKind) (e : Byte) :
    (s.setFault kind e).classOnePayloads = s.classOnePayloads := rfl

theorem State.stop_active (active : s.sld.station = .quiet ∨ s.sld.station = .run) :
    s.stop delivered = s.observeStop.enterHalt.setFault .stopped 0 := by
  obtain station | station := active <;> simp [State.stop, State.observeStop, station]

theorem State.stop_stopped (active : s.sld.station = .quiet ∨ s.sld.station = .run) :
    Stopped s (s.stop delivered) := by
  have answers := s.observeStop.allDropped.answerHalted_payloads s.cmu.queue
  rw [State.allDropped_payloads,
    State.haltedAnswers_congr (State.allDropped_config s.observeStop)] at answers
  rw [State.stop_active active, State.enterHalt_eq]
  constructor
  case answers => exact (State.setFault_payloads _ _ _).trans answers
  all_goals
    simp [State.allDropped, State.observeStop, Loader.toHalt, State.dropLocks, State.dropHandover,
      State.dropTelegrams, State.dropCommands, StationLine.emptied]

theorem Stopped.nothingOutsideRun (h : Stopped s u) : u.NothingOutsideRun := fun _ => by
  obtain ⟨portions, offers⟩ := h.hosted
  simp [h.routes, h.sections, h.points, h.signals, h.pool, portions, offers, RouteRec.idle,
    PortionRec.idle, TimerPool.reset]

/-- What follows within an event brings no lock, hosted record or offer back (R74, R114, R159). -/
theorem Consequences.nothingOutsideRun {b : State} (event : Consequences b u t)
    (nothing : u.NothingOutsideRun) : t.NothingOutsideRun := fun outside => by
  rw [event.loader] at outside
  obtain ⟨routes, portions, records, sections, points, signals, timers, queue⟩ := nothing outside
  rw [event.locks, event.pool, event.offers.1]
  refine ⟨routes, fun p => ?_, fun k => ⟨?_, (records k).2⟩, sections, points, signals, timers,
    queue⟩
  · obtain ⟨⟨-, kept⟩, -⟩ := event.portion_moved p
    rw [kept (by rw [portions p]; rintro (x | x) <;> nomatch x), portions p]
  · rw [event.grants, (records k).1]
    rfl

/-- An answer for HALT is that of a command that was queued, and every command with a configured
panel has its answer where the queue has room for all (R134, R161). -/
theorem Stopped.answered (h : Stopped s u) (same : t.slu.classOne = u.slu.classOne) :
    (∀ i, i ∈ t.slu.classOne → ∃ c, c ∈ s.cmu.queue ∧ i.telegram.payload = c.haltedAnswer) ∧
    ((∀ c, c ∈ s.cmu.queue → (s.config.panels[c.panel]).isSome = true) →
      s.cmu.queue.length ≤ 16 →
      t.slu.classOne.map (·.telegram.payload) = s.cmu.queue.map QueuedCommand.haltedAnswer) := by
  have payloads : t.slu.classOne.map (·.telegram.payload) =
      (s.haltedAnswers s.cmu.queue).take 16 := by rw [same]; exact h.answers
  refine ⟨fun i mem => ?_, fun panels room => ?_⟩
  · have answer : i.telegram.payload ∈ (s.haltedAnswers s.cmu.queue).take 16 :=
      payloads ▸ List.mem_map_of_mem mem
    obtain ⟨c, queued, e⟩ := List.mem_map.1 (List.mem_of_mem_take answer)
    exact ⟨c, (List.mem_filter.1 queued).1, e.symm⟩
  · have kept : s.cmu.queue.filter (fun c => s.hasPanel c.panel) = s.cmu.queue :=
      List.filter_eq_self.2 panels
    rw [payloads, State.haltedAnswers, kept]
    exact List.take_of_length_le (by simpa using room)

end

/-- Settles O13: in CONFIG by `State.refuseImage_eq`; in QUIET or RUN by `Stopped`, which the rest
of the event leaves as it is. -/
theorem stopHaltsTheStation : Obligations.StopHaltsTheStation := by
  intro s delivered
  obtain ⟨t, run, event⟩ := exec_rest (s := s) (i := .stop delivered) rfl
  refine ⟨fun config => ⟨t, run, ?_⟩, fun halt => ⟨t, run, ?_⟩, fun active => ⟨t, run, ?_⟩⟩
  · have effect : s.stop delivered =
        (s.observeStop.refuseImage ImageFault.stopped.code delivered).setFault .stopped 0 := by
      simp [State.stop, State.observeStop, config]
    rw [effect, State.refuseImage_eq] at event
    exact event
  · have effect : s.stop delivered = s.observeStop := by
      simp [State.stop, State.observeStop, halt]
    rw [effect] at event
    exact event
  · have stopped := State.stop_stopped (delivered := delivered) active
    have loader := event.loader.trans stopped.loader
    have halted : ¬t.sld.station = .run := by rw [loader]; nofun
    have page (p : Page) := (event.pageStays p fun moved => halted moved.2.1).1
    obtain ⟨status, zero, one⟩ := stopped.slots
    obtain ⟨queue, reset, -⟩ := event.commands
    obtain ⟨heads, neighbours, lastId, config⟩ := stopped.stays
    obtain ⟨-, -, -, sameConfig⟩ := event.surroundings
    obtain ⟨-, sameId⟩ := event.offers
    have faults (c : Condition) (other : c.kind ≠ .lampFailed) :
        c ∈ t.cmu.faults ↔ c = ⟨.stopped, 0⟩ ∨ c ∈ s.cmu.faults := by
      rw [event.toConsequences.other_faults c other, stopped.faults, mem_setCondition]
    have condition : ⟨.stopped, 0⟩ ∈ t.cmu.faults := (faults ⟨.stopped, 0⟩ nofun).2 (.inl rfl)
    obtain ⟨answers, all⟩ := stopped.answered event.lines.1
    refine ⟨loader, condition, ?_,
      event.toConsequences.nothingOutsideRun stopped.nothingOutsideRun, fun r => ?_, fun k => ?_,
      fun p => ?_, fun g => ?_, fun p => ?_, queue.trans stopped.commands.1,
      reset.trans stopped.commands.2, (event.statusStays fun moved => halted moved.2.1).slot.trans
      status, (page .zero).trans zero, (page .one).trans one, answers, all, event.outputs,
      event.counts.trans heads, event.neighbours.trans neighbours, sameId.trans lastId,
      sameConfig.trans config, fun c lamp other => ?_⟩
    · rw [State.faultOutput, Bool.not_eq_true', List.isEmpty_eq_false_iff]
      exact List.ne_nil_of_mem condition
    · rw [event.locks, stopped.routes]
      exact ⟨rfl, rfl, rfl⟩
    · rw [event.locks, stopped.sections]
    · rw [event.locks, stopped.points]
    · rw [event.locks, stopped.signals]
    · rw [event.points, stopped.moves]
      rfl
    · rw [faults c lamp]
      exact or_iff_right fun e => other (by rw [e])

end Sys2Proof.Machine
end

section
/-! DISTURBED followed through every operation: it is left by a reset alone (R40, R48, R50). -/

namespace Sys2Proof.Machine

open Sys2Proof

/-! ## Section records -/

namespace SectionRec

variable {r : SectionRec}

theorem shifted_disturbed (d : Int) (h : r.state = .disturbed) :
    (r.shifted d).state = .disturbed := by
  simp only [shifted]
  repeat' split
  · exact h
  · rfl
  · rfl
  · rw [h]; rfl

theorem change_disturbed (d : Int) (h : r.state = .disturbed) : (r.change d).state = .disturbed :=
  shifted_disturbed d h

theorem reported_disturbed (d : Int) (disturbs : Bool) (h : r.state = .disturbed) :
    (r.reported d disturbs).state = .disturbed := by
  cases disturbs
  · exact shifted_disturbed d h
  · rfl

end SectionRec

/-! ## What an operation keeps -/

/-- From `s` to `t` every section that leaves DISTURBED becomes PREPARED, and none leaves it but by
a reset (R40). -/
def LeftByReset (reset : Prop) (s t : State) : Prop :=
  ∀ k : Fin 32, (s.acu.sections[k]).state = .disturbed → (t.acu.sections[k]).state ≠ .disturbed →
    (t.acu.sections[k]).state = .prepared ∧ reset

section
variable {reset : Prop} {s t u : State}

theorem LeftByReset.of_same (h : t.acu.sections = s.acu.sections) : LeftByReset reset s t :=
  fun k was left => by rw [h] at left; exact absurd was left

theorem LeftByReset.refl (s : State) : LeftByReset reset s s := .of_same rfl

theorem LeftByReset.mono {other : Prop} (h : LeftByReset reset s t) (imp : reset → other) :
    LeftByReset other s t :=
  fun k was left => (h k was left).imp_right imp

/-- An operation that leaves the sections, after one that resets at most. -/
theorem LeftByReset.andSame (h : LeftByReset reset s t) (same : u.acu.sections = t.acu.sections) :
    LeftByReset reset s u := by
  unfold LeftByReset at h ⊢
  rwa [same]

/-- An operation that resets at most, after one that leaves the sections. -/
theorem LeftByReset.after (h : LeftByReset reset t u) (same : t.acu.sections = s.acu.sections) :
    LeftByReset reset s u := by
  unfold LeftByReset at h ⊢
  rwa [← same]

variable (s)

/-- Records rewritten so that DISTURBED stays. -/
theorem State.mapSections_leftByReset {f : Fin 32 → SectionRec → SectionRec}
    (stays : ∀ k r, r.state = .disturbed → (f k r).state = .disturbed) :
    LeftByReset reset s (s.mapSections f) := fun k was left => by
  rw [State.mapSections_sections, mapTab_get] at left
  exact absurd (stays k _ was) left

theorem State.prepare_leftByReset (k : Fin 32) :
    LeftByReset True s (s.updSection k SectionRec.prepare) := fun j was left => by
    rw [State.updSection_sections, upd_get] at left ⊢
    split
    · exact ⟨rfl, trivial⟩
    · next other => rw [if_neg other] at left; exact absurd was left

/-! ## Heads and sections -/

theorem State.countPassage_leftByReset (h : Fin 24) (p : Passage) :
    LeftByReset reset s (s.countPassage h p) := by
  refine (State.mapSections_leftByReset _ fun k r was => ?_).after (by simp)
  split
  · exact was
  · exact r.change_disturbed _ was

theorem State.sequenceError_leftByReset (h : Fin 24) (a b : Bool) :
    LeftByReset reset s (s.sequenceError h a b) := by
  refine (State.mapSections_leftByReset _ fun k r was => ?_).after (by simp)
  split
  · rfl
  · exact was

theorem State.decodeHead_leftByReset (h : Fin 24) (a b : Bool) :
    LeftByReset reset s (s.decodeHead h a b) := by
  simp only [State.decodeHead]
  split
  · exact .of_same (by simp)
  · split
    · exact .refl s
    · exact s.sequenceError_leftByReset h a b
    · split
      · exact .of_same (by simp)
      · exact (State.countPassage_leftByReset _ h _).after (by simp)

theorem State.headObservation_leftByReset (h : Fin 24) (a b : Bool) :
    LeftByReset reset s (s.headObservation h a b) := by
  unfold State.headObservation
  split
  · exact (State.decodeHead_leftByReset _ h a b).after (by simp)
  · exact .refl s

theorem State.sectionNotice_leftByReset (k : Fin 32) : LeftByReset reset s (s.sectionNotice k) := by
  have taken : LeftByReset reset s (s.updSection k SectionRec.noticed) := fun j was left => by
    rw [State.updSection_sections, upd_get] at left
    split at left
    · next here => subst here; exact absurd was left
    · exact absurd was left
  simp only [State.sectionNotice]
  split
  · exact taken.andSame (by simp)
  · exact .refl s

theorem State.takeSectionReset_leftByReset (n : Fin 4) (number : Byte) :
    LeftByReset True s (s.takeSectionReset n number) := by
  unfold State.takeSectionReset
  repeat' split
  · exact .refl s
  · exact s.prepare_leftByReset _
  · exact .refl s

theorem State.executeReset_leftByReset (k : Fin 32) (c : SectionCfg) :
    LeftByReset True s (s.executeReset k c) := by
  simp only [State.executeReset]
  split
  · exact (s.prepare_leftByReset k).andSame (by simp)
  · exact s.prepare_leftByReset k

/-! ## Neighbours -/

theorem State.reportEvent_leftByReset (n : Fin 4) (heads : List HeadEntry) :
    LeftByReset reset s (s.reportEvent n heads) := by
  unfold State.reportEvent
  extract_lets report bs counted renewed
  have reports : LeftByReset reset s counted := s.mapSections_leftByReset fun k r was =>
    r.reported_disturbed _ _ was
  exact reports.andSame (by simp [renewed])

theorem State.silenceEvent_leftByReset (n : Fin 4) : LeftByReset reset s (s.silenceEvent n) :=
  fun k was left => by
    rw [State.silenceEvent_sections] at left
    split at left
    · exact absurd rfl left
    · exact absurd was left

theorem State.silenceExpiry_leftByReset (n : Fin 4) : LeftByReset reset s (s.silenceExpiry n) := by
  unfold State.silenceExpiry
  split
  · exact s.silenceEvent_leftByReset n
  · exact .refl s

theorem State.hearStatus_leftByReset (n : Fin 4) (cfg : NeighbourCfg) (c : StatusContent) :
    LeftByReset reset s (s.hearStatus n cfg c) := by
  have heard : LeftByReset reset s ((s.updNeighbour n fun r =>
      { r with state := .alive, silence := .start cfg.silenceLimit, view := some c }).reportEvent n
        c.heads) := (State.reportEvent_leftByReset _ n c.heads).after (by simp)
  simp only [State.hearStatus]
  refine heard.andSame ?_
  split <;> split <;> simp

theorem State.takeStatus_leftByReset (n : Fin 4) (c : StatusContent) :
    LeftByReset reset s (s.takeStatus n c) := by
  unfold State.takeStatus
  repeat' split
  · exact .refl s
  · exact s.silenceEvent_leftByReset n
  · exact s.hearStatus_leftByReset n _ c

end

/-! ## Received telegrams -/

/-- SECTION_RESET is the payload of its own kind alone (R171). -/
theorem readPayload_sectionReset {kind x : Byte} {bs : List Byte}
    (h : readPayload kind bs = some (.sectionReset x)) : kind = kindSectionReset := by
  unfold readPayload at h
  split at h
  case h_10 _ _ _ code => exact BitVec.eq_of_toNat_eq code
  case h_1 =>
    obtain ⟨_, -, e⟩ := Option.map_eq_some_iff.1 h
    nomatch e
  all_goals nomatch h

/-- A frame that passes the checks carries the payload of its kind (R138). -/
theorem screened_payload {s : State} {kind : Byte} {f : Frame} {src : Source} {code : Word}
    {p : Payload} (h : screened s kind f = some (src, code, p)) :
    readPayload kind f.payload = some p := by
  unfold screened at h
  repeat' split at h
  all_goals cases h
  assumption

section
variable (s : State)

theorem State.deliver_leftByReset (seq : Byte) (src : Source) (p : Payload) :
    LeftByReset (∃ x, p = .sectionReset x) s (deliver seq src p s) := by
  unfold deliver
  split
  · exact s.takeStatus_leftByReset _ _
  case h_10 => exact (s.takeSectionReset_leftByReset _ _).mono fun _ => ⟨_, rfl⟩
  all_goals exact .of_same (by simp)

theorem State.collected_leftByReset (kind : Byte) (f : Frame) :
    LeftByReset (kind = kindSectionReset) s (s.collected kind f) := by
  unfold State.collected
  obtain ⟨-, e⟩ | ⟨_, _, _, -, -, e⟩ | ⟨_, _, -, -, e⟩ | ⟨src, p, screen, -, e⟩ :=
    receive_cases kind f s
  · rw [e]; exact .refl s
  · rw [e]; exact .of_same (by simp)
  · rw [e]; exact .of_same (by simp)
  · rw [e]
    have delivered := State.deliver_leftByReset (s.received src f) f.seq src p
    refine (delivered.after (by simp)).mono ?_
    rintro ⟨x, rfl⟩
    exact readPayload_sectionReset (screened_payload screen)

/-! ## Queued commands -/

theorem workConfirmReset_leftByReset (c : QueuedCommand) :
    LeftByReset True s (workConfirmReset s c).1 := by
  simp only [workConfirmReset]
  repeat' split
  · exact .refl s
  · exact .refl s
  · exact .refl s
  · exact .of_same (by simp)
  · exact .of_same (by simp)
  · exact (State.executeReset_leftByReset (s.setPendingReset none) _ _).after (by simp)

theorem State.runCommand_leftByReset {reset : Prop} (isRow : Byte → Bool)
    {work : State → QueuedCommand → State × Option Reason}
    (works : ∀ t c, LeftByReset reset t (work t c).1) :
    LeftByReset reset s (s.runCommand isRow work) := by
  obtain e | ⟨c, rest, -, -, e⟩ := s.runCommand_cases isRow work
  · rw [e]; exact .refl s
  · rw [e]
    exact ((works (s.taken rest) c).after rfl).andSame (by simp)

end

/-! ## The start-up loader -/

section
variable (s : State)

@[simp] theorem State.enterHalt_acu : s.enterHalt.acu = s.acu := by
  simp [State.enterHalt, State.dropCommands, State.dropTelegrams, State.dropHandover,
    State.dropLocks]

@[simp] theorem State.refuseImage_acu (code : Byte) (delivered : List Byte) :
    (s.refuseImage code delivered).acu = s.acu := by simp [State.refuseImage_eq]

theorem State.stop_acu (delivered : List Byte) : (s.stop delivered).acu = s.acu := by
  simp only [State.stop]
  split <;> simp [State.observeStop]

theorem State.configReadEnd_acu (delivered : List Byte) :
    (s.configReadEnd delivered).acu = s.acu := by
  unfold State.configReadEnd
  repeat' split
  · exact (s.acceptImage_accepted delivered).counts
  · exact s.refuseImage_acu _ delivered
  · rfl

theorem State.configReadTimeout_acu (delivered : List Byte) :
    (s.configReadTimeout delivered).acu = s.acu := by
  unfold State.configReadTimeout
  split
  · exact s.refuseImage_acu _ delivered
  · rfl

end

/-! ## Every command -/

/-- A row whose event may execute a section reset: CONFIRM_RESET, and a telegram of the kind
SECTION_RESET. -/
def ResetRow (i : Instr) : Prop :=
  i = .confirmReset ∨ ∃ f, telegramRow i = some (kindSectionReset, f)

theorem effect_leftByReset {i : Instr} {s u : State} (h : s.effect i = some u) :
    LeftByReset (ResetRow i) s u := by
  have collects {f : Frame} {kind : Byte} (row : telegramRow i = some (kind, f)) :
      LeftByReset (ResetRow i) s (s.collected kind f) :=
    (s.collected_leftByReset kind f).mono fun same => .inr ⟨f, same ▸ row⟩
  cases i
  case reset | quietTimerExpiry | statusPeriodExpiry | statusPacingEnd | displayPeriodExpiry
      | displayPacingEnd | transmitAttempt | telegramSent | attemptFailed | transmitGiveUp =>
    nomatch h
  all_goals cases h
  case configReadEnd d => exact .of_same (by rw [s.configReadEnd_acu])
  case configReadTimeout d => exact .of_same (by rw [s.configReadTimeout_acu])
  case stop d => exact .of_same (by rw [s.stop_acu])
  case headObservation x a b => exact s.headObservation_leftByReset x a b
  case sectionNotice k => exact s.sectionNotice_leftByReset k
  case silenceTimerExpiry n => exact s.silenceExpiry_leftByReset n
  case command | status | portionRequest | portionGrant | portionRefuse | portionRelease
      | flankRequest | flankGrant | flankRefuse | flankRelease | sectionReset
      | discardedTelegram => exact collects rfl
  case confirmReset =>
    exact s.runCommand_leftByReset _ fun t c =>
      (workConfirmReset_leftByReset t c).mono fun _ => .inl rfl
  case setRoute | cancelRoute | movePoint | block | resetSection | clearNeighbourBlock | clearFault
      | unknownCommand => exact s.runCommand_leftByReset _ fun t c => .of_same (by simp)
  all_goals exact .of_same (by simp)

/-- Settles O60: each own effect leaves DISTURBED by a reset alone, and what follows an own effect
leaves the sections; RESET makes every section DISTURBED (R25). -/
theorem disturbedIsLeftByAResetAlone : Obligations.DisturbedIsLeftByAResetAlone := by
  intro i s t k e
  suffices left : LeftByReset (ResetRow i) s t from left k
  cases h : s.effect i with
  | some u =>
    rw [exec_of_effect h] at e
    cases e
    exact (effect_leftByReset h).andSame (by simp)
  | none =>
    obtain ⟨-, rfl⟩ | ⟨-, rfl⟩ | lines := exec_without_effect h e
    · exact fun k _ left => absurd (by simp [State.resetKeeping, State.reset, AxleCount.reset]) left
    · unfold State.quietExpiry
      split
      · exact .of_same (by simp)
      · exact .refl s
    · exact .of_same (by rw [lines.acu])

end Sys2Proof.Machine
end

section
/-! The records of points: MOVE_POINT with its checks (R58, R60), the two timers of a move (R62,
R63), and a change of the detected position with its conditions (R56, R61, R64 to R66). -/

namespace Sys2Proof.Machine

open Sys2Proof

/-! ## Controllers and their records -/

@[simp] theorem Controller.target_moving (q : Position) :
    (Controller.moving q).target = some q := by
  cases q <;> rfl

theorem Controller.target_eq_none_iff (x : Controller) :
    x.target = none ↔ x = .rest ∨ x = .failed := by
  cases x <;> simp [Controller.target]

@[simp] theorem Position.other_ne (q : Position) : q.other ≠ q := by cases q <;> decide

theorem PointRec.restAt_iff (r : PointRec) (q : Position) :
    r.restAt q = true ↔ r.controller = .rest ∧ r.detected = detectedAt q := by
  simp [PointRec.restAt, PointRec.at]

theorem State.updPoint_congr {s : State} {p : Fin 16} {f g : PointRec → PointRec}
    (h : f s.pcu.points[p] = g s.pcu.points[p]) : s.updPoint p f = s.updPoint p g := by
  rw [State.updPoint, State.updPoint, upd_congr h]

/-- A request at a point that is not moving and not detected at the target: the move starts (R58,
R59). -/
theorem PointRec.request_starts {r : PointRec} {q : Position} (limit : Nat)
    (standing : r.controller = .rest ∨ r.controller = .failed)
    (elsewhere : r.detected ≠ detectedAt q) : r.request limit q = { r with
      controller := .moving q, chg := true, move := .start (10 * limit), settle := .stopped } := by
  obtain rest | failed := standing
  · simp [PointRec.request, rest, PointRec.startMove, PointRec.at, elsewhere]
  · simp [PointRec.request, failed, PointRec.startMove, PointRec.at, elsewhere]

/-- A request at a failed point that is detected at the target (R59). -/
theorem PointRec.request_rests {r : PointRec} {q : Position} (limit : Nat)
    (failed : r.controller = .failed) (there : r.detected = detectedAt q) :
    r.request limit q = { r with controller := .rest, chg := true } := by
  simp [PointRec.request, failed, PointRec.at, there]

/-! ## MOVE_POINT (R58, R60) -/

section
variable {s : State} {c : QueuedCommand} {p : Fin 16} {cfg : PointCfg} {q : Position}

theorem configured_entry {α : Type} {n : Nat} {t : Vector (Option α) n} {b : Byte} {k : Fin n}
    {x : α} (found : configured t b = some (k, x)) : t[k] = some x := by
  obtain ⟨i, -, entry⟩ := Option.bind_eq_some_iff.1 found
  obtain ⟨y, listed, same⟩ := Option.map_eq_some_iff.1 entry
  cases same
  exact listed

theorem positionArg_unknown {b : Byte} (normal : b ≠ 0) (reverse : b ≠ 1) :
    positionArg b = none := by
  unfold positionArg
  split
  · next h => exact absurd (BitVec.eq_of_toNat_eq h) normal
  · next h => exact absurd (BitVec.eq_of_toNat_eq h) reverse
  · rfl

theorem positionArg_code {b : Byte} (h : b = if q = .normal then 0 else 1) :
    positionArg b = some q := by
  subst h
  cases q <;> rfl

/-- No one holds the point and no flank claim stands at it (R60, check 1). -/
def PointLock.free (l : PointLock) : Prop := l.holder = none ∧ l.claimsN = 0 ∧ l.claimsR = 0

theorem State.trackFree_iff (listed : s.config.points[p] = some cfg) : s.trackFree p = true ↔
    (s.acu.sections[cfg.track]).state = .clear ∧ (s.acu.sections[cfg.track]).occ = false := by
  simp [State.trackFree, listed, SectionRec.isFree]

theorem PointLock.not_free_iff (l : PointLock) :
    ¬l.free ↔ l.holder.isSome = true ∨ l.claimsN ≠ 0 ∨ l.claimsR ≠ 0 := by
  rw [PointLock.free, not_and_or, not_and_or, ← ne_eq, ← Option.isSome_iff_ne_none]

theorem State.moveRefusal_notFree (taken : ¬(s.lku.points[p]).free) :
    s.moveRefusal p cfg q = some .pointNotFree :=
  if_pos ((PointLock.not_free_iff _).1 taken)

/-- Checks 2 to 6 of a point that is free (R60). -/
theorem State.moveRefusal_free (free : (s.lku.points[p]).free) : s.moveRefusal p cfg q =
    if (s.lku.points[p]).blocked then some .blocked
    else if !s.trackFree p then some .pointOccupied
    else if !cfg.individual then some .notPermitted
    else if (s.pcu.points[p]).restAt q then some .alreadyThere
    else if (s.pcu.points[p]).controller.target.isSome then some .busy
    else none :=
  if_neg fun taken => (PointLock.not_free_iff _).2 taken free

theorem State.requestMove_starts (still : (s.pcu.points[p]).controller.target = none)
    (elsewhere : (s.pcu.points[p]).detected ≠ detectedAt q) :
    s.requestMove p q = s.updPoint p fun x => { x with
      controller := .moving q, chg := true, move := .start (10 * moveLimit s.config p),
      settle := .stopped } :=
  State.updPoint_congr
    (PointRec.request_starts _ ((Controller.target_eq_none_iff _).1 still) elsewhere)

theorem State.requestMove_rests (failed : (s.pcu.points[p]).controller = .failed)
    (there : (s.pcu.points[p]).detected = detectedAt q) :
    s.requestMove p q = s.updPoint p fun x => { x with controller := .rest, chg := true } :=
  State.updPoint_congr (PointRec.request_rests _ failed there)

theorem workMovePoint_unknownPosition (unknown : positionArg c.arg2 = none) :
    workMovePoint s c = (s, some .unknownCommand) := by
  rw [workMovePoint, unknown]

theorem workMovePoint_unknown (position : positionArg c.arg2 = some q)
    (none : configured s.config.points c.arg1 = none) :
    workMovePoint s c = (s, some .unknownElement) := by
  simp only [workMovePoint, position, none]

theorem workMovePoint_refused {why : Reason} (position : positionArg c.arg2 = some q)
    (found : configured s.config.points c.arg1 = some (p, cfg))
    (refused : s.moveRefusal p cfg q = some why) : workMovePoint s c = (s, some why) := by
  simp only [workMovePoint, position, found, refused]

theorem workMovePoint_passed (position : positionArg c.arg2 = some q)
    (found : configured s.config.points c.arg1 = some (p, cfg))
    (passes : s.moveRefusal p cfg q = none) : workMovePoint s c = (s.requestMove p q, none) := by
  simp only [workMovePoint, position, found, passes]

end

/-- Settles O34: the checks by `State.moveRefusal`, one after the other, then the move request. -/
theorem movePointChecksThenMoves : Obligations.MovePointChecksThenMoves := by
  intro s c rest takes u answers
  have refuse {why : Reason} (works : workMovePoint u c = (u, some why)) :
      answers (u.refused c why) :=
    exec_rest (congrArg some (State.runCommand_refused takes (by decide) works))
  have finish {v : State} (works : workMovePoint u c = (v, none)) : answers (v.done c) :=
    exec_rest (congrArg some (State.runCommand_done takes (by decide) works))
  refine ⟨fun normal reverse =>
    refuse (workMovePoint_unknownPosition (positionArg_unknown normal reverse)), ?_⟩
  intro q code
  have position := positionArg_code code
  refine ⟨fun none => refuse (workMovePoint_unknown position none), ?_⟩
  intro p cfg found lock point free track clear there moving
  have listed : u.config.points[p] = some cfg := configured_entry found
  have limit : moveLimit u.config p = cfg.moveLimit := by simp [moveLimit, listed]
  have clear_iff : u.trackFree p = true ↔ clear := State.trackFree_iff listed
  have there_iff : point.restAt q = true ↔ there := point.restAt_iff q
  have moving_iff : point.controller.target.isSome = true ↔ moving := by
    cases h : point.controller <;> simp [Controller.target, moving, h]
  have checks (isFree : free) := State.moveRefusal_free (s := u) (cfg := cfg) (q := q) isFree
  have check {why : Reason} (refused : u.moveRefusal p cfg q = some why) :
      answers (u.refused c why) := refuse (workMovePoint_refused position found refused)
  have blocked_iff : (u.lku.points[p]).blocked = lock.blocked := rfl
  have moves (isFree : free) (unblocked : lock.blocked = false) (isClear : clear)
      (individual : cfg.individual = true) (elsewhere : ¬there) (standing : ¬moving) :
      workMovePoint u c = (u.requestMove p q, none) :=
    workMovePoint_passed position found (by
      rw [checks isFree, blocked_iff, unblocked, clear_iff.2 isClear, individual]
      exact (if_neg (mt there_iff.1 elsewhere)).trans (if_neg (mt moving_iff.1 standing)))
  refine ⟨fun taken => check (State.moveRefusal_notFree taken), fun isFree blocked => check ?_,
    fun isFree unblocked occupied => check ?_,
    fun isFree unblocked isClear fixed => check ?_,
    fun isFree unblocked isClear individual already => check ?_,
    fun isFree unblocked isClear individual busy => check ?_,
    fun isFree unblocked isClear individual standing elsewhere => ?_,
    fun isFree unblocked isClear individual failed detected => ?_⟩
  · rw [checks isFree, blocked_iff, blocked]
    rfl
  · rw [checks isFree, blocked_iff, unblocked,
      Bool.eq_false_of_not_eq_true (mt clear_iff.1 occupied)]
    rfl
  · rw [checks isFree, blocked_iff, unblocked, clear_iff.2 isClear, fixed]
    rfl
  · rw [checks isFree, blocked_iff, unblocked, clear_iff.2 isClear, individual]
    exact if_pos (there_iff.2 already)
  · rw [checks isFree, blocked_iff, unblocked, clear_iff.2 isClear, individual]
    have away : ¬there := fun ⟨rest, _⟩ => by
      obtain moves | moves := busy
      · cases rest.symm.trans moves
      · cases rest.symm.trans moves
    exact (if_neg (mt there_iff.1 away)).trans (if_pos (moving_iff.2 busy))
  · rw [← limit]
    have still : point.controller.target = none :=
      Option.not_isSome_iff_eq_none.1 (mt moving_iff.1 standing)
    exact finish ((moves isFree unblocked isClear individual (fun h => elsewhere h.2)
      standing).trans (congrArg (·, none) (State.requestMove_starts (s := u) still elsewhere)))
  · have standing : ¬moving := fun busy => by
      obtain moves | moves := busy
      · cases failed.symm.trans moves
      · cases failed.symm.trans moves
    exact finish ((moves isFree unblocked isClear individual
      (fun h => nomatch failed.symm.trans h.1) standing).trans
      (congrArg (·, none) (State.requestMove_rests (s := u) failed detected)))

/-! ## The timers of a move (R62, R63) -/

section
variable {s : State} {p : Fin 16} {q : Position}

theorem State.settleExpiry_due (due : (s.pcu.points[p]).settle.due = true)
    (moving : (s.pcu.points[p]).controller = .moving q) :
    s.settleExpiry p = s.updPoint p (PointRec.complete (moveLimit s.config p)) :=
  if_pos ⟨due, by rw [moving, Controller.target_moving]; rfl⟩

theorem State.moveExpiry_due (due : (s.pcu.points[p]).move.due = true)
    (moving : (s.pcu.points[p]).controller = .moving q) :
    s.moveExpiry p = (s.updPoint p PointRec.fail).setFault .pointTimeout (byteOf p.val) :=
  if_pos ⟨due, by rw [moving, Controller.target_moving]; rfl⟩

/-- A completed move without another target to go to (R62). -/
theorem PointRec.complete_rests {r : PointRec} (limit : Nat) (moving : r.controller = .moving q)
    (held : r.held = none ∨ r.held = some q) : r.complete limit = { r with
      controller := .rest, chg := true, move := .stopped, settle := .stopped, held := none } := by
  obtain none | same := held
  · simp [PointRec.complete, moving, none]
  · simp [PointRec.complete, moving, same]

/-- A completed move with the other position held: the move toward it starts (R58, R62). -/
theorem PointRec.complete_goesOn {r : PointRec} (limit : Nat) (moving : r.controller = .moving q)
    (held : r.held = some q.other) : r.complete limit = { r with
      controller := .moving q.other
      chg := true
      move := .start (10 * limit)
      settle := if r.detected = detectedAt q.other then .start 3 else .stopped
      held := none } := by
  simp [PointRec.complete, moving, held, PointRec.startMove, PointRec.at, Config.settleTime]

end

/-- Settles O18: the completion of the move by the held target, and its failure. -/
theorem timersEndTheMoveOfAPoint : Obligations.TimersEndTheMoveOfAPoint := by
  intro s p q moving
  have settles {f : PointRec → PointRec} (due : (s.pcu.points[p]).settle.due = true)
      (completes : (s.pcu.points[p]).complete (moveLimit s.config p) = f s.pcu.points[p]) :
      ∃ t, exec (.settleTimerExpiry p) s = .next t ∧ RestOfEvent s (s.updPoint p f) t :=
    exec_rest (congrArg some ((State.settleExpiry_due due moving).trans
      (State.updPoint_congr completes)))
  refine ⟨fun due => ⟨fun held => settles due (PointRec.complete_rests _ moving held),
    fun held => settles due (PointRec.complete_goesOn _ moving held)⟩, fun due ordered => ?_⟩
  have effect : s.effect (.moveTimerExpiry p) =
      some ((s.updPoint p PointRec.fail).setFault .pointTimeout (byteOf p.val)) :=
    congrArg some (State.moveExpiry_due due moving)
  exact ⟨_, exec_of_effect effect,
    (State.finish_orderly s _).order ((effect_orderly effect).order ordered), s.finish_rest _⟩

/-! ## A change of the detected position (R56, R61, R64 to R66) -/

section
variable (s : State) (p : Fin 16) (old new : Detected)

/-- A state differs from another in its conditions alone. -/
def State.FaultsOnly (s t : State) : Prop :=
  ∃ faults, t = { s with cmu := { s.cmu with faults := faults } }

section
variable {s : State}

theorem State.FaultsOnly.refl : s.FaultsOnly s := ⟨_, rfl⟩

theorem State.FaultsOnly.ite {t u : State} {c : Prop} [Decidable c] (h : s.FaultsOnly t)
    (k : s.FaultsOnly u) : s.FaultsOnly (if c then t else u) := by
  split
  · exact h
  · exact k

theorem State.FaultsOnly.setFault {t : State} (h : s.FaultsOnly t) (kind : FaultKind) (e : Byte) :
    s.FaultsOnly (t.setFault kind e) := by
  obtain ⟨_, rfl⟩ := h
  exact ⟨_, rfl⟩

theorem State.FaultsOnly.clearFault {t : State} (h : s.FaultsOnly t) (kind : FaultKind)
    (e : Byte) : s.FaultsOnly (t.clearFault kind e) := by
  obtain ⟨_, rfl⟩ := h
  exact ⟨_, rfl⟩

theorem State.FaultsOnly.eq {t : State} (h : s.FaultsOnly t) :
    t = { s with cmu := { s.cmu with faults := t.cmu.faults } } := by
  obtain ⟨_, rfl⟩ := h
  rfl

end

/-- The conditions of a point alone are moved. -/
theorem State.detectionFaults_only : s.FaultsOnly (s.detectionFaults p old new) := by
  have ended : s.FaultsOnly (if new.isEnd then
      (s.clearFault .pointLost (byteOf p.val)).clearFault .pointContradiction (byteOf p.val)
      else s) := ((State.FaultsOnly.refl.clearFault _ _).clearFault _ _).ite .refl
  have closed := (ended.setFault .pointContradiction (byteOf p.val)).ite (c := new = .both) ended
  have lost := (closed.setFault .pointLost (byteOf p.val)).ite (c := new = .none) closed
  exact (lost.ite (lost.setFault .trailed (byteOf p.val))).ite closed

@[simp] theorem Detected.isEnd_values : Detected.normal.isEnd = true ∧
    Detected.reverse.isEnd = true ∧ Detected.none.isEnd = false ∧ Detected.both.isEnd = false :=
  ⟨rfl, rfl, rfl, rfl⟩

theorem Detected.isEnd_iff (x : Detected) : x.isEnd = true ↔ x = .normal ∨ x = .reverse := by
  cases x <;> simp [Detected.isEnd]

theorem Detected.ne_of_isEnd (x : Detected) (atEnd : x.isEnd = true) :
    x ≠ .both ∧ x ≠ .none := by
  obtain rfl | rfl := x.isEnd_iff.1 atEnd <;> decide

theorem State.unsupervised_iff : s.unsupervised p = true ↔ s.sld.station = .halt ∨
    (s.pcu.points[p]).controller = .rest ∨ (s.pcu.points[p]).controller = .failed := by
  simp [State.unsupervised, Controller.target_eq_none_iff]

/-- Between the ends, both contacts closed: the contradiction alone (R65). -/
theorem State.detectionFaults_both : s.detectionFaults p old .both =
    s.setFault .pointContradiction (byteOf p.val) := by
  simp [State.detectionFaults]

/-- No contact closed: an end position left without supervision is lost, and trailed where the track
section is not free (R64, R66). -/
theorem State.detectionFaults_none : s.detectionFaults p old .none =
    if s.unsupervised p && old.isEnd then
      if s.trackFree p then s.setFault .pointLost (byteOf p.val)
      else (s.setFault .pointLost (byteOf p.val)).setFault .trailed (byteOf p.val)
    else s := by
  have moves : (Detected.none != .both) = true := rfl
  simp only [State.detectionFaults, moves, Bool.and_true]
  rfl

/-- An end position reached: the two conditions end, and it is trailed where another end was left
without supervision while the track section is not free (R64 to R66). -/
theorem State.detectionFaults_end (atEnd : new.isEnd = true) : s.detectionFaults p old new =
    let t := (s.clearFault .pointLost (byteOf p.val)).clearFault .pointContradiction (byteOf p.val)
    if s.unsupervised p && old.isEnd then
      if s.trackFree p then t else t.setFault .trailed (byteOf p.val)
    else t := by
  have ends := new.ne_of_isEnd atEnd
  have moves : (new != .both) = true := bne_iff_ne.2 ends.1
  simp only [State.detectionFaults, atEnd, moves, ends, if_true, if_false, Bool.and_true]
  rfl

theorem State.mem_detectionFaults (c : Condition) :
    c ∈ (s.detectionFaults p old new).cmu.faults ↔
      (c ∈ s.cmu.faults ∧ ¬(new.isEnd = true ∧
        (c = ⟨.pointLost, byteOf p.val⟩ ∨ c = ⟨.pointContradiction, byteOf p.val⟩))) ∨
      (new = .both ∧ c = ⟨.pointContradiction, byteOf p.val⟩) ∨
      ((s.unsupervised p && old.isEnd) = true ∧
        ((new = .none ∧ c = ⟨.pointLost, byteOf p.val⟩) ∨
          (new ≠ .both ∧ s.trackFree p = false ∧ c = ⟨.trailed, byteOf p.val⟩))) := by
  generalize judged : (s.unsupervised p && old.isEnd) = j
  generalize free : s.trackFree p = f
  cases atEnd : new.isEnd with
  | true =>
    have ends := new.ne_of_isEnd atEnd
    rw [State.detectionFaults_end s p old new atEnd, judged, free]
    cases j <;> cases f <;> simp [ends]
    all_goals tauto
  | false =>
    cases new with
    | normal | reverse => nomatch atEnd
    | none =>
      rw [State.detectionFaults_none, judged, free]
      cases j <;> cases f <;> simp
      all_goals tauto
    | both =>
      rw [State.detectionFaults_both]
      simp [or_comm]

/-- A change of the detected position at the point record, with any reading of R61 that agrees with
the model's at that record (R56, R61). -/
theorem State.detect_eq {settles : PointRec → Timer} (was : (s.pcu.points[p]).detected = old)
    (moved : new ≠ old)
    (follows : settles s.pcu.points[p] = (s.pcu.points[p]).settleOn new) :
    s.detect p new = { s with cmu := { s.cmu with
        faults := (s.detectionFaults p old new).cmu.faults } }.updPoint p fun c => { c with
      detected := new
      chg := true
      settle := if s.sld.station = StationState.run then settles c else c.settle } := by
  subst was
  rw [← (s.detectionFaults_only p _ new).eq, State.detect]
  refine (if_neg moved).trans (State.updPoint_congr ?_)
  simp only [State.detectionFaults_keeps, beq_iff_eq, follows]

end

/-- Settles O17: the record by `State.detect_eq`, the conditions by `State.mem_detectionFaults`. -/
theorem detectionChangeIsSupervised : Obligations.DetectionChangeIsSupervised := by
  intro s p n r old new listed was pair moved e unsupervised atEnd settles
  let seen := s.observePoint p n r
  have same : seen.cmu = s.cmu ∧ seen.sld = s.sld ∧ seen.pcu = s.pcu ∧ seen.acu = s.acu ∧
    seen.config = s.config := by simp [seen]
  obtain ⟨cmu, sld, pcu, acu, config⟩ := same
  have free : seen.trackFree p = s.trackFree p := by
    rw [State.trackFree, State.trackFree, config, acu]
  have judged : (seen.unsupervised p && old.isEnd) = true ↔ unsupervised ∧ atEnd old := by
    rw [Bool.and_eq_true, seen.unsupervised_iff, old.isEnd_iff, sld, pcu]
  have faults (c : Condition) := seen.mem_detectionFaults p old new c
  simp only [cmu, free, judged, new.isEnd_iff] at faults
  have follows : settles seen.pcu.points[p] = (seen.pcu.points[p]).settleOn new := by
    subst was
    rfl
  have effect : s.detectionObservation p n r = seen.detect p new := by
    rw [State.detectionObservation, if_pos listed, pair]
  rw [State.detect_eq seen p old new was moved follows, cmu, sld] at effect
  obtain ⟨t, ends, event⟩ := exec_rest (i := .detectionObservation p n r) (congrArg some effect)
  refine ⟨t, _, ends, event, (faults _).trans ?_, (faults _).trans ?_, (faults _).trans ?_,
    fun c lost contradiction trailed => (faults c).trans ?_⟩
  · simp [e, and_assoc, atEnd]
  · simp [e, atEnd]
  · simp [e, and_assoc, atEnd]
  · simp [lost, contradiction, trailed, e]

end Sys2Proof.Machine
end

section
/-! The tests that a point notice makes: the completion test of a route, spelled out, and of several
(R84, R90), the proving test of a hosted portion (R154), and the proven state of grants (R129). -/

namespace Sys2Proof.Machine

open Sys2Proof

/-! ## The conditions of the tests -/

section
variable {s : State}

theorem State.pointsRestAt_iff (ps : List (Fin 16 × Position)) : s.pointsRestAt ps = true ↔
    ∀ q ∈ ps, (s.pcu.points[q.1]).controller = .rest ∧
      (s.pcu.points[q.1]).detected = detectedAt q.2 := by
  simp only [State.pointsRestAt, List.all_eq_true, PointRec.restAt_iff]

/-- The points that an owner must find at rest, spelled out (R84, R154). -/
theorem State.mem_ownPoints {o : Owner} {plan : Plan} (planned : planOf s.config o = some plan)
    (q : Fin 16 × Position) : q ∈ s.ownPoints o ↔ q ∈ plan.points ∨
      ((s.holdOf o).overlap = .held ∧ q ∈ plan.overlapPoints) ∨
      q ∈ flankPoints s.config (s.holdOf o).flank := by
  simp only [State.ownPoints, pointsOf, overlapPointsOf, planned, Option.map_some,
    Option.getD_some, List.mem_append, List.mem_ite_nil_right]

/-- The completion test, spelled out (R84). -/
theorem State.complete_iff {r : Fin 64} {c : RouteCfg} (listed : s.config.routes[r] = some c) :
    s.complete r = true ↔
      (∀ q, q ∈ c.plan.points ∨
          ((s.lku.routes[r]).hold.overlap = .held ∧ q ∈ c.plan.overlapPoints) ∨
          q ∈ flankPoints s.config (s.lku.routes[r]).hold.flank →
        (s.pcu.points[q.1]).controller = .rest ∧
          (s.pcu.points[q.1]).detected = detectedAt q.2) ∧
      ∀ k, k ∈ (s.lku.routes[r]).offers → ∃ o, s.hou.offers[k] = some o ∧ o.state = .granted := by
  have planned : planOf s.config (.route r) = some c.plan := by rw [planOf, listed]; rfl
  have points := State.mem_ownPoints (s := s) planned
  simp only [State.complete, Bool.and_eq_true, State.pointsRestAt_iff, points, List.all_eq_true,
    Option.any_eq_true, beq_iff_eq]
  rfl

/-- The proving test of a hosted portion, spelled out (R154). -/
theorem State.portionProves_iff {x : Fin 16} {c : PortionCfg}
    (listed : s.config.portions[x] = some c) :
    let hold := (s.hou.portions[x]).hold
    s.portionProves x = true ↔
      (∀ q, q ∈ c.plan.points ∨ (hold.overlap = .held ∧ q ∈ c.plan.overlapPoints) ∨
          q ∈ flankPoints s.config hold.flank →
        (s.pcu.points[q.1]).controller = .rest ∧
          (s.pcu.points[q.1]).detected = detectedAt q.2) ∧
      (∀ k, k ∈ c.plan.path ∨ (hold.overlap = .held ∧ k ∈ c.plan.overlap) →
        s.proves k = true ∧ (s.acu.sections[k]).occ = false) ∧
      ∀ g, g ∈ flankSignals s.config hold.flank →
        s.lit g .red = true ∧ (s.lampRec g .red).failed = false := by
  intro hold
  have planned : planOf s.config (.portion x) = some c.plan := by rw [planOf, listed]; rfl
  have points := State.mem_ownPoints (s := s) planned
  have free (k : Fin 32) : s.provesFree k = true ↔
      s.proves k = true ∧ (s.acu.sections[k]).occ = false := by
    rw [State.provesFree, Bool.and_eq_true, Bool.not_eq_true']
  have red (g : Fin 16) : s.redProved g = true ↔
      s.lit g .red = true ∧ (s.lampRec g .red).failed = false := by
    rw [State.redProved, Bool.and_eq_true, Bool.not_eq_true']
  have held : s.holdOf (.portion x) = hold := rfl
  have overlaps (P : Prop) : (hold.overlap ≠ .held ∨ P) ↔ (hold.overlap = .held → P) :=
    imp_iff_not_or.symm
  simp only [State.portionProves, pathOf, overlapOf, planned, Option.map_some, Option.getD_some,
    Bool.and_eq_true, Bool.or_eq_true, bne_iff_ne, State.pointsRestAt_iff, points,
    List.all_eq_true, held, free, red, overlaps]
  rw [and_assoc, and_assoc, and_congr_right fun _ => ?_]
  rw [← and_assoc, and_congr_left fun _ => ?_]
  exact ⟨fun ⟨path, overlap⟩ k mem => mem.elim (path k) fun ⟨now, mem⟩ => overlap now k mem,
    fun h => ⟨fun k mem => h k (.inl mem), fun now k mem => h k (.inr ⟨now, mem⟩)⟩⟩

end

/-! ## Completion tests (R84, R90) -/

section
variable (s : State)

theorem State.complete_congr {s t : State} {r : Fin 64} (config : t.config = s.config)
    (rest : t.pointsRestAt = s.pointsRestAt) (route : t.lku.routes[r] = s.lku.routes[r])
    (offers : t.hou.offers = s.hou.offers) : t.complete r = s.complete r := by
  have hold : t.holdOf (.route r) = s.holdOf (.route r) := congrArg RouteRec.hold route
  simp only [State.complete, State.ownPoints]
  rw [config, rest, hold, route, offers]

/-- A route in SETTING whose completion test passes (R84). -/
def State.ready (s : State) (r : Fin 64) : Prop :=
  (s.lku.routes[r]).state = .setting ∧ s.complete r = true

theorem State.completionTest_ready {s : State} {r : Fin 64} (ready : s.ready r) :
    s.completionTest r =
      (s.updRoute r fun c => { c with state := .locked, setting := .stopped }).clearFault
        .settingFailed (byteOf r.val) := if_pos ready

theorem State.completionTest_waiting {s : State} {r : Fin 64} (waiting : ¬s.ready r) :
    s.completionTest r = s := if_neg waiting

/-- The test of a route leaves the others. -/
theorem State.completionTest_other {r q : Fin 64} (other : r ≠ q) :
    (s.completionTest r).lku.routes[q] = s.lku.routes[q] := by
  by_cases ready : s.ready r
  · simp only [State.completionTest_ready ready, State.clearFault_keeps, State.updRoute_routes]
    exact upd_other _ _ _ _ other
  · rw [State.completionTest_waiting ready]

theorem State.completionTest_ready_other {r q : Fin 64} (other : r ≠ q) :
    (s.completionTest r).ready q ↔ s.ready q := by
  have route := s.completionTest_other other
  have rest : (s.completionTest r).pointsRestAt = s.pointsRestAt := by
    funext ps
    simp [State.pointsRestAt]
  rw [State.ready, State.ready, route, State.complete_congr (by simp) rest route (by simp)]

/-- The routes after the completion tests of a list without repeats. -/
theorem State.completionTests_route (rs : List (Fin 64)) (once : rs.Nodup) (q : Fin 64) :
    (q ∈ rs ∧ s.ready q → (s.completionTests rs).lku.routes[q] =
      { s.lku.routes[q] with state := .locked, setting := .stopped }) ∧
    (¬(q ∈ rs ∧ s.ready q) → (s.completionTests rs).lku.routes[q] = s.lku.routes[q]) := by
  unfold State.completionTests
  induction rs generalizing s with
  | nil => simp
  | cons x xs ih =>
    obtain ⟨new, once⟩ := List.nodup_cons.1 once
    obtain ⟨locks, stays⟩ := ih (s.completionTest x) once
    rw [State.forEach_cons, List.mem_cons]
    by_cases same : x = q
    · subst same
      rw [stays fun h => new h.1]
      refine ⟨fun ⟨_, ready⟩ => ?_, fun waits => ?_⟩
      · simp only [State.completionTest_ready ready, State.clearFault_keeps, State.updRoute_routes]
        exact upd_same _ _ _
      · rw [State.completionTest_waiting fun ready => waits ⟨.inl rfl, ready⟩]
    · rw [s.completionTest_ready_other same, s.completionTest_other same] at locks stays
      rw [or_iff_right (Ne.symm same)]
      exact ⟨locks, stays⟩

/-- The conditions after the completion tests of a list without repeats (R84). -/
theorem State.mem_completionTests (rs : List (Fin 64)) (once : rs.Nodup) (c : Condition) :
    c ∈ (s.completionTests rs).cmu.faults ↔ c ∈ s.cmu.faults ∧
      ¬∃ r ∈ rs, s.ready r ∧ c = ⟨.settingFailed, byteOf r.val⟩ := by
  unfold State.completionTests
  induction rs generalizing s with
  | nil => simp
  | cons x xs ih =>
    obtain ⟨new, once⟩ := List.nodup_cons.1 once
    have later (r : Fin 64) (mem : r ∈ xs) : (s.completionTest x).ready r ↔ s.ready r :=
      s.completionTest_ready_other fun same => new (same ▸ mem)
    have tail : (∃ r ∈ xs, (s.completionTest x).ready r ∧ c = ⟨.settingFailed, byteOf r.val⟩) ↔
        ∃ r ∈ xs, s.ready r ∧ c = ⟨.settingFailed, byteOf r.val⟩ :=
      exists_congr fun r => and_congr_right fun mem => by rw [later r mem]
    rw [State.forEach_cons, ih _ once, tail]
    simp only [List.mem_cons, exists_eq_or_imp, not_or]
    rw [← and_assoc, and_congr_left fun _ => ?_]
    by_cases ready : s.ready x
    · rw [State.completionTest_ready ready, State.clearFault_faults, mem_clearCondition]
      exact and_congr_right fun _ => not_congr (iff_and_self.2 fun _ => ready)
    · rw [State.completionTest_waiting ready]
      exact (and_iff_left fun h => ready h.1).symm

/-- Completion tests touch no more than routes and conditions. -/
theorem State.completionTests_form (rs : List (Fin 64)) :
    ∃ routes faults, s.completionTests rs = { s with
      lku := { s.lku with routes := routes }, cmu := { s.cmu with faults := faults } } := by
  refine State.forEach_induct (fun t => ∃ routes faults, t =
    { s with lku := { s.lku with routes := routes }, cmu := { s.cmu with faults := faults } }) _
    (fun t r form => ?_) s rs ⟨_, _, rfl⟩
  obtain ⟨_, _, rfl⟩ := form
  rw [State.completionTest]
  split
  · exact ⟨_, _, rfl⟩
  · exact ⟨_, _, rfl⟩

/-- Proving tests touch no more than portions. -/
theorem State.provingTests_form (ps : List (Fin 16)) :
    ∃ portions, s.provingTests ps = { s with hou := { s.hou with portions := portions } } := by
  refine State.forEach_induct
    (fun t => ∃ portions, t = { s with hou := { s.hou with portions := portions } }) _
    (fun t x form => ?_) s ps ⟨_, rfl⟩
  obtain ⟨_, rfl⟩ := form
  exact ⟨_, rfl⟩

end

/-! ## What a point bears on (R90, R129, R154) -/

section
variable (s : State) (p : Fin 16)

theorem State.mem_routesOn (r : Fin 64) : r ∈ s.routesOn p ↔ (s.lku.routes[r]).state = .setting ∧
    ((s.ownPoints (.route r)).any fun q => q.1 == p) = true := by
  rw [State.routesOn, List.mem_filter, Bool.and_eq_true, beq_iff_eq]
  exact and_iff_right (List.mem_finRange r)

theorem State.mem_portionsOn (x : Fin 16) : x ∈ s.portionsOn p ↔
    ((s.ownPoints (.portion x)).any fun q => q.1 == p) = true := by
  rw [State.portionsOn, List.mem_filter]
  exact and_iff_right (List.mem_finRange x)

theorem State.nodup_routesOn : (s.routesOn p).Nodup := (List.nodup_finRange 64).filter _

theorem State.nodup_portionsOn : (s.portionsOn p).Nodup := (List.nodup_finRange 16).filter _

theorem FlankElement.isPoint_iff (x : FlankElement) :
    FlankElement.isPoint p x = true ↔ ∃ q, x = .point p q := by
  cases x with
  | point y q => simp [FlankElement.isPoint]
  | signal g => simp [FlankElement.isPoint]
  | remotePoint m q => simp [FlankElement.isPoint]
  | remoteSignal m => simp [FlankElement.isPoint]

/-- The grants of a state tested for a point (R129). -/
theorem State.proveGrants_isPoint (k : Fin 8) :
    (s.hou.grants[k] = none → (s.proveGrants (FlankElement.isPoint p)).hou.grants[k] = none) ∧
    ∀ x, s.hou.grants[k] = some x →
      ((∃ q, elementOf s.config x.used = some (.point p q)) →
        (s.proveGrants (FlankElement.isPoint p)).hou.grants[k] =
          some { x with proven := s.entryProven x.used }) ∧
      ((¬∃ q, elementOf s.config x.used = some (.point p q)) →
        (s.proveGrants (FlankElement.isPoint p)).hou.grants[k] = some x) := by
  have names (x : Grant) : (elementOf s.config x.used).any (FlankElement.isPoint p) = true ↔
      ∃ q, elementOf s.config x.used = some (.point p q) := by
    simp only [Option.any_eq_true, FlankElement.isPoint_iff]
    exact ⟨fun ⟨_, used, q, is⟩ => ⟨q, used.trans (congrArg some is)⟩,
      fun ⟨q, used⟩ => ⟨_, used, q, rfl⟩⟩
  have record : (s.proveGrants (FlankElement.isPoint p)).hou.grants[k] =
      (s.hou.grants[k]).map fun x =>
        if (elementOf s.config x.used).any (FlankElement.isPoint p) then
          { x with proven := s.entryProven x.used } else x := mapTab_get _ _ k
  rw [record]
  refine ⟨fun none => by rw [none]; rfl, fun x stands => ?_⟩
  rw [stands, Option.map_some]
  exact ⟨fun named => by rw [if_pos ((names x).2 named)],
    fun other => by rw [if_neg fun named => other ((names x).1 named)]⟩

end

/-! ## The notice -/

section
variable (s : State) (p : Fin 16)

/-- The taking of a point notice clears CHG (R67). -/
def State.pointNoticed : State := s.updPoint p fun c => { c with chg := false }

/-- The completion tests of the routes that a noticed point bears on. -/
def State.routesTested : State :=
  (s.pointNoticed p).completionTests ((s.pointNoticed p).routesOn p)

/-- Then the proving tests of the hosted portions that it bears on. -/
def State.portionsTested : State :=
  (s.routesTested p).provingTests ((s.routesTested p).portionsOn p)

theorem State.pointNotice_eq {s : State} {p : Fin 16} (running : s.sld.station = .run)
    (present : (s.config.points[p]).isSome = true) (changed : (s.pcu.points[p]).chg = true) :
    s.pointNotice p = (s.portionsTested p).proveGrants (FlankElement.isPoint p) :=
  if_pos ⟨running, present, changed⟩

theorem State.pointNoticed_point (q : Fin 16) :
    ((s.pointNoticed p).pcu.points[q]).controller = (s.pcu.points[q]).controller ∧
    ((s.pointNoticed p).pcu.points[q]).detected = (s.pcu.points[q]).detected := by
  rw [State.pointNoticed, State.updPoint_points, upd_get]
  split
  · exact ⟨rfl, rfl⟩
  · exact ⟨rfl, rfl⟩

theorem State.pointNoticed_at (q : Fin 16) (x : Position) :
    ((s.pointNoticed p).pcu.points[q]).at x = (s.pcu.points[q]).at x ∧
    ((s.pointNoticed p).pcu.points[q]).restAt x = (s.pcu.points[q]).restAt x := by
  obtain ⟨controller, detected⟩ := s.pointNoticed_point p q
  rw [PointRec.restAt, PointRec.restAt, PointRec.at, PointRec.at, controller, detected]
  exact ⟨rfl, rfl⟩

theorem State.pointNoticed_rest : (s.pointNoticed p).pointsRestAt = s.pointsRestAt := by
  funext ps
  simp only [State.pointsRestAt, (s.pointNoticed_at p _ _).2]

theorem State.pointNoticed_complete (r : Fin 64) :
    (s.pointNoticed p).complete r = s.complete r :=
  State.complete_congr rfl (s.pointNoticed_rest p) rfl rfl

theorem State.pointNoticed_portionProves (x : Fin 16) :
    (s.pointNoticed p).portionProves x = s.portionProves x := by
  unfold State.portionProves
  rw [s.pointNoticed_rest p]
  rfl

theorem State.pointNoticed_entryProven : (s.pointNoticed p).entryProven = s.entryProven := by
  funext e
  unfold State.entryProven
  simp only [(s.pointNoticed_at p _ _).1]
  rfl

/-- A route that the notice of a point locks (R84, R90). -/
def State.locks (s : State) (p : Fin 16) (r : Fin 64) : Prop :=
  (s.lku.routes[r]).state = .setting ∧
    ((s.ownPoints (.route r)).any fun q => q.1 == p) = true ∧ s.complete r = true

theorem State.locks_iff (r : Fin 64) : s.locks p r ↔
    r ∈ (s.pointNoticed p).routesOn p ∧ (s.pointNoticed p).ready r := by
  rw [State.mem_routesOn, State.ready, s.pointNoticed_complete]
  exact ⟨fun ⟨setting, bears, complete⟩ => ⟨⟨setting, bears⟩, setting, complete⟩,
    fun ⟨⟨setting, bears⟩, _, complete⟩ => ⟨setting, bears, complete⟩⟩

theorem State.routesTested_route (r : Fin 64) :
    (s.locks p r → (s.routesTested p).lku.routes[r] =
      { s.lku.routes[r] with state := .locked, setting := .stopped }) ∧
    (¬s.locks p r → (s.routesTested p).lku.routes[r] = s.lku.routes[r]) := by
  rw [State.locks_iff]
  exact (s.pointNoticed p).completionTests_route _ (State.nodup_routesOn _ p) r

theorem State.mem_routesTested_faults (c : Condition) :
    c ∈ (s.routesTested p).cmu.faults ↔ c ∈ s.cmu.faults ∧
      ¬∃ r, s.locks p r ∧ c = ⟨.settingFailed, byteOf r.val⟩ := by
  simp only [State.locks_iff, and_assoc]
  exact (s.pointNoticed p).mem_completionTests _ (State.nodup_routesOn _ p) c

/-- The completion tests leave what a proving test reads. -/
theorem State.routesTested_portionProves (x : Fin 16) :
    (s.routesTested p).portionProves x = s.portionProves x := by
  rw [← s.pointNoticed_portionProves p]
  exact State.portionProves_congr (by simp [State.routesTested]) (by simp [State.routesTested])
    (by simp [State.routesTested]) (by simp [State.routesTested]) (by simp [State.routesTested])
    (by simp [State.routesTested]) x (by simp [State.routesTested])

theorem State.portionsTested_entryProven : (s.portionsTested p).entryProven = s.entryProven := by
  rw [← s.pointNoticed_entryProven p]
  exact State.entryProven_congr (by simp [State.portionsTested, State.routesTested])
    (by simp [State.portionsTested, State.routesTested])
    (by simp [State.portionsTested, State.routesTested])
    (by simp [State.portionsTested, State.routesTested])

theorem State.routesTested_keeps : (s.routesTested p).hou = s.hou ∧
    (s.routesTested p).config = s.config := by
  simp [State.routesTested, State.pointNoticed]

theorem State.portionsTested_keeps : (s.portionsTested p).hou.grants = s.hou.grants ∧
    (s.portionsTested p).config = s.config := by
  simp [State.portionsTested, s.routesTested_keeps p]

/-- A hosted portion that a noticed point bears on is tested, and no other (R154). -/
theorem State.portionsTested_portion (x : Fin 16) :
    let tested := ((s.ownPoints (.portion x)).any fun q => q.1 == p) = true ∧
      (s.hou.portions[x]).state.provable
    (tested → (s.portionsTested p).hou.portions[x] = { s.hou.portions[x] with
      state := if s.portionProves x then .proven else .setting }) ∧
    (¬tested → (s.portionsTested p).hou.portions[x] = s.hou.portions[x]) := by
  intro tested
  obtain ⟨hou, config⟩ := s.routesTested_keeps p
  have own : (s.routesTested p).ownPoints (.portion x) = s.ownPoints (.portion x) := by
    have hold : (s.routesTested p).holdOf (.portion x) = s.holdOf (.portion x) := by
      simp only [State.holdOf, hou]
    rw [State.ownPoints, State.ownPoints, hold, config]
  rw [State.portionsTested, State.provingTests_portion _ _ (State.nodup_portionsOn _ p),
    s.routesTested_portionProves, hou]
  by_cases bears : x ∈ (s.routesTested p).portionsOn p
  · rw [if_pos bears]
    rw [State.mem_portionsOn, own] at bears
    refine ⟨fun ⟨_, provable⟩ => by rw [PortionState.proved_of_provable provable],
      fun other => ?_⟩
    rw [PortionState.proved_other fun provable => other ⟨bears, provable⟩]
  · rw [if_neg bears]
    rw [State.mem_portionsOn, own] at bears
    exact ⟨fun tested => absurd tested.1 bears, fun _ => rfl⟩

/-- A hosted grant whose entry used names the noticed point has its proven state, and no other is
touched (R129). -/
theorem State.pointNotice_grant (k : Fin 8) :
    let grants := ((s.portionsTested p).proveGrants (FlankElement.isPoint p)).hou.grants
    (s.hou.grants[k] = none → grants[k] = none) ∧
    ∀ x, s.hou.grants[k] = some x →
      ((∃ q, elementOf s.config x.used = some (.point p q)) →
        grants[k] = some { x with proven := s.entryProven x.used }) ∧
      ((¬∃ q, elementOf s.config x.used = some (.point p q)) → grants[k] = some x) := by
  have proven := (s.portionsTested p).proveGrants_isPoint p k
  obtain ⟨grants, config⟩ := s.portionsTested_keeps p
  rwa [grants, config, s.portionsTested_entryProven] at proven

/-- A point notice touches no more than routes, conditions, portions and grants besides CHG. -/
theorem State.pointNotice_form :
    let t := (s.portionsTested p).proveGrants (FlankElement.isPoint p)
    t = { s.pointNoticed p with
      lku := { s.lku with routes := (s.routesTested p).lku.routes }
      cmu := { s.cmu with faults := (s.routesTested p).cmu.faults }
      hou := { s.hou with portions := (s.portionsTested p).hou.portions, grants := t.hou.grants } }
    := by
  intro t
  obtain ⟨routes, faults, tested⟩ :=
    (s.pointNoticed p).completionTests_form ((s.pointNoticed p).routesOn p)
  obtain ⟨portions, proved⟩ :=
    (s.routesTested p).provingTests_form ((s.routesTested p).portionsOn p)
  change s.routesTested p = _ at tested
  change s.portionsTested p = _ at proved
  have granted : t = { s.portionsTested p with
    hou := { (s.portionsTested p).hou with grants := t.hou.grants } } := rfl
  rw [granted, proved, tested]
  rfl

end

/-- Settles O25: the completion tests, the proving tests and the test of the grants touch separate
records, and none changes what another reads. -/
theorem pointNoticeMakesTheTests : Obligations.PointNoticeMakesTheTests := by
  intro s
  refine ⟨fun r c listed => State.complete_iff listed,
    fun x c listed => State.portionProves_iff listed, fun p running present changed => ?_⟩
  have effect : s.effect (.pointNotice p) = some (s.pointNotice p) := rfl
  obtain ⟨t, exec, rest⟩ := exec_rest effect
  rw [State.pointNotice_eq running present changed, State.pointNotice_form] at rest
  exact ⟨t, _, _, _, _, exec, rest, s.routesTested_route p, s.mem_routesTested_faults p,
    s.portionsTested_portion p, fun k => (s.pointNotice_grant p k).1,
    fun k => (s.pointNotice_grant p k).2⟩

end Sys2Proof.Machine
end

section
/-! What the taking of a plan does: its elements held, the flank set counted, the points asked to
move (R59, R81, R125). -/

namespace Sys2Proof.Machine

open Sys2Proof

/-! ## Holders (R81) -/

section
variable (s : State) (o : Owner)

theorem State.holdSections_section (role : Role) (ks : List (Fin 32)) (k : Fin 32) :
    ((s.holdSections o role ks).lku.sections[k]).holder =
      if k ∈ ks then some ⟨o, role⟩ else (s.lku.sections[k]).holder := by
  unfold State.holdSections
  induction ks generalizing s with
  | nil => simp
  | cons x xs ih =>
    rw [State.forEach_cons, ih, State.updSectionLock_sections, upd_get]
    by_cases later : k ∈ xs
    · simp [later]
    · by_cases same : x = k
      · simp [same]
      · simp [later, same, Ne.symm same]

theorem State.holdPoints_point (role : Role) (ps : List (Fin 16 × Position)) (p : Fin 16) :
    ((s.holdPoints o role ps).lku.points[p]).holder =
      if p ∈ ps.map (·.1) then some ⟨o, role⟩ else (s.lku.points[p]).holder := by
  unfold State.holdPoints
  induction ps generalizing s with
  | nil => simp
  | cons x xs ih =>
    rw [State.forEach_cons, ih, State.updPointLock_points, upd_get]
    by_cases later : p ∈ xs.map (·.1)
    · simp [later]
    · by_cases same : x.1 = p
      · simp [same]
      · simp [later, same, Ne.symm same]

theorem State.holdPoints_claims (role : Role) (ps : List (Fin 16 × Position)) (p : Fin 16)
    (q : Position) : ((s.holdPoints o role ps).lku.points[p]).claims q =
      (s.lku.points[p]).claims q :=
  State.forEach_keeps (fun s => (s.lku.points[p]).claims q) _ (fun s x => by
    rw [State.updPointLock_points, upd_get]
    split
    · rfl
    · rfl) s ps

/-- A section of a plan just held: an overlap section by its role, any other of the path so. -/
theorem State.holdPlan_section (plan : Plan) (k : Fin 32) :
    ((s.holdPlan o plan).lku.sections[k]).holder =
      if k ∈ plan.overlap then some ⟨o, .overlap⟩
      else if k ∈ plan.path then some ⟨o, .path⟩ else (s.lku.sections[k]).holder := by
  simp only [State.holdPlan, State.holdPoints_keeps, State.holdSections_section]

theorem State.holdPlan_point (plan : Plan) (p : Fin 16) :
    ((s.holdPlan o plan).lku.points[p]).holder =
      if p ∈ plan.overlapPoints.map (·.1) then some ⟨o, .overlap⟩
      else if p ∈ plan.points.map (·.1) then some ⟨o, .path⟩ else (s.lku.points[p]).holder := by
  simp only [State.holdPlan, State.holdPoints_point, State.holdSections_keeps]

theorem State.holdPlan_claims (plan : Plan) (p : Fin 16) (q : Position) :
    ((s.holdPlan o plan).lku.points[p]).claims q = (s.lku.points[p]).claims q := by
  simp only [State.holdPlan, State.holdPoints_claims, State.holdSections_keeps]

end

/-! ## The flank set counted (R125) -/

section
variable (s : State) (items : List FlankItem)

/-- The counts of a flank set touch no holder. -/
theorem State.claimFlank_holders (p g : Fin 16) :
    ((s.claimFlank items).lku.points[p]).holder = (s.lku.points[p]).holder ∧
    ((s.claimFlank items).lku.signals[g]).holder = (s.lku.signals[g]).holder := by
  have points (t : State) (f : Nat → Nat) (ps : List (Fin 16 × Position)) :
      ((t.countPoints f ps).lku.points[p]).holder = (t.lku.points[p]).holder :=
    State.forEach_keeps (fun s => (s.lku.points[p]).holder) _ (fun s x => by
      rw [State.updPointLock_points, upd_get]
      split
      · cases x.2 <;> rfl
      · rfl) t ps
  have signals (t : State) (f : Nat → Nat) (gs : List (Fin 16)) :
      ((t.countSignals f gs).lku.signals[g]).holder = (t.lku.signals[g]).holder :=
    State.forEach_keeps (fun s => (s.lku.signals[g]).holder) _ (fun s x => by
      rw [State.updSignalLock_signals, upd_get]
      split
      · rfl
      · rfl) t gs
  rw [State.claimFlank, State.countFlank]
  refine ⟨?_, ?_⟩
  · simp only [State.countSignals_keeps, points]
  · simp only [signals, State.countPoints_keeps]

end

/-- Counts of a flank set seen from a state with the same counts and to one with the same. -/
theorem FlankAdded.congr {entries : List (Fin 48)} {s s' t t' : State} (h : FlankAdded entries s t)
    (config : s'.config = s.config)
    (claims : ∀ (p : Fin 16) (q : Position),
      (s'.lku.points[p]).claims q = (s.lku.points[p]).claims q)
    (holds : ∀ g : Fin 16, (s'.lku.signals[g]).holds = (s.lku.signals[g]).holds)
    (points : t'.lku.points = t.lku.points) (signals : t'.lku.signals = t.lku.signals) :
    FlankAdded entries s' t' := by
  refine ⟨fun p q => ?_, fun g => ?_⟩
  · rw [points, h.1, claims, config]
  · rw [signals, h.2, holds, config]

/-! ## Move requests (R58, R59, R81) -/

theorem Position.eq_or_other (x q : Position) : x = q ∨ x = q.other := by
  cases x <;> cases q <;> decide

/-- A move request toward a position has reached a point that was not at rest there. -/
structure MoveMade (limit : Nat) (q : Position) (old new : PointRec) : Prop where
  stays : old.controller = .rest → old.detected = detectedAt q → new = old
  rests : old.controller = .failed → old.detected = detectedAt q →
    new = { old with controller := .rest, chg := true }
  starts : old.controller = .rest ∨ old.controller = .failed → old.detected ≠ detectedAt q →
    new = { old with
      controller := .moving q, chg := true, move := .start (10 * limit), settle := .stopped,
      held := new.held } ∧ (old.held = none → new.held = none)
  drops : old.controller = .moving q → new = { old with held := none }
  holds : old.controller = .moving q.other → new = { old with held := some q }

/-- A point of a setting event asked to move where it is not at rest at its position (R81). -/
def PointRec.asked (limit : Nat) (q : Position) (r : PointRec) : PointRec :=
  if r.restAt q then r else r.request limit q

section
variable {limit : Nat} {q : Position} {r : PointRec}

theorem PointRec.asked_rests (failed : r.controller = .failed) (there : r.detected = detectedAt q) :
    r.asked limit q = { r with controller := .rest, chg := true } := by
  have not : ¬r.restAt q = true := by rw [PointRec.restAt_iff, failed]; exact fun h => nomatch h.1
  rw [PointRec.asked, if_neg not]
  simp only [PointRec.request, failed, PointRec.at, there, beq_self_eq_true, if_true]

theorem PointRec.asked_starts (standing : r.controller = .rest ∨ r.controller = .failed)
    (elsewhere : r.detected ≠ detectedAt q) : r.asked limit q =
      { r with
        controller := .moving q, chg := true, move := .start (10 * limit)
        settle := .stopped } := by
  have not : ¬r.restAt q = true := by rw [PointRec.restAt_iff]; exact fun h => elsewhere h.2
  have off : r.at q = false := beq_false_of_ne elsewhere
  rw [PointRec.asked, if_neg not]
  obtain rest | failed := standing
  · simp [PointRec.request, PointRec.startMove, rest, off]
  · simp [PointRec.request, PointRec.startMove, failed, off]

theorem PointRec.asked_moving {x : Position} (moving : r.controller = .moving x) :
    r.asked limit q = if x = q then { r with held := none } else { r with held := some q } := by
  have not : ¬r.restAt q = true := by
    rw [PointRec.restAt_iff, moving]
    cases x <;> exact fun h => nomatch h.1
  rw [PointRec.asked, if_neg not, PointRec.request, moving]
  cases x <;> cases q <;> rfl

theorem PointRec.asked_made : MoveMade limit q r (r.asked limit q) where
  stays rest there := if_pos ((r.restAt_iff q).2 ⟨rest, there⟩)
  rests failed there := PointRec.asked_rests failed there
  starts standing elsewhere := by
    rw [PointRec.asked_starts standing elsewhere]
    exact ⟨rfl, id⟩
  drops moving := by rw [PointRec.asked_moving moving, if_pos rfl]
  holds moving := by rw [PointRec.asked_moving moving, if_neg (Position.other_ne q)]

/-- A further request toward the same position changes nothing of what the first has done. -/
theorem MoveMade.asked_twice {new : PointRec} (h : MoveMade limit q (r.asked limit q) new) :
    MoveMade limit q r new where
  stays rest there := by
    have same : r.asked limit q = r := if_pos ((r.restAt_iff q).2 ⟨rest, there⟩)
    rw [same] at h
    exact h.stays rest there
  rests failed there := by
    rw [PointRec.asked_rests failed there] at h
    exact h.stays rfl there
  starts standing elsewhere := by
    rw [PointRec.asked_starts standing elsewhere] at h
    have new := h.drops rfl
    rw [new]
    exact ⟨rfl, fun _ => rfl⟩
  drops moving := by
    rw [PointRec.asked_moving moving, if_pos rfl] at h
    exact h.drops moving
  holds moving := by
    rw [PointRec.asked_moving moving, if_neg (Position.other_ne q)] at h
    exact h.holds moving

end

section
variable (s : State)

/-- One point of a setting event asked to move. -/
def State.ask (s : State) (x : Fin 16 × Position) : State :=
  if (s.pcu.points[x.1]).restAt x.2 then s else s.requestMove x.1 x.2

theorem State.requestMoves_cons (x : Fin 16 × Position) (xs : List (Fin 16 × Position)) :
    s.requestMoves (x :: xs) = (s.ask x).requestMoves xs := by
  unfold State.requestMoves
  exact State.forEach_cons _ _ _ _

theorem State.ask_config (x : Fin 16 × Position) : (s.ask x).config = s.config := by
  rw [State.ask]
  split
  · rfl
  · simp

theorem State.ask_self (p : Fin 16) (q : Position) : (s.ask (p, q)).pcu.points[p] =
    (s.pcu.points[p]).asked (moveLimit s.config p) q := by
  by_cases rests : (s.pcu.points[p]).restAt q = true
  · rw [State.ask, if_pos rests, PointRec.asked, if_pos rests]
  · rw [State.ask, if_neg rests, PointRec.asked, if_neg rests, State.requestMove,
      State.updPoint_points, upd_same]

theorem State.ask_other (x : Fin 16 × Position) {p : Fin 16} (other : x.1 ≠ p) :
    (s.ask x).pcu.points[p] = s.pcu.points[p] := by
  by_cases rests : (s.pcu.points[x.1]).restAt x.2 = true
  · rw [State.ask, if_pos rests]
  · rw [State.ask, if_neg rests, State.requestMove, State.updPoint_points,
      upd_other _ _ _ _ other]

/-- A point that no request names stays. -/
theorem State.requestMoves_unlisted (ps : List (Fin 16 × Position)) (p : Fin 16)
    (unlisted : ∀ q, (p, q) ∉ ps) : (s.requestMoves ps).pcu.points[p] = s.pcu.points[p] := by
  induction ps generalizing s with
  | nil => rw [State.requestMoves, State.forEach_nil]
  | cons x xs ih =>
    have other : x.1 ≠ p := fun same => unlisted x.2 (same ▸ List.mem_cons_self)
    rw [State.requestMoves_cons, ih _ fun q mem => unlisted q (List.mem_cons_of_mem _ mem),
      s.ask_other x other]

/-- A point that is requested toward one position alone has been asked. -/
theorem State.requestMoves_listed (ps : List (Fin 16 × Position)) (p : Fin 16) (q : Position)
    (listed : (p, q) ∈ ps) (alone : (p, q.other) ∉ ps) :
    MoveMade (moveLimit s.config p) q s.pcu.points[p] (s.requestMoves ps).pcu.points[p] := by
  induction ps generalizing s with
  | nil => nomatch listed
  | cons x xs ih =>
    have aloneLater : (p, q.other) ∉ xs := fun mem => alone (List.mem_cons_of_mem _ mem)
    rw [State.requestMoves_cons]
    by_cases first : x = (p, q)
    · subst first
      by_cases again : (p, q) ∈ xs
      · have later := ih (s.ask (p, q)) again aloneLater
        rw [State.ask_config, State.ask_self] at later
        exact later.asked_twice
      · have none (z : Position) : (p, z) ∉ xs := by
          obtain rfl | rfl := Position.eq_or_other z q
          · exact again
          · exact aloneLater
        rw [State.requestMoves_unlisted _ xs p none, State.ask_self]
        exact PointRec.asked_made
    · have other : x.1 ≠ p := by
        rintro rfl
        obtain same | same := Position.eq_or_other x.2 q
        · exact first (Prod.ext rfl same)
        · exact alone (same ▸ List.mem_cons_self)
      have later := ih (s.ask x) ((List.mem_cons.1 listed).resolve_left (Ne.symm first)) aloneLater
      rwa [State.ask_config, State.ask_other _ _ other] at later

theorem State.requestMoves_requested (ps : List (Fin 16 × Position)) :
    MovesRequested ps s (s.requestMoves ps) := by
  refine fun p => ⟨s.requestMoves_unlisted ps p, fun q listed alone => ?_⟩
  have made := s.requestMoves_listed ps p q listed alone
  exact ⟨made.stays, made.rests, made.starts, made.drops, made.holds⟩

end

/-- The requests of one state seen from another with the same points. -/
theorem MovesRequested.congr {ps : List (Fin 16 × Position)} {s s' t t' : State}
    (h : MovesRequested ps s t) (config : s'.config = s.config) (old : s'.pcu = s.pcu)
    (new : t'.pcu = t.pcu) : MovesRequested ps s' t' := by
  unfold MovesRequested
  rw [config, old, new]
  exact h

/-! ## The taking of a route before its offers (R81, R82) -/

section
variable (s : State) (r : Fin 64) (c : RouteCfg) (chosen : List (Fin 48))

/-- The losing of an overlap counts no claim or hold. -/
theorem State.dispossessAll_counts (os : List Owner) (p g : Fin 16) (q : Position) :
    ((s.dispossessAll os).lku.points[p]).claims q = (s.lku.points[p]).claims q ∧
    ((s.dispossessAll os).lku.signals[g]).holds = (s.lku.signals[g]).holds := by
  have locks (t : State) (o : Owner) :
      (t.dispossess o).lku.points = (t.freeElements o overlapRole).lku.points ∧
      (t.dispossess o).lku.signals = (t.freeElements o overlapRole).lku.signals := by
    cases o <;> simp only [State.dispossess] <;> split <;> simp
  refine ⟨State.forEach_keeps (fun s => (s.lku.points[p]).claims q) _ (fun t o => ?_) s os,
    State.forEach_keeps (fun s => (s.lku.signals[g]).holds) _ (fun t o => ?_) s os⟩
  · rw [(locks t o).1, (t.freeElements_counts o overlapRole).1]
  · rw [(locks t o).2, (t.freeElements_counts o overlapRole).2]

/-- The predecessors dispossessed, the entry signal held and the route record started. -/
def State.entered : State :=
  ((s.dispossessAll (s.predecessors c.entry c.plan)).updSignalLock c.entry fun l =>
    { l with holder := some ⟨.route r, .entry⟩ }).updRoute r (RouteRec.started c)

/-- The flank items of a setting event, before its offers. -/
def itemsOf (chosen : List (Fin 48)) : List FlankItem := chosen.map fun e => ⟨e, none⟩

/-- A route with its plan taken and its points asked to move, before its offers. -/
def State.seized : State := (s.entered r c).takePlan (.route r) c.plan chosen

theorem State.takeRoute_eq : s.takeRoute r c chosen =
    (((s.seized r c chosen).offerPortion r c.request).offerFlanks r
      (remoteElements s.config chosen)).completionTest r := by
  have config : ((s.seized r c chosen).offerPortion r c.request).config = s.config := by
    simp [State.seized, State.entered]
  rw [← config]
  rfl

theorem State.entered_keeps : (s.entered r c).config = s.config ∧
    (s.entered r c).hou.offers = s.hou.offers ∧ (s.entered r c).hou.lastId = s.hou.lastId ∧
    (s.entered r c).slu = s.slu ∧ (s.entered r c).cmu = s.cmu ∧ (s.entered r c).pcu = s.pcu := by
  simp [State.entered]

theorem State.seized_keeps : (s.seized r c chosen).config = s.config ∧
    (s.seized r c chosen).hou.offers = s.hou.offers ∧
    (s.seized r c chosen).hou.lastId = s.hou.lastId ∧ (s.seized r c chosen).slu = s.slu ∧
    (s.seized r c chosen).cmu = s.cmu := by
  simp [State.seized, s.entered_keeps r c]

theorem State.seized_route : (s.seized r c chosen).lku.routes[r] =
    { (s.dispossessAll (s.predecessors c.entry c.plan)).lku.routes[r] with
      state := .setting, setting := .start (10 * c.settingLimit), note := false, offers := []
      hold := Hold.taken c.plan (itemsOf chosen) } := by
  simp only [State.seized, State.takePlan, State.requestMoves_keeps, State.updHold,
    State.updRoute_routes, upd_same, State.claimFlank_keeps, State.holdPlan_keeps, State.entered,
    State.updSignalLock_keeps, RouteRec.started, itemsOf]

/-- Of the signals only the entry signal is held for the route. -/
theorem State.entered_signals : ((s.entered r c).holdPlan (.route r) c.plan).lku.signals =
    upd (s.dispossessAll (s.predecessors c.entry c.plan)).lku.signals c.entry fun l =>
      { l with holder := some ⟨.route r, .entry⟩ } := by
  simp only [State.holdPlan_keeps, State.entered, State.updRoute_keeps,
    State.updSignalLock_signals]

/-- The locks after the taking are those after the holding and the counting. -/
theorem State.seized_locks :
    let held := ((s.entered r c).holdPlan (.route r) c.plan).claimFlank (itemsOf chosen)
    (s.seized r c chosen).lku.sections = held.lku.sections ∧
    (s.seized r c chosen).lku.points = held.lku.points ∧
    (s.seized r c chosen).lku.signals = held.lku.signals := by
  simp [State.seized, State.takePlan, itemsOf]

theorem State.seized_section (k : Fin 32) :
    (k ∈ c.plan.overlap →
      ((s.seized r c chosen).lku.sections[k]).holder = some ⟨.route r, .overlap⟩) ∧
    (k ∈ c.plan.path → k ∉ c.plan.overlap →
      ((s.seized r c chosen).lku.sections[k]).holder = some ⟨.route r, .path⟩) := by
  simp only [s.seized_locks r c chosen, State.claimFlank_keeps, State.holdPlan_section]
  exact ⟨fun listed => if_pos listed, fun path not => (if_neg not).trans (if_pos path)⟩

theorem State.seized_point (q : Fin 16 × Position) :
    (q ∈ c.plan.overlapPoints →
      ((s.seized r c chosen).lku.points[q.1]).holder = some ⟨.route r, .overlap⟩) ∧
    (q ∈ c.plan.points → q.1 ∉ c.plan.overlapPoints.map (·.1) →
      ((s.seized r c chosen).lku.points[q.1]).holder = some ⟨.route r, .path⟩) := by
  rw [(s.seized_locks r c chosen).2.1, (State.claimFlank_holders _ _ _ q.1).1,
    State.holdPlan_point]
  exact ⟨fun listed => if_pos (List.mem_map_of_mem listed),
    fun path not => (if_neg not).trans (if_pos (List.mem_map_of_mem path))⟩

theorem State.seized_entry :
    ((s.seized r c chosen).lku.signals[c.entry]).holder = some ⟨.route r, .entry⟩ := by
  rw [(s.seized_locks r c chosen).2.2, (State.claimFlank_holders _ _ c.entry _).2,
    s.entered_signals r c, upd_same]

theorem State.seized_flank : FlankAdded chosen s (s.seized r c chosen) := by
  obtain ⟨-, points, signals⟩ := s.seized_locks r c chosen
  have added := State.claimFlank_added ((s.entered r c).holdPlan (.route r) c.plan)
    (itemsOf chosen)
  have entries : (itemsOf chosen).map (·.entry) = chosen :=
    List.map_map.trans (List.map_id chosen)
  rw [entries] at added
  refine added.congr ?_ (fun p q => ?_) (fun g => ?_) points signals
  · simp only [State.holdPlan_keeps, s.entered_keeps r c]
  · simp only [State.holdPlan_claims, State.entered, State.updRoute_keeps,
      State.updSignalLock_keeps, s.dispossessAll_counts _ p p q]
  · rw [s.entered_signals r c, upd_get,
      ← (s.dispossessAll_counts (s.predecessors c.entry c.plan) g g .normal).2]
    split
    · rfl
    · rfl

theorem State.seized_moves : MovesRequested
    (c.plan.points ++ (c.plan.overlapPoints ++ flankPoints s.config (itemsOf chosen)))
    s (s.seized r c chosen) := by
  set held := (((s.entered r c).holdPlan (.route r) c.plan).claimFlank (itemsOf chosen)).updHold
    (.route r) fun _ => Hold.taken c.plan (itemsOf chosen) with hheld
  have config : held.config = s.config := by simp [hheld, s.entered_keeps r c]
  have pcu : held.pcu = s.pcu := by simp [hheld, s.entered_keeps r c]
  have asked := held.requestMoves_requested
    (c.plan.points ++ (c.plan.overlapPoints ++ flankPoints held.config (itemsOf chosen)))
  rw [config] at asked
  refine asked.congr config.symm pcu.symm ?_
  rw [← config]
  rfl

end

end Sys2Proof.Machine
end

section
/-! The offers of a setting event: telegrams placed one after the other, the next offer ids, the
records filled and the flank items that name them (R125, R134, R148). -/

namespace Sys2Proof.Machine

open Sys2Proof

/-! ## Telegrams placed (R133, R134) -/

/-- Telegrams stand at the tail of the class-1 queue as `Queued` says, and the sequence counter has
counted those that found room. -/
def Placed (s t : State) (telegrams : List (Payload × Byte)) : Prop :=
  ∃ new, t.slu.classOne = s.slu.classOne ++ new ∧
    new.map (fun i => (i.telegram.payload, i.telegram.dest)) =
      telegrams.take (16 - s.slu.classOne.length) ∧
    (∀ (i : Nat) (x : TxItem), new[i]? = some x →
      x.telegram.seq = s.slu.counter + BitVec.ofNat 8 i) ∧
    t.slu.counter = s.slu.counter + BitVec.ofNat 8 new.length

section
variable {s t u : State} {a b : List (Payload × Byte)}

theorem Placed.of_same (same : t.slu = s.slu) : Placed s t [] :=
  ⟨[], by simp [same], by simp, by simp, by simp [same]⟩

theorem Placed.queued (h : Placed s t a) (same : u.slu.classOne = t.slu.classOne) :
    Queued s u a := by
  obtain ⟨new, queue, content, numbers, -⟩ := h
  exact ⟨new, same.trans queue, content, numbers⟩

theorem Placed.trans (h : Placed s t a) (k : Placed t u b) : Placed s u (a ++ b) := by
  obtain ⟨new, queue, content, numbers, counter⟩ := h
  obtain ⟨more, queue', content', numbers', counter'⟩ := k
  have lengths : new.length = min (16 - s.slu.classOne.length) a.length := by
    rw [← List.length_map, content, List.length_take]
  have room : 16 - t.slu.classOne.length = 16 - s.slu.classOne.length - a.length := by
    rw [queue, List.length_append]
    omega
  refine ⟨new ++ more, ?_, ?_, fun i x at_i => ?_, ?_⟩
  · rw [queue', queue, List.append_assoc]
  · rw [List.map_append, content, content', room, List.take_append]
  · rw [List.getElem?_append] at at_i
    split at at_i
    · exact numbers i x at_i
    · have later := numbers' _ x at_i
      have sum : i = new.length + (i - new.length) := by omega
      rw [later, counter, add_assoc, ← BitVec.ofNat_add, ← sum]
  · rw [counter', counter, add_assoc, ← BitVec.ofNat_add, List.length_append]

theorem State.placeClassOne_placed (s : State) (dest : Byte) (code : Word) (p : Payload) :
    Placed s (s.placeClassOne dest code p) [(p, dest)] := by
  unfold State.placeClassOne
  split
  · next full => exact ⟨[], by simp [Nat.sub_eq_zero_of_le full]⟩
  · next room =>
    have spare : 1 ≤ 16 - s.slu.classOne.length := by omega
    refine ⟨[s.nextItem dest code p], rfl, ?_, fun i x at_i => ?_, rfl⟩
    · rw [List.take_of_length_le spare]
      rfl
    · obtain ⟨rfl, rfl⟩ : i = 0 ∧ s.nextItem dest code p = x := by
        simpa [List.getElem?_singleton] using at_i
      exact (BitVec.add_zero _).symm

theorem State.toNeighbour_placed (s : State) (n : Fin 4) (p : Payload) :
    Placed s (s.toNeighbour n p) (addressed s.config n p) := by
  unfold State.toNeighbour addressed
  split
  · next none => rw [none]; exact .of_same rfl
  · next c found => rw [found]; exact s.placeClassOne_placed _ _ _

theorem State.toPanel_placed (s : State) (x : Fin 2) (p : Payload) :
    Placed s (s.toPanel x p) ((s.config.panels[x]).toList.map fun c => (p, c.address)) := by
  unfold State.toPanel
  split
  · next none => rw [none]; exact .of_same rfl
  · next c found => rw [found]; exact s.placeClassOne_placed _ _ _

end

/-! ## Offer ids (R148) -/

section
variable {s t : State}

theorem State.idHeld_iff (x : Byte) :
    s.idHeld x = true ↔ ∃ k : Fin 8, (s.hou.offers[k]).any (·.id == x) = true := by
  simp only [State.idHeld, List.any_eq_true]
  exact ⟨fun ⟨k, _, held⟩ => ⟨k, held⟩, fun ⟨k, held⟩ => ⟨k, List.mem_finRange k, held⟩⟩

theorem State.idFollows_iff (last id : Byte) : s.IdFollows last id ↔
    ∃ d : Fin 10, 1 ≤ d.val ∧ id = last + BitVec.ofNat 8 d.val ∧ s.idHeld id = false ∧
      ∀ e : Fin 10, 1 ≤ e.val → e < d → s.idHeld (last + BitVec.ofNat 8 e.val) = true := by
  simp only [State.IdFollows, ← State.idHeld_iff, Bool.not_eq_true]

/-- Eight records hold eight ids at most, so one of nine numbers in a row is free. -/
theorem State.some_id_free (base : Byte) : ∃ d < 9, s.idHeld (base + byteOf d) = false := by
  by_contra none
  have holder (d : Fin 9) : ∃ k : Fin 8,
      (s.hou.offers[k]).any (·.id == base + byteOf d.val) = true := by
    rw [← State.idHeld_iff]
    by_contra free
    exact none ⟨d.val, d.isLt, Bool.eq_false_of_not_eq_true free⟩
  choose f holds using holder
  obtain ⟨d, e, different, same⟩ := Fintype.exists_ne_map_eq_of_card_lt f (by decide)
  obtain ⟨o, stands, idD⟩ := (Option.any_eq_true _ _).1 (holds d)
  obtain ⟨q, stands', idE⟩ := (Option.any_eq_true _ _).1 (holds e)
  rw [← same, stands, Option.some_inj] at stands'
  subst stands'
  rw [beq_iff_eq] at idD idE
  exact different ((byteOf_fin_inj (by decide)).1 (add_left_cancel (idD.symm.trans idE)))

theorem State.nextId_follows (s : State) : s.IdFollows s.hou.lastId s.nextId := by
  have exist := s.some_id_free (s.hou.lastId + 1)
  obtain ⟨small, free⟩ := Nat.find_spec exist
  have first (e : Nat) (before : e < Nat.find exist) :
      s.idHeld (s.hou.lastId + 1 + byteOf e) = true := by
    by_contra not
    exact Nat.find_min exist before ⟨by omega, Bool.eq_false_of_not_eq_true not⟩
  have shift (e : Nat) : s.hou.lastId + 1 + byteOf e = s.hou.lastId + BitVec.ofNat 8 (e + 1) := by
    rw [add_assoc, Nat.add_comm, BitVec.ofNat_add]
    rfl
  have next : s.nextId = s.hou.lastId + 1 + byteOf (Nat.find exist) := by
    have found : (List.range 9).find? ((fun i => !s.idHeld i) ∘ fun d =>
        s.hou.lastId + 1 + byteOf d) = some (Nat.find exist) := by
      rw [List.find?_range_eq_some]
      exact ⟨congrArg (!·) free, List.mem_range.2 small,
        fun e before => congrArg (!!·) (first e before)⟩
    rw [State.nextId, List.find?_map, found]
    rfl
  rw [State.idFollows_iff]
  refine ⟨⟨Nat.find exist + 1, by omega⟩, Nat.succ_pos _, next.trans (shift _), by rw [next, free],
    fun e positive before => ?_⟩
  obtain ⟨x, same⟩ : ∃ x, e.val = x + 1 := ⟨e.val - 1, by omega⟩
  have earlier : x < Nat.find exist := by
    have : e.val < Nat.find exist + 1 := before
    omega
  rw [same, ← shift, first x earlier]

/-- Ids given out one after the other, each next to the one before. -/
abbrev State.IdsFollow (s : State) (last : Byte) (ids : List Byte) : Prop :=
  List.IsChain s.IdFollows (last :: ids)

/-- Ids that follow a fresh one follow it too where that one is not yet held: they are so few that
none of them comes round to it. -/
theorem State.IdsFollow.before {base : Byte} (held : ∀ x, s.idHeld x = true → t.idHeld x = true)
    (new : ∀ x, t.idHeld x = true → s.idHeld x = true ∨ x = base) (ids : List Byte) (n : Nat)
    (few : n + 9 * ids.length < 256) (h : t.IdsFollow (base + BitVec.ofNat 8 n) ids) :
    s.IdsFollow (base + BitVec.ofNat 8 n) ids := by
  induction ids generalizing n with
  | nil => exact .singleton _
  | cons id ids ih =>
    obtain ⟨follows, later⟩ := List.isChain_cons_cons.1 h
    rw [List.length_cons] at few
    obtain ⟨d, positive, next, free, skipped⟩ := (State.idFollows_iff _ _).1 follows
    have sum (x : Nat) : base + BitVec.ofNat 8 n + BitVec.ofNat 8 x =
        base + BitVec.ofNat 8 (n + x) := by rw [add_assoc, ← BitVec.ofNat_add]
    refine List.isChain_cons_cons.2 ⟨(State.idFollows_iff _ _).2 ⟨d, positive, next, ?_,
      fun e above below => ?_⟩, ?_⟩
    · exact Bool.eq_false_of_not_eq_true fun h => by simp [held _ h] at free
    · refine (new _ (skipped e above below)).resolve_right fun round => ?_
      rw [sum] at round
      have zero : BitVec.ofNat 8 (n + e.val) = 0#8 := add_eq_left.1 round
      have small := congrArg BitVec.toNat zero
      rw [BitVec.toNat_ofNat, BitVec.toNat_ofNat] at small
      omega
    · rw [next, sum] at later ⊢
      exact ih (n + d.val) (by omega) later

end

/-! ## The records that a setting event fills (R81, R125, R148) -/

/-- The record that a remote request of a route fills: SENT, with no resend used and its reply timer
started. -/
def sentOffer (cfg : ZoneConfig) (r : Fin 64) (w : RemoteRequest) (id : Byte) : Offer :=
  ⟨id, w.kind, w.neighbour, w.target, w.code, r, .sent, 0, .start (replyTime cfg w.neighbour)⟩

section
variable {s : State}

theorem State.freeRecord_free {k : Fin 8} (found : s.freeRecord = some k) :
    s.hou.offers[k] = none := by
  rw [State.freeRecord] at found
  exact Option.isNone_iff_eq_none.1 (List.find?_some found :)

theorem State.freeRecord_some (room : 0 < s.freeRecords) : ∃ k, s.freeRecord = some k := by
  obtain ⟨k, mem⟩ := List.exists_mem_of_length_pos room
  obtain ⟨listed, free⟩ := List.mem_filter.1 mem
  exact Option.isSome_iff_exists.1 (List.find?_isSome.2 ⟨k, listed, free⟩)

/-- A free record filled is one record less. -/
theorem State.freeRecords_fill {t : State} {k : Fin 8} {o : Offer} (free : s.hou.offers[k] = none)
    (filled : t.hou.offers = upd s.hou.offers k fun _ => some o) :
    t.freeRecords + 1 = s.freeRecords := by
  have once : ((indices 8).filter fun j => (s.hou.offers[j]).isNone).Nodup :=
    (List.nodup_finRange 8).filter _
  have listed : k ∈ (indices 8).filter fun j => (s.hou.offers[j]).isNone :=
    List.mem_filter.2 ⟨List.mem_finRange k, by rw [free]; rfl⟩
  have left : ((indices 8).filter fun j => (t.hou.offers[j]).isNone) =
      ((indices 8).filter fun j => (s.hou.offers[j]).isNone).erase k := by
    rw [once.erase_eq_filter, List.filter_filter]
    refine List.filter_congr fun j _ => ?_
    rw [filled, upd_get]
    by_cases same : k = j
    · simp [same]
    · simp [same, Ne.symm same]
  rw [State.freeRecords, State.freeRecords, left, List.length_erase_of_mem listed]
  have := List.length_pos_of_mem listed
  omega

end

/-- Remote requests of a route have filled one record each, in records that were free, under the
next ids; the route names them, and their telegrams are placed. -/
structure Offered (r : Fin 64) (wanted : List RemoteRequest) (records : List (Fin 8))
    (ids : List Byte) (s t : State) : Prop where
  config : t.config = s.config
  ids_length : ids.length = wanted.length
  records_length : records.length = wanted.length
  named : (t.lku.routes[r]).offers = (s.lku.routes[r]).offers ++ records
  alike : RouteAlike s.lku.routes[r] t.lku.routes[r]
  lastId : t.hou.lastId = ids.getLastD s.hou.lastId
  others : ∀ k : Fin 8, k ∉ records → t.hou.offers[k] = s.hou.offers[k]
  free : ∀ k : Fin 8, k ∈ records → s.hou.offers[k] = none
  follow : s.IdsFollow s.hou.lastId ids
  made : ∀ (i : Nat) (k : Fin 8) (w : RemoteRequest) (id : Byte), records[i]? = some k →
    wanted[i]? = some w → ids[i]? = some id → t.hou.offers[k] = some (sentOffer s.config r w id)
  room : t.freeRecords + wanted.length = s.freeRecords
  placed : Placed s t ((wanted.zip ids).flatMap fun w =>
    addressed s.config w.1.neighbour (w.1.telegram w.2))

section
variable {r : Fin 64} {s t u : State}

theorem Offered.refl (s : State) : Offered r [] [] [] s s where
  config := rfl
  ids_length := rfl
  records_length := rfl
  named := (List.append_nil _).symm
  alike := .refl _
  lastId := rfl
  others _ _ := rfl
  free _ mem := nomatch mem
  follow := .singleton _
  made _ _ _ _ at_i := by simp at at_i
  room := rfl
  placed := .of_same rfl

/-- A record in use that stood before stands as it was. -/
theorem Offered.keeps {wanted : List RemoteRequest} {records : List (Fin 8)} {ids : List Byte}
    (h : Offered r wanted records ids s t) {k : Fin 8} {o : Offer}
    (stands : s.hou.offers[k] = some o) : t.hou.offers[k] = some o := by
  rw [h.others k fun mem => by simp [h.free k mem] at stands, stands]

theorem State.freeRecords_le (s : State) : s.freeRecords ≤ 8 :=
  (List.length_filter_le _ _).trans (List.length_finRange (n := 8)).le

/-- Further requests after a first one. -/
theorem Offered.cons {w : RemoteRequest} {k : Fin 8} {id : Byte} {wanted : List RemoteRequest}
    {records : List (Fin 8)} {ids : List Byte} (h : Offered r [w] [k] [id] s t)
    (l : Offered r wanted records ids t u) :
    Offered r (w :: wanted) (k :: records) (id :: ids) s u where
  config := l.config.trans h.config
  ids_length := by simp [l.ids_length]
  records_length := by simp [l.records_length]
  named := by rw [l.named, h.named, List.append_assoc, List.singleton_append]
  alike := h.alike.trans l.alike
  lastId := by
    rw [l.lastId, h.lastId]
    cases ids <;> rfl
  others j not := by
    obtain ⟨other, later⟩ := not_or.1 (mt List.mem_cons.2 not)
    rw [l.others j later, h.others j fun mem => other (List.mem_singleton.1 mem)]
  free j mem := by
    have first := h.free k List.mem_cons_self
    by_cases same : j = k
    · rw [same, first]
    · rw [← h.others j fun mem => same (List.mem_singleton.1 mem)]
      exact l.free j ((List.mem_cons.1 mem).resolve_left same)
  follow := by
    obtain ⟨follows, -⟩ := List.isChain_cons_cons.1 h.follow
    have base : t.hou.lastId = id := h.lastId
    have ownRecord : t.hou.offers[k] = some (sentOffer s.config r w id) :=
      h.made 0 k w id rfl rfl rfl
    have held (x : Byte) (before : s.idHeld x = true) : t.idHeld x = true := by
      rw [State.idHeld_iff] at before ⊢
      obtain ⟨j, at_j⟩ := before
      refine ⟨j, ?_⟩
      rw [h.others j fun mem => ?_]
      · exact at_j
      · simp [h.free j mem] at at_j
    have new (x : Byte) (after : t.idHeld x = true) : s.idHeld x = true ∨ x = id := by
      rw [State.idHeld_iff] at after ⊢
      obtain ⟨j, at_j⟩ := after
      by_cases same : j = k
      · rw [same, ownRecord, Option.any_some, beq_iff_eq] at at_j
        exact .inr at_j.symm
      · rw [h.others j fun mem => same (List.mem_singleton.1 mem)] at at_j
        exact .inl ⟨j, at_j⟩
    have few : 0 + 9 * ids.length < 256 := by
      have room := l.room
      have := t.freeRecords_le
      rw [l.ids_length]
      omega
    have later := l.follow
    rw [base, ← BitVec.add_zero id] at later
    have before := State.IdsFollow.before held new ids 0 few later
    rw [State.IdsFollow, BitVec.add_zero] at before
    exact List.isChain_cons_cons.2 ⟨follows, before⟩
  made i j x y at_record at_wanted at_id := by
    cases i with
    | zero =>
      cases at_record
      cases at_wanted
      cases at_id
      exact l.keeps (h.made 0 k w id rfl rfl rfl)
    | succ i =>
      rw [← h.config]
      exact l.made i j x y at_record at_wanted at_id
  room := by
    rw [← h.room, ← l.room, List.length_cons, List.length_singleton, add_assoc]
  placed := by
    have later := l.placed
    rw [h.config] at later
    have both := h.placed.trans later
    rwa [← List.flatMap_append] at both

/-- Flank items given their records touch no other part of an offer's making. -/
theorem Offered.updRoute {wanted : List RemoteRequest} {records : List (Fin 8)} {ids : List Byte}
    (h : Offered r wanted records ids s t) {f : RouteRec → RouteRec}
    (alike : ∀ c, RouteAlike c (f c)) (named : ∀ c, (f c).offers = c.offers) :
    Offered r wanted records ids s (t.updRoute r f) where
  config := h.config
  ids_length := h.ids_length
  records_length := h.records_length
  named := by rw [State.updRoute_routes, upd_same, named, h.named]
  alike := by
    rw [State.updRoute_routes, upd_same]
    exact h.alike.trans (alike _)
  lastId := h.lastId
  others := h.others
  free := h.free
  follow := h.follow
  made := h.made
  room := h.room
  placed := h.placed

end

/-! ## One request (R81, R125, R148) -/

section
variable {s : State} {r : Fin 64} {w : RemoteRequest} {k : Fin 8}

/-- A record filled for a request under the next id and named by its route, the request not yet
placed. -/
def State.recorded (s : State) (r : Fin 64) (w : RemoteRequest) (k : Fin 8) : State :=
  { s with hou := { s.hou with
      offers := upd s.hou.offers k fun _ => some (sentOffer s.config r w s.nextId)
      lastId := s.nextId } }.updRoute r fun c => { c with offers := c.offers ++ [k] }

theorem State.makeOffer_eq (found : s.freeRecord = some k) : s.makeOffer r w =
    (s.recorded r w k).toNeighbour w.neighbour (w.telegram s.nextId) := by
  rw [State.makeOffer, found]
  obtain ⟨kind, neighbour, target, code⟩ := w
  cases kind <;> rfl

theorem State.makeOffer_route (found : s.freeRecord = some k) :
    (s.makeOffer r w).lku.routes[r] =
      { s.lku.routes[r] with offers := (s.lku.routes[r]).offers ++ [k] } := by
  simp only [State.makeOffer_eq found, State.toNeighbour_keeps, State.recorded,
    State.updRoute_routes, upd_same]

theorem State.makeOffer_hou (found : s.freeRecord = some k) :
    (s.makeOffer r w).hou.offers =
      (upd s.hou.offers k fun _ => some (sentOffer s.config r w s.nextId)) ∧
    (s.makeOffer r w).hou.lastId = s.nextId := by
  rw [State.makeOffer_eq found]
  simp [State.recorded]

theorem State.makeOffer_offered (found : s.freeRecord = some k) :
    Offered r [w] [k] [s.nextId] s (s.makeOffer r w) := by
  obtain ⟨offers, lastId⟩ := State.makeOffer_hou (r := r) (w := w) found
  have free := State.freeRecord_free found
  have route := State.makeOffer_route (r := r) (w := w) found
  have record : (s.makeOffer r w).hou.offers[k] = some (sentOffer s.config r w s.nextId) := by
    rw [offers, upd_same]
  exact {
    config := by simp
    ids_length := rfl
    records_length := rfl
    named := by rw [route]
    alike := by rw [route]; exact ⟨rfl, rfl, rfl, rfl, rfl, rfl⟩
    lastId := lastId
    others := fun j not => by
      rw [offers, upd_other _ _ _ _ fun same => not (List.mem_singleton.2 same.symm)]
    free := fun j mem => by rw [List.mem_singleton.1 mem, free]
    follow := List.isChain_cons_cons.2 ⟨s.nextId_follows, .singleton _⟩
    made := fun i j x y at_record at_wanted at_id => by
      cases i with
      | zero =>
        cases at_record
        cases at_wanted
        cases at_id
        exact record
      | succ i => simp at at_record
    room := State.freeRecords_fill free offers
    placed := by
      have one : (([w].zip [s.nextId]).flatMap fun x =>
          addressed s.config x.1.neighbour (x.1.telegram x.2)) =
          addressed s.config w.neighbour (w.telegram s.nextId) := List.append_nil _
      rw [State.makeOffer_eq found, one]
      exact (s.recorded r w k).toNeighbour_placed w.neighbour (w.telegram s.nextId) }

end

end Sys2Proof.Machine
end

section
/-! SET_ROUTE: the remote elements of a flank set offered, the completion test at the end of the
event, and the event as a whole (R75, R81, R84, R125). -/

namespace Sys2Proof.Machine

open Sys2Proof

/-! ## Flank elements offered (R125) -/

/-- A held-flank item after the offers of a list of elements: where its element is one of them and
remote, it names a record made for it; otherwise it names what it named. -/
structure FlankItem.OfferedFor (cfg : ZoneConfig) (r : Fin 64) (es : List FlankElement) (t : State)
    (old new : FlankItem) : Prop where
  entry : new.entry = old.entry
  stays : ∀ x, elementOf cfg new.entry = some x → x ∉ es ∨ remoteRequestOf cfg x = none →
    new.offer = old.offer
  named : ∀ x w, elementOf cfg new.entry = some x → x ∈ es → remoteRequestOf cfg x = some w →
    ∃ k id, new.offer = some k ∧ t.hou.offers[k] = some (sentOffer cfg r w id)

/-- The remote elements of a list have been offered, and the flank items name their records. -/
structure FlanksOffered (r : Fin 64) (es : List FlankElement) (records : List (Fin 8))
    (ids : List Byte) (s t : State) : Prop where
  offered : Offered r (es.filterMap (remoteRequestOf s.config)) records ids s t
  flank : ∀ i, i ∈ (t.lku.routes[r]).hold.flank → ∃ j ∈ (s.lku.routes[r]).hold.flank,
    j.OfferedFor s.config r es t i

section
variable {r : Fin 64} {s t u : State} {e : FlankElement} {es : List FlankElement}
  {w : RemoteRequest} {k : Fin 8}

theorem FlanksOffered.refl (s : State) : FlanksOffered r [] [] [] s s where
  offered := .refl s
  flank i mem := ⟨i, mem, rfl, fun _ _ _ => rfl, fun _ _ _ mem => nomatch mem⟩

/-- An element that is not remote asks for nothing. -/
theorem FlanksOffered.cons_local {records : List (Fin 8)} {ids : List Byte}
    (own : remoteRequestOf s.config e = none) (h : FlanksOffered r es records ids s t) :
    FlanksOffered r (e :: es) records ids s t where
  offered := by
    rw [List.filterMap_cons_none own]
    exact h.offered
  flank i mem := by
    obtain ⟨j, listed, item⟩ := h.flank i mem
    refine ⟨j, listed, item.entry, fun x element not => item.stays x element ?_,
      fun x w element mem asks => item.named x w element ?_ asks⟩
    · exact not.imp_left (mt (List.mem_cons_of_mem e))
    · refine (List.mem_cons.1 mem).resolve_left fun same => ?_
      rw [same, own] at asks
      nomatch asks

theorem FlanksOffered.cons_remote {id : Byte} {records : List (Fin 8)} {ids : List Byte}
    (asks : remoteRequestOf s.config e = some w) (h : FlanksOffered r [e] [k] [id] s t)
    (l : FlanksOffered r es records ids t u) :
    FlanksOffered r (e :: es) (k :: records) (id :: ids) s u where
  offered := by
    have first := h.offered
    have later := l.offered
    rw [first.config] at later
    rw [List.filterMap_cons_some asks] at first ⊢
    exact first.cons later
  flank i mem := by
    obtain ⟨j, listed, later⟩ := l.flank i mem
    obtain ⟨j', listed', first⟩ := h.flank j listed
    rw [h.offered.config] at later
    refine ⟨j', listed', later.entry.trans first.entry, fun x element not => ?_,
      fun x v element mem wants => ?_⟩
    · have before : elementOf s.config j.entry = some x := later.entry ▸ element
      rw [later.stays x element (not.imp_left (mt (List.mem_cons_of_mem e)))]
      exact first.stays x before
        (not.imp_left (mt fun mem => List.mem_singleton.1 mem ▸ List.mem_cons_self))
    · by_cases again : x ∈ es
      · exact later.named x v element again wants
      · have before : elementOf s.config j.entry = some x := later.entry ▸ element
        have same : x ∈ [e] := List.mem_singleton.2 ((List.mem_cons.1 mem).resolve_right again)
        obtain ⟨n, y, named, stands⟩ := first.named x v before same wants
        exact ⟨n, y, (later.stays x element (.inl again)).trans named, l.offered.keeps stands⟩

theorem FlankItem.withOffer_entry (cfg : ZoneConfig) (e : FlankElement) (k : Fin 8)
    (i : FlankItem) : (i.withOffer cfg e k).entry = i.entry := by
  rw [FlankItem.withOffer]
  split
  · rfl
  · rfl

theorem State.offerFlank_local (own : remoteRequestOf s.config e = none) :
    s.offerFlank r e = s := by
  rw [State.offerFlank, own]

/-- One remote element offered (R125). -/
theorem State.offerFlank_offered (asks : remoteRequestOf s.config e = some w)
    (found : s.freeRecord = some k) :
    FlanksOffered r [e] [k] [s.nextId] s (s.offerFlank r e) := by
  have offer : s.offerFlank r e = (s.makeOffer r w).updRoute r fun c => { c with
      hold := { c.hold with flank := c.hold.flank.map (FlankItem.withOffer s.config e k) } } := by
    rw [State.offerFlank, asks, found]
  have made := State.makeOffer_offered (r := r) (w := w) found
  have alike (c : RouteRec) : RouteAlike c { c with
      hold := { c.hold with flank := c.hold.flank.map (FlankItem.withOffer s.config e k) } } := by
    refine ⟨rfl, rfl, rfl, rfl, ?_, rfl⟩
    rw [Hold.entries, Hold.entries, List.map_map]
    exact List.map_congr_left fun i _ => FlankItem.withOffer_entry _ _ _ i
  have offered := made.updRoute alike fun _ => rfl
  rw [← offer] at offered
  have wanted : [e].filterMap (remoteRequestOf s.config) = [w] :=
    (List.filterMap_cons_some asks).trans rfl
  refine ⟨by rwa [wanted], fun i mem => ?_⟩
  rw [offer, State.updRoute_routes, upd_same, State.makeOffer_route found] at mem
  obtain ⟨j, listed, rfl⟩ := List.mem_map.1 mem
  have entry := FlankItem.withOffer_entry s.config e k j
  refine ⟨j, listed, entry, fun x element not => ?_, fun x v element mem wants => ?_⟩
  · have other : ¬elementOf s.config j.entry = some e := by
      rw [← entry, element, Option.some_inj]
      rintro rfl
      exact not.elim (fun not => not List.mem_cons_self) fun none => by simp [none] at asks
    rw [FlankItem.withOffer, if_neg other]
  · obtain rfl := List.mem_singleton.1 mem
    have same : elementOf s.config j.entry = some x := entry ▸ element
    rw [asks, Option.some_inj] at wants
    subst wants
    refine ⟨k, s.nextId, ?_, ?_⟩
    · rw [FlankItem.withOffer, if_pos same]
    · exact offered.made 0 k w _ rfl rfl rfl

/-- The remote elements of a list offered, where there are records enough (R80, R125). -/
theorem State.offerFlanks_offered (s : State) (es : List FlankElement)
    (room : (es.filterMap (remoteRequestOf s.config)).length ≤ s.freeRecords) :
    ∃ records ids, FlanksOffered r es records ids s (s.offerFlanks r es) := by
  unfold State.offerFlanks
  induction es generalizing s with
  | nil =>
    rw [State.forEach_nil]
    exact ⟨[], [], .refl s⟩
  | cons e es ih =>
    rw [State.forEach_cons]
    cases asks : remoteRequestOf s.config e with
    | none =>
      rw [List.filterMap_cons_none asks] at room
      rw [State.offerFlank_local asks]
      obtain ⟨records, ids, later⟩ := ih s room
      exact ⟨records, ids, later.cons_local asks⟩
    | some w =>
      rw [List.filterMap_cons_some asks, List.length_cons] at room
      obtain ⟨k, found⟩ := State.freeRecord_some (Nat.zero_lt_of_lt room)
      have first := State.offerFlank_offered (r := r) asks found
      have left := first.offered.room
      have left : (s.offerFlank r e).freeRecords + 1 = s.freeRecords := by
        rwa [List.filterMap_cons_some asks] at left
      obtain ⟨records, ids, later⟩ := ih (s.offerFlank r e) (by
        rw [first.offered.config]
        omega)
      exact ⟨k :: records, s.nextId :: ids, first.cons_remote asks later⟩

end

/-! ## The offers of a route (R80, R81) -/

/-- The remote requests of a setting event in the order of their making. -/
def wantedOf (cfg : ZoneConfig) (c : RouteCfg) (chosen : List (Fin 48)) : List RemoteRequest :=
  (c.request.map fun q => ⟨.portion, q.1, byteOf q.2.val, 0⟩).toList ++
    (remoteElements cfg chosen).filterMap (remoteRequestOf cfg)

section
variable {s : State} {r : Fin 64} {c : RouteCfg} {chosen : List (Fin 48)}

/-- A route whose checks pass finds an offer record for each of its requests (R80). -/
theorem State.checkRoute_room (passes : s.checkRoute r c = .ok chosen) :
    remoteCount s.config c chosen ≤ s.freeRecords := by
  unfold State.checkRoute at passes
  repeat' split at passes
  all_goals cases passes
  omega

/-- A route after its offers, before its completion test. -/
def State.offering (s : State) (r : Fin 64) (c : RouteCfg) (chosen : List (Fin 48)) : State :=
  ((s.seized r c chosen).offerPortion r c.request).offerFlanks r (remoteElements s.config chosen)

/-- The portion request first, then the flank requests in the order of the flank list. -/
theorem State.offering_offered (passes : s.checkRoute r c = .ok chosen) :
    ∃ records ids, Offered r (wantedOf s.config c chosen) records ids (s.seized r c chosen)
        (s.offering r c chosen) ∧
      ∀ i, i ∈ ((s.offering r c chosen).lku.routes[r]).hold.flank →
        ∃ j ∈ ((s.seized r c chosen).lku.routes[r]).hold.flank,
          j.OfferedFor s.config r (remoteElements s.config chosen) (s.offering r c chosen) i := by
  set v := s.seized r c chosen with hv
  obtain ⟨config, offers, -⟩ := s.seized_keeps r c chosen
  rw [← hv] at config offers
  have free : v.freeRecords = s.freeRecords := by rw [State.freeRecords, State.freeRecords, offers]
  have room := State.checkRoute_room passes
  have few := List.length_filterMap_le (remoteRequestOf s.config) (remoteElements s.config chosen)
  rw [remoteCount, ← free] at room
  cases request : c.request with
  | none =>
    have portion : v.offerPortion r c.request = v := by rw [request]; rfl
    have wanted : wantedOf s.config c chosen =
        (remoteElements s.config chosen).filterMap (remoteRequestOf s.config) := by
      rw [wantedOf, request]
      rfl
    rw [State.offering, ← hv, portion, wanted]
    obtain ⟨records, ids, flanks⟩ := v.offerFlanks_offered (r := r)
      (remoteElements s.config chosen) (by
        rw [config]
        omega)
    have later := flanks.offered
    have items := flanks.flank
    rw [config] at later items
    exact ⟨records, ids, later, items⟩
  | some q =>
    rw [request, Option.toList_some, List.length_singleton] at room
    obtain ⟨k, found⟩ := State.freeRecord_some (s := v) (by omega)
    set w : RemoteRequest := ⟨.portion, q.1, byteOf q.2.val, 0⟩ with hw
    have portion : v.offerPortion r c.request = v.makeOffer r w := by rw [request]; rfl
    have first := State.makeOffer_offered (r := r) (w := w) found
    have left := first.room
    rw [List.length_singleton] at left
    have flank : ((v.makeOffer r w).lku.routes[r]).hold.flank = (v.lku.routes[r]).hold.flank := by
      rw [State.makeOffer_route found]
    obtain ⟨records, ids, flanks⟩ := (v.makeOffer r w).offerFlanks_offered (r := r)
      (remoteElements s.config chosen) (by
        rw [first.config, config]
        omega)
    have later := flanks.offered
    have items := flanks.flank
    rw [first.config, config] at later items
    rw [flank] at items
    rw [State.offering, ← hv, portion, wantedOf, request]
    exact ⟨k :: records, v.nextId :: ids, first.cons later, items⟩

end

/-! ## The completion test at the end of the event (R84) -/

section
variable {s : State} {r : Fin 64} {c : RouteCfg} {chosen : List (Fin 48)}

/-- The flank points of a set are those of its entries. -/
theorem flankPoints_entries (cfg : ZoneConfig) (items : List FlankItem) :
    flankPoints cfg items = flankPoints cfg (itemsOf (items.map (·.entry))) := by
  simp only [flankPoints, flankElements, itemsOf, List.map_map, List.filterMap_map]
  rfl

/-- The overlap of a plan just taken is HELD where the plan has one (R81). -/
theorem Hold.taken_overlap (plan : Plan) (items : List FlankItem) :
    (Hold.taken plan items).overlap =
      if plan.overlap = [] ∧ plan.overlapPoints = [] then .none else .held := by
  simp only [Hold.taken, Bool.and_eq_true, List.isEmpty_iff]

/-- The points that a route must find at rest when it has just been set. -/
def pointsTaken (cfg : ZoneConfig) (c : RouteCfg) (chosen : List (Fin 48)) :
    List (Fin 16 × Position) :=
  c.plan.points ++ (c.plan.overlapPoints ++ flankPoints cfg (itemsOf chosen))

/-- The completion test of a route just set passes where it sent no request and its points are at
rest. -/
theorem State.offering_ready (listed : s.config.routes[r] = some c)
    (passes : s.checkRoute r c = .ok chosen) :
    (s.offering r c chosen).ready r ↔ wantedOf s.config c chosen = [] ∧
      ∀ q, q ∈ pointsTaken s.config c chosen →
        ((s.offering r c chosen).pcu.points[q.1]).controller = .rest ∧
          ((s.offering r c chosen).pcu.points[q.1]).detected = detectedAt q.2 := by
  obtain ⟨records, ids, offered, -⟩ := State.offering_offered passes
  obtain ⟨keeps, -⟩ := s.seized_keeps r c chosen
  have config := offered.config.trans keeps
  have route := s.seized_route r c chosen
  obtain ⟨state, -, -, overlap, entries, -⟩ := offered.alike
  have named := offered.named
  rw [route] at state overlap entries named
  set w := s.offering r c chosen
  set taken := Hold.taken c.plan (itemsOf chosen) with htaken
  have items : flankPoints w.config (w.lku.routes[r]).hold.flank =
      flankPoints s.config (itemsOf chosen) := by
    have same : (w.lku.routes[r]).hold.flank.map (·.entry) = chosen :=
      entries.trans (List.map_map.trans (List.map_id chosen))
    rw [flankPoints_entries, same, config]
  have points (q : Fin 16 × Position) : (q ∈ c.plan.points ∨
      ((w.lku.routes[r]).hold.overlap = .held ∧ q ∈ c.plan.overlapPoints) ∨
      q ∈ flankPoints w.config (w.lku.routes[r]).hold.flank) ↔
        q ∈ pointsTaken s.config c chosen := by
    have held : ((w.lku.routes[r]).hold.overlap = .held ∧ q ∈ c.plan.overlapPoints) ↔
        q ∈ c.plan.overlapPoints := by
      refine and_iff_right_of_imp fun mem => ?_
      rw [overlap, htaken, Hold.taken_overlap, if_neg fun none => List.not_mem_nil (none.2 ▸ mem)]
    rw [items, held, pointsTaken, List.mem_append, List.mem_append]
  have granted : (∀ k, k ∈ (w.lku.routes[r]).offers →
      ∃ o, w.hou.offers[k] = some o ∧ o.state = .granted) ↔ wantedOf s.config c chosen = [] := by
    have refs : (w.lku.routes[r]).offers = records := named
    rw [refs]
    constructor
    · intro all
      by_contra some
      have long := List.length_pos_iff.2 some
      have lr := offered.records_length
      have li := offered.ids_length
      have first : 0 < records.length := by omega
      have firstId : 0 < ids.length := by omega
      have sent := offered.made 0 records[0] _ ids[0] (List.getElem?_eq_getElem first)
        (List.getElem?_eq_getElem long) (List.getElem?_eq_getElem firstId)
      obtain ⟨o, stands, now⟩ := all _ (List.getElem_mem first)
      rw [sent, Option.some_inj] at stands
      rw [← stands] at now
      nomatch now
    · intro none k mem
      have empty : records = [] := List.length_eq_zero_iff.1 (by
        rw [offered.records_length, none, List.length_nil])
      rw [empty] at mem
      nomatch mem
  rw [State.ready, State.complete_iff (by rw [config, listed]), granted]
  simp only [points]
  exact ⟨fun ⟨_, atRest, alone⟩ => ⟨alone, atRest⟩, fun ⟨alone, atRest⟩ => ⟨state, atRest, alone⟩⟩

theorem State.takeRoute_offering : s.takeRoute r c chosen =
    (s.offering r c chosen).completionTest r := s.takeRoute_eq r c chosen

end

end Sys2Proof.Machine
end

section
/-! SET_ROUTE as a whole event: refused, or the route taken, its offers made, the completion test
and the answer (R75, R81, R84, R125, R148). -/

namespace Sys2Proof.Machine

open Sys2Proof

/-! ## The command (R75) -/

section
variable {s : State} {c : QueuedCommand} {r : Fin 64} {cfg : RouteCfg}

theorem workSetRoute_unknown (none : configured s.config.routes c.arg1 = none) :
    workSetRoute s c = (s, some .unknownElement) := by
  rw [workSetRoute, none]

theorem workSetRoute_refused {why : Reason}
    (found : configured s.config.routes c.arg1 = some (r, cfg))
    (fails : s.checkRoute r cfg = .error why) : workSetRoute s c = (s, some why) := by
  simp only [workSetRoute, found, State.setRoute, fails, orElse]

theorem workSetRoute_passes {chosen : List (Fin 48)}
    (found : configured s.config.routes c.arg1 = some (r, cfg))
    (passes : s.checkRoute r cfg = .ok chosen) :
    workSetRoute s c = ((s.offering r cfg chosen).completionTest r, none) := by
  simp only [workSetRoute, found, State.setRoute, passes, orElse, State.takeRoute_offering]

end

/-! ## After the completion test and the answer -/

section
variable {b w t : State} {r : Fin 64} {c : QueuedCommand}

theorem State.done_keeps (s : State) (c : QueuedCommand) : (s.done c).lku = s.lku ∧
    (s.done c).pcu = s.pcu ∧ (s.done c).hou = s.hou ∧ (s.done c).cmu = s.cmu := by
  simp [State.done]

/-- Of its own route the test touches the state and the setting timer alone. -/
theorem State.completionTest_self (w : State) (r : Fin 64) :
    ((w.completionTest r).lku.routes[r]).hold = (w.lku.routes[r]).hold ∧
    ((w.completionTest r).lku.routes[r]).offers = (w.lku.routes[r]).offers ∧
    ((w.completionTest r).lku.routes[r]).note = (w.lku.routes[r]).note := by
  by_cases ready : w.ready r
  · simp only [State.completionTest_ready ready, State.clearFault_keeps, State.updRoute_routes,
      upd_same, and_self]
  · rw [State.completionTest_waiting ready]
    exact ⟨rfl, rfl, rfl⟩

/-- What the completion test, the answer and the rest of the event leave of a route just set. -/
structure TestedAfter (w : State) (r : Fin 64) (t : State) : Prop where
  sections : t.lku.sections = w.lku.sections
  points : t.lku.points = w.lku.points
  signals : t.lku.signals = w.lku.signals
  pcu : t.pcu = w.pcu
  offers : t.hou.offers = w.hou.offers
  lastId : t.hou.lastId = w.hou.lastId
  hold : (t.lku.routes[r]).hold = (w.lku.routes[r]).hold
  named : (t.lku.routes[r]).offers = (w.lku.routes[r]).offers
  note : (t.lku.routes[r]).note = (w.lku.routes[r]).note
  locked : w.ready r → (t.lku.routes[r]).state = .locked ∧ (t.lku.routes[r]).setting = .stopped ∧
    ⟨.settingFailed, byteOf r.val⟩ ∉ t.cmu.faults
  waiting : ¬w.ready r → (t.lku.routes[r]).state = (w.lku.routes[r]).state ∧
    (t.lku.routes[r]).setting = (w.lku.routes[r]).setting

theorem testedAfter_of_rest (rest : RestOfEvent b ((w.completionTest r).done c) t) :
    TestedAfter w r t := by
  obtain ⟨lku, pcu, hou, cmu⟩ := (w.completionTest r).done_keeps c
  have locks := rest.locks.trans lku
  obtain ⟨hold, named, note⟩ := w.completionTest_self r
  exact {
    sections := by rw [locks]; simp
    points := by rw [locks]; simp
    signals := by rw [locks]; simp
    pcu := by rw [rest.points, pcu]; simp
    offers := by rw [rest.offers.1, hou]; simp
    lastId := by rw [rest.offers.2, hou]; simp
    hold := by rw [locks, hold]
    named := by rw [locks, named]
    note := by rw [locks, note]
    locked := fun ready => by
      rw [locks, rest.faults, cmu, State.completionTest_ready ready,
        State.clearFault_faults, mem_clearCondition]
      simp only [State.clearFault_keeps, State.updRoute_routes, upd_same]
      exact ⟨trivial, trivial, fun stands => stands.1.2 rfl⟩
    waiting := fun waits => by
      rw [locks, State.completionTest_waiting waits]
      exact ⟨rfl, rfl⟩ }

end

/-! ## The offers as the statement of R148 names them -/

section
variable {r : Fin 64} {s t v w : State} {wanted : List RemoteRequest} {records : List (Fin 8)}
  {ids : List Byte}

/-- In a chain each element follows the one before it. -/
theorem isChain_getD {α : Type} {R : α → α → Prop} {a d b : α} {l : List α} {i : Nat}
    (chain : List.IsChain R (a :: l)) (at_i : l[i]? = some b) : R ((a :: l).getD i d) b := by
  obtain ⟨small, rfl⟩ := List.getElem?_eq_some_iff.1 at_i
  have bound : i < (a :: l).length := Nat.lt_succ_of_lt small
  rw [List.getD_eq_getElem _ _ bound]
  exact List.isChain_iff_getElem.1 chain i (Nat.succ_lt_succ small)

theorem Offered.offersMade (h : Offered r wanted records ids v w)
    (fresh : (v.lku.routes[r]).offers = []) (config : v.config = s.config)
    (offers : v.hou.offers = s.hou.offers) (lastId : v.hou.lastId = s.hou.lastId)
    (after : TestedAfter w r t) : OffersMade r wanted ids s t := by
  have refs : (t.lku.routes[r]).offers = records := by
    rw [after.named, h.named, fresh, List.nil_append]
  rw [OffersMade, refs]
  refine ⟨h.ids_length, h.records_length, ?_, fun k not => ?_,
    fun i k x id at_record at_wanted at_id => ⟨?_, ?_, ?_⟩⟩
  · rw [after.lastId, h.lastId, lastId]
  · rw [after.offers, h.others k not, offers]
  · have follows := isChain_getD (d := 0) h.follow at_id
    rw [lastId] at follows
    rw [State.IdFollows, ← offers]
    exact follows
  · rw [← offers]
    exact h.free k (List.mem_of_getElem? at_record)
  · refine ⟨sentOffer s.config r x id, ?_, rfl, fun n found => ?_⟩
    · rw [after.offers, h.made i k x id at_record at_wanted at_id, config]
    · rw [sentOffer, replyTime, found]
      rfl

end

/-! ## The request of a remote element, as the statement of R125 names it -/

theorem mem_remoteElements {cfg : ZoneConfig} {chosen : List (Fin 48)} {e : Fin 48}
    {x : FlankElement} {w : RemoteRequest} (listed : e ∈ chosen)
    (element : elementOf cfg e = some x) (asks : remoteRequestOf cfg x = some w) :
    x ∈ remoteElements cfg chosen := by
  rw [remoteElements, List.mem_filter, mem_distinct, List.mem_filterMap]
  exact ⟨⟨e, listed, element⟩, by rw [asks]; rfl⟩

theorem filterMap_remoteElements (cfg : ZoneConfig) (chosen : List (Fin 48)) :
    (remoteElements cfg chosen).filterMap (remoteRequestOf cfg) =
      (distinct (chosen.filterMap (elementOf cfg))).filterMap (remoteRequestOf cfg) := by
  rw [remoteElements, List.filterMap_filter]
  refine List.filterMap_congr fun x _ => ?_
  cases remoteRequestOf cfg x with
  | none => rfl
  | some w => rfl

/-- The flank items of a route just set: each names the record of its request, or none. -/
theorem FlankItem.OfferedFor.requested {cfg : ZoneConfig} {r : Fin 64} {chosen : List (Fin 48)}
    {t : State} {old new : FlankItem} (listed : old ∈ itemsOf chosen)
    (h : old.OfferedFor cfg r (remoteElements cfg chosen) t new) (x : FlankElement)
    (element : elementOf cfg new.entry = some x) :
    (remoteRequestOf cfg x = none → new.offer = none) ∧
    ∀ w, remoteRequestOf cfg x = some w → ∃ k, new.offer = some k ∧
      ∃ o, t.hou.offers[k] = some o ∧ o.kind = w.kind ∧ o.neighbour = w.neighbour ∧
        o.target = w.target ∧ o.code = w.code ∧ o.route = r := by
  obtain ⟨e, mem, rfl⟩ := List.mem_map.1 listed
  refine ⟨fun own => h.stays x element (.inr own), fun w asks => ?_⟩
  have same : new.entry = e := h.entry
  have remote : x ∈ remoteElements cfg chosen := mem_remoteElements mem (same ▸ element) asks
  obtain ⟨k, id, names, stands⟩ := h.named x w element remote asks
  exact ⟨k, names, _, stands, rfl, rfl, rfl, rfl, rfl⟩

/-! ## The event -/

section
variable {s u t : State} {c : QueuedCommand} {r : Fin 64} {cfg : RouteCfg} {chosen : List (Fin 48)}

theorem State.offering_keeps (s : State) (r : Fin 64) (cfg : RouteCfg) (chosen : List (Fin 48)) :
    (s.offering r cfg chosen).lku.sections = (s.seized r cfg chosen).lku.sections ∧
    (s.offering r cfg chosen).lku.points = (s.seized r cfg chosen).lku.points ∧
    (s.offering r cfg chosen).lku.signals = (s.seized r cfg chosen).lku.signals ∧
    (s.offering r cfg chosen).pcu = (s.seized r cfg chosen).pcu ∧
    (s.offering r cfg chosen).config = s.config := by
  simp [State.offering, s.seized_keeps r cfg chosen]

/-- The route record just set and tested (R81, R84). -/
theorem TestedAfter.route (h : TestedAfter (s.offering r cfg chosen) r t)
    (listed : s.config.routes[r] = some cfg) (passes : s.checkRoute r cfg = .ok chosen) :
    let complete := wantedOf s.config cfg chosen = [] ∧ ∀ q, q ∈ pointsTaken s.config cfg chosen →
      (t.pcu.points[q.1]).controller = .rest ∧ (t.pcu.points[q.1]).detected = detectedAt q.2
    (complete → (t.lku.routes[r]).state = .locked ∧ (t.lku.routes[r]).setting = .stopped ∧
      ⟨.settingFailed, byteOf r.val⟩ ∉ t.cmu.faults) ∧
    (¬complete → (t.lku.routes[r]).state = .setting ∧
      (t.lku.routes[r]).setting = .start (10 * cfg.settingLimit)) := by
  have ready := State.offering_ready listed passes
  obtain ⟨_, _, offered, -⟩ := State.offering_offered passes
  obtain ⟨state, setting, -⟩ := offered.alike
  rw [s.seized_route r cfg chosen] at state setting
  rw [h.pcu, ← ready]
  refine ⟨h.locked, fun waits => ?_⟩
  obtain ⟨stays, runs⟩ := h.waiting waits
  exact ⟨stays.trans state, runs.trans setting⟩

/-- The hold of a route just set (R81, R125). -/
theorem TestedAfter.hold_taken (h : TestedAfter (s.offering r cfg chosen) r t)
    (passes : s.checkRoute r cfg = .ok chosen) :
    (t.lku.routes[r]).note = false ∧
    (t.lku.routes[r]).hold.status = Vector.replicate 8 .locked ∧
    (t.lku.routes[r]).hold.overlap =
      (if cfg.plan.overlap = [] ∧ cfg.plan.overlapPoints = [] then .none else .held) ∧
    (t.lku.routes[r]).hold.entries = chosen := by
  obtain ⟨_, _, offered, -⟩ := State.offering_offered passes
  obtain ⟨-, -, status, overlap, entries, note⟩ := offered.alike
  rw [s.seized_route r cfg chosen] at status overlap entries note
  rw [h.note, h.hold, note, status, overlap, entries]
  exact ⟨rfl, rfl, Hold.taken_overlap _ _, List.map_map.trans (List.map_id chosen)⟩

/-- The flank items of a route just set name the records of their requests (R125). -/
theorem TestedAfter.flank_items (h : TestedAfter (s.offering r cfg chosen) r t)
    (passes : s.checkRoute r cfg = .ok chosen) (i : FlankItem)
    (mem : i ∈ (t.lku.routes[r]).hold.flank) (x : FlankElement)
    (element : elementOf s.config i.entry = some x) :
    (remoteRequestOf s.config x = none → i.offer = none) ∧
    ∀ w, remoteRequestOf s.config x = some w → ∃ k, i.offer = some k ∧
      ∃ o, t.hou.offers[k] = some o ∧ o.kind = w.kind ∧ o.neighbour = w.neighbour ∧
        o.target = w.target ∧ o.code = w.code ∧ o.route = r := by
  obtain ⟨_, _, -, items⟩ := State.offering_offered passes
  rw [h.hold] at mem
  obtain ⟨j, listed, item⟩ := items i mem
  rw [s.seized_route r cfg chosen] at listed
  rw [h.offers]
  exact item.requested listed x element

/-- The offers of a route just set are made, and their requests placed before the answer (R81, R125,
R148). -/
theorem TestedAfter.offersMade (h : TestedAfter (s.offering r cfg chosen) r t)
    (passes : s.checkRoute r cfg = .ok chosen)
    (queue : t.slu.classOne =
      (((s.offering r cfg chosen).completionTest r).done c).slu.classOne) :
    ∃ ids, OffersMade r (wantedOf s.config cfg chosen) ids s t ∧ Queued s t
      (((wantedOf s.config cfg chosen).zip ids).flatMap (fun w => addressed s.config w.1.neighbour
        (w.1.telegram w.2)) ++
      (s.config.panels[c.panel]).toList.map fun x =>
        (.commandResult c.seq c.code 0 0, x.address)) := by
  obtain ⟨records, ids, offered, -⟩ := State.offering_offered passes
  obtain ⟨config, offers, lastId, slu, -⟩ := s.seized_keeps r cfg chosen
  have fresh : ((s.seized r cfg chosen).lku.routes[r]).offers = [] := by
    rw [s.seized_route r cfg chosen]
  refine ⟨ids, offered.offersMade fresh config offers lastId h, ?_⟩
  have requests := offered.placed
  rw [config] at requests
  have tested : Placed (s.offering r cfg chosen) ((s.offering r cfg chosen).completionTest r) [] :=
    .of_same (by simp)
  have answer := State.toPanel_placed ((s.offering r cfg chosen).completionTest r) c.panel
    (.commandResult c.seq c.code 0 0)
  have same : ((s.offering r cfg chosen).completionTest r).config = s.config := by
    simp only [State.completionTest_keeps, s.offering_keeps r cfg chosen]
  rw [same] at answer
  have all := ((Placed.of_same slu).trans requests).trans (tested.trans answer)
  exact all.queued queue

end

/-- Settles O31: the route seized, its offers made, and the completion test at the end. -/
theorem setRouteTakesAllOrNothing : Obligations.SetRouteTakesAllOrNothing := by
  intro s c rest takes u
  refine ⟨fun none => exec_rest (congrArg some (State.runCommand_refused takes (by decide)
    (workSetRoute_unknown (s := u) none))), fun r cfg found => ?_⟩
  refine ⟨fun why fails => exec_rest (congrArg some (State.runCommand_refused takes (by decide)
    (workSetRoute_refused (s := u) found fails))), ?_⟩
  intro chosen passes remote elements wanted flank points
  have remote_eq : remote = remoteRequestOf s.config := by
    funext x
    cases x with
    | point p q => rfl
    | signal g => rfl
    | remotePoint m q => cases q <;> rfl
    | remoteSignal m => rfl
  have wanted_eq : wanted = wantedOf u.config cfg chosen := by
    rw [wantedOf, filterMap_remoteElements]
    exact congrArg (fun f => _ ++ elements.filterMap f) remote_eq
  have points_eq : points = pointsTaken u.config cfg chosen := by
    rw [pointsTaken, ← List.append_assoc, flankPoints, flankElements, itemsOf,
      List.filterMap_map]
    rfl
  clear_value wanted points remote
  subst remote_eq wanted_eq points_eq
  have listed : u.config.routes[r] = some cfg := configured_entry found
  have effect : s.effect .setRoute =
      some (((u.offering r cfg chosen).completionTest r).done c) :=
    congrArg some (State.runCommand_done takes (by decide) (workSetRoute_passes found passes))
  obtain ⟨t, exec, after⟩ := exec_rest effect
  have tested := testedAfter_of_rest after
  obtain ⟨sections, locks, signals, pcu, -⟩ := u.offering_keeps r cfg chosen
  obtain ⟨note, status, overlap, entries⟩ := tested.hold_taken passes
  have sections := tested.sections.trans sections
  have locks := tested.points.trans locks
  have signals := tested.signals.trans signals
  refine ⟨t, exec, ?_, tested.route listed passes, note, status, overlap, ?_, ?_, ?_, ?_, ?_,
    entries, ?_, ?_, tested.flank_items passes, tested.offersMade passes after.lines.1⟩
  · rw [State.takeRoute_offering]
    exact after
  · rw [signals]
    exact u.seized_entry r cfg chosen
  · rw [sections]
    exact fun k => (u.seized_section r cfg chosen k).1
  · rw [sections]
    exact fun k => (u.seized_section r cfg chosen k).2
  · rw [locks]
    exact fun q => (u.seized_point r cfg chosen q).1
  · rw [locks]
    exact fun q => (u.seized_point r cfg chosen q).2
  · exact (u.seized_flank r cfg chosen).congr rfl (fun _ _ => rfl) (fun _ => rfl) locks signals
  · exact (u.seized_moves r cfg chosen).congr rfl rfl (tested.pcu.trans pcu)

end Sys2Proof.Machine
end

section
/-! Held-flank sets and the counts of the lock table (R71, R120, R125, R126): the holders of such
sets, and what keeps the law of the counts. -/

namespace Sys2Proof.Machine

open Sys2Proof

/-! ## The holders of held-flank sets -/

/-- What has a held-flank set: a route or a hosted portion, and a hosted flank grant with its one
element (R71, R127). -/
inductive SetHolder where
  | owner (o : Owner)
  | grant (k : Fin 8)

/-- Every holder of a held-flank set. -/
def SetHolder.all : List SetHolder :=
  (indices 64).map (fun r => .owner (.route r)) ++
    (indices 16).map (fun p => .owner (.portion p)) ++ (indices 8).map .grant

theorem SetHolder.mem_all (h : SetHolder) : h ∈ SetHolder.all := by
  unfold SetHolder.all
  match h with
  | .owner (.route r) => simp [indices]
  | .owner (.portion p) => simp [indices]
  | .grant k => simp [indices]

theorem SetHolder.nodup_all : SetHolder.all.Nodup := by
  unfold SetHolder.all
  refine List.nodup_append.2 ⟨List.nodup_append.2 ⟨?_, ?_, ?_⟩, ?_, ?_⟩
  · exact (List.nodup_finRange 64).map fun a b e => by cases e; rfl
  · exact (List.nodup_finRange 16).map fun a b e => by cases e; rfl
  · simp
  · exact (List.nodup_finRange 8).map fun a b e => by cases e; rfl
  · intro a owners b grants
    obtain ⟨k, -, rfl⟩ := List.mem_map.1 grants
    rintro rfl
    simp at owners

/-- The entries of a held-flank set; a grant in use has the one it uses. -/
def State.setOf (s : State) : SetHolder → List (Fin 48)
  | .owner o => (s.holdOf o).entries
  | .grant k => ((s.hou.grants[k]).map (·.used)).toList

/-- A route or a portion without a path: IDLE, or past the end of its path (R106, R154). -/
def State.pathless (s : State) : SetHolder → Prop
  | .owner (.route r) =>
    (s.lku.routes[r]).state = .idle ∨ (s.lku.routes[r]).state = .overlapHeld
  | .owner (.portion p) =>
    (s.hou.portions[p]).state = .idle ∨ (s.hou.portions[p]).state = .overlapHeld
  | .grant _ => False

section
variable {s t u : State}

theorem Hold.entries_eq_nil {h : Hold} : h.entries = [] ↔ h.flank = [] := List.map_eq_nil_iff

theorem State.setsNaming_eq (x : FlankElement) : s.setsNaming x =
    (SetHolder.all.filter fun h => NamesElement s.config (s.setOf h) x).length := by
  have grant (k : Fin 8) : NamesElement s.config (s.setOf (.grant k)) x ↔
      (s.hou.grants[k]).any (fun g => elementOf s.config g.used == some x) = true := by
    rw [State.setOf]
    cases s.hou.grants[k] <;> simp [NamesElement]
  simp only [SetHolder.all, List.filter_append, List.length_append, List.filter_map,
    List.length_map, State.setsNaming]
  congr 3
  funext k
  simp only [Function.comp, grant, Bool.decide_eq_true]

/-- The law of the flank counts, holder by holder. -/
theorem State.flankCounted_iff : s.FlankCounted ↔
    (∀ (p : Fin 16) (q : Position), (s.lku.points[p]).claims q = s.setsNaming (.point p q) ∧
      (s.lku.points[p]).claims q ≤ 15) ∧
    (∀ p : Fin 16, (s.lku.points[p]).claims .normal = 0 ∨ (s.lku.points[p]).claims .reverse = 0) ∧
    (∀ g : Fin 16, (s.lku.signals[g]).holds = s.setsNaming (.signal g) ∧
      (s.lku.signals[g]).holds ≤ 15) ∧
    ∀ h, s.pathless h → s.setOf h = [] := by
  refine and_congr .rfl (and_congr .rfl (and_congr .rfl ⟨?_, fun empty => ⟨?_, ?_⟩⟩))
  · rintro ⟨routes, portions⟩ (⟨r | p⟩ | k) ended
    · exact Hold.entries_eq_nil.2 (routes r ended)
    · exact Hold.entries_eq_nil.2 (portions p ended)
    · exact ended.elim
  · exact fun r ended => Hold.entries_eq_nil.1 (empty (.owner (.route r)) ended)
  · exact fun p ended => Hold.entries_eq_nil.1 (empty (.owner (.portion p)) ended)

/-- From `s` to `t` the law of the flank counts is kept. -/
abbrev FlankKept (s t : State) : Prop := s.FlankCounted → t.FlankCounted

/-- Of what the law of the flank counts reads, `t` is as `s`, and no path has ended. -/
structure SameSets (s t : State) : Prop where
  config : t.config = s.config
  sets : ∀ h, t.setOf h = s.setOf h
  pathless : ∀ h, t.pathless h → s.pathless h
  claims : ∀ (p : Fin 16) (q : Position), (t.lku.points[p]).claims q = (s.lku.points[p]).claims q
  holds : ∀ g : Fin 16, (t.lku.signals[g]).holds = (s.lku.signals[g]).holds

theorem SameSets.refl (s : State) : SameSets s s :=
  ⟨rfl, fun _ => rfl, fun _ => id, fun _ _ => rfl, fun _ => rfl⟩

theorem SameSets.naming (h : SameSets s t) (x : FlankElement) :
    t.setsNaming x = s.setsNaming x := by
  rw [State.setsNaming_eq, State.setsNaming_eq, h.config]
  simp only [h.sets]

theorem SameSets.kept (h : SameSets s t) : FlankKept s t := by
  rw [FlankKept, State.flankCounted_iff, State.flankCounted_iff]
  simp only [h.naming, h.claims, h.holds, h.sets]
  rintro ⟨claims, apart, holds, empty⟩
  exact ⟨claims, apart, holds, fun x ended => empty x (h.pathless x ended)⟩

/-! ## One set emptied, one set filled -/

/-- A predicate that changes at one member of a list changes the number of those that have it by
that one. -/
theorem length_filter_change {α : Type} (p q : α → Bool) {a : α} {l : List α} (once : l.Nodup)
    (mem : a ∈ l) (others : ∀ b, b ≠ a → p b = q b) :
    (l.filter p).length + (if q a then 1 else 0) = (l.filter q).length + if p a then 1 else 0 := by
  induction l with
  | nil => nomatch mem
  | cons x xs ih =>
    obtain ⟨fresh, rest⟩ := List.nodup_cons.1 once
    by_cases first : x = a
    · subst first
      have same : xs.filter p = xs.filter q :=
        List.filter_congr fun b inside => others b fun e => fresh (e ▸ inside)
      rw [List.filter_cons, List.filter_cons, same]
      cases p x <;> cases q x <;> simp
    · have later := ih rest ((List.mem_cons.1 mem).resolve_left fun e => first e.symm)
      rw [List.filter_cons, List.filter_cons, others x first]
      cases q x <;> simp <;> omega

/-- Between `s` and `t` the set of one holder has been rewritten; no other, and no path but that of
the holder has ended. -/
structure SetChanged (h : SetHolder) (s t : State) : Prop where
  config : t.config = s.config
  others : ∀ x, x ≠ h → t.setOf x = s.setOf x
  pathless : ∀ x, x ≠ h → t.pathless x → s.pathless x

/-- The number of sets that name an element moves with the set of the holder. -/
theorem SetChanged.naming {h : SetHolder} (c : SetChanged h s t) (x : FlankElement) :
    t.setsNaming x + (if NamesElement s.config (s.setOf h) x then 1 else 0) =
      s.setsNaming x + if NamesElement s.config (t.setOf h) x then 1 else 0 := by
  rw [State.setsNaming_eq, State.setsNaming_eq, c.config]
  have change := length_filter_change
    (fun y => decide (NamesElement s.config (t.setOf y) x))
    (fun y => decide (NamesElement s.config (s.setOf y) x)) SetHolder.nodup_all h.mem_all
    fun y other => by rw [c.others y other]
  simpa using change

/-- A set given back and emptied keeps the law (R126). -/
theorem SetChanged.kept_of_emptied {h : SetHolder} (c : SetChanged h s t)
    (emptied : t.setOf h = []) (removed : FlankRemoved (s.setOf h) s t) : FlankKept s t := by
  rw [FlankKept, State.flankCounted_iff, State.flankCounted_iff]
  rintro ⟨claims, apart, holds, empty⟩
  have naming (x : FlankElement) : t.setsNaming x = s.setsNaming x -
      if NamesElement s.config (s.setOf h) x then 1 else 0 := by
    have change := c.naming x
    rw [emptied, if_neg (c := NamesElement s.config [] x) (by simp [NamesElement])] at change
    omega
  refine ⟨fun p q => ?_, fun p => ?_, fun g => ?_, fun x ended => ?_⟩
  · have before := claims p q
    rw [removed.1, naming]
    omega
  · rw [removed.1, removed.1]
    have before := apart p
    omega
  · have before := holds g
    rw [removed.2, naming]
    omega
  · by_cases own : x = h
    · rw [own, emptied]
    · rw [c.others x own, empty x (c.pathless x own ended)]

/-- The elements that entries name may be counted once more: no count is at 15, and no point is
claimed in both positions (R122, R123). -/
structure Countable (entries : List (Fin 48)) (s : State) : Prop where
  claims : ∀ (p : Fin 16) (q : Position), NamesElement s.config entries (.point p q) →
    (s.lku.points[p]).claims q < 15 ∧ (s.lku.points[p]).claims q.other = 0 ∧
      ¬NamesElement s.config entries (.point p q.other)
  holds : ∀ g : Fin 16, NamesElement s.config entries (.signal g) → (s.lku.signals[g]).holds < 15

/-- A set that was empty, filled and counted in, keeps the law (R125). -/
theorem SetChanged.kept_of_filled {h : SetHolder} (c : SetChanged h s t) (was : s.setOf h = [])
    (added : FlankAdded (t.setOf h) s t) (room : Countable (t.setOf h) s)
    (path : ¬t.pathless h) : FlankKept s t := by
  rw [FlankKept, State.flankCounted_iff, State.flankCounted_iff]
  rintro ⟨claims, apart, holds, empty⟩
  have naming (x : FlankElement) : t.setsNaming x = s.setsNaming x +
      if NamesElement s.config (t.setOf h) x then 1 else 0 := by
    have change := c.naming x
    rwa [was, if_neg (c := NamesElement s.config [] x) (by simp [NamesElement])] at change
  refine ⟨fun p q => ?_, fun p => ?_, fun g => ?_, fun x ended => ?_⟩
  · have before := claims p q
    rw [added.1, naming]
    refine ⟨by omega, ?_⟩
    split
    · next named =>
      have := (room.claims p q named).1
      omega
    · omega
  · have before := apart p
    rw [added.1, added.1]
    by_cases normal : NamesElement s.config (t.setOf h) (.point p .normal)
    · obtain ⟨-, zero, other⟩ := room.claims p .normal normal
      exact .inr (by
        rw [show Position.reverse = Position.normal.other from rfl, zero, if_neg other])
    · by_cases reverse : NamesElement s.config (t.setOf h) (.point p .reverse)
      · obtain ⟨-, zero, -⟩ := room.claims p .reverse reverse
        exact .inl (by rw [if_neg normal]; exact zero)
      · simpa [normal, reverse] using before
  · have before := holds g
    rw [added.2, naming]
    refine ⟨by omega, ?_⟩
    split
    · next named =>
      have := room.holds g named
      omega
    · omega
  · by_cases own : x = h
    · exact absurd (own ▸ ended) path
    · rw [c.others x own, empty x (c.pathless x own ended)]

end

end Sys2Proof.Machine
end

section
/-! The laws of the offer table (R81, R148, R150, R156) beside those of the flank counts (R71,
R120): what keeps both, and the releases of routes and hosted portions (R86, R106, R109, R155). -/

namespace Sys2Proof.Machine

open Sys2Proof

section
variable {s t u : State}

/-! ## Offer records that leave with their references -/

/-- From `s` to `t` the laws of the routes' references to offer records are kept. -/
structure RefsKept (s t : State) : Prop where
  owned : s.OffersOwned → t.OffersOwned
  held : s.OffersOwned → s.OffersHeld → t.OffersHeld

/-- From `s` to `t` the laws of the offer table are kept, those of the references too. -/
structure OffersKept (s t : State) : Prop extends RefsKept s t where
  lawful : s.OffersLawful → t.OffersLawful

theorem RefsKept.trans (h : RefsKept s t) (k : RefsKept t u) : RefsKept s u :=
  ⟨k.owned ∘ h.owned, fun own held => k.held (h.owned own) (h.held own held)⟩

theorem OffersKept.trans (h : OffersKept s t) (k : OffersKept t u) : OffersKept s u :=
  ⟨h.toRefsKept.trans k.toRefsKept, k.lawful ∘ h.lawful⟩

/-- References of routes go exactly with the records they name, and no route loses its path that
still has one. -/
structure RefsShrink (s t : State) : Prop where
  refs : ∀ r : Fin 64, ((t.lku.routes[r]).offers).Sublist (s.lku.routes[r]).offers
  named : ∀ (r : Fin 64) (k : Fin 8), k ∈ (s.lku.routes[r]).offers →
    (k ∈ (t.lku.routes[r]).offers ↔ t.hou.offers[k] = s.hou.offers[k])
  pathless : ∀ r : Fin 64, t.pathless (.owner (.route r)) →
    s.pathless (.owner (.route r)) ∨ (t.lku.routes[r]).offers = []

theorem RefsShrink.refl (s : State) : RefsShrink s s :=
  ⟨fun _ => .refl _, fun _ _ mem => iff_of_true mem rfl, fun _ => .inl⟩

theorem RefsShrink.trans (leave : OffersLeave s t) (later : OffersLeave t u) (h : RefsShrink s t)
    (k : RefsShrink t u) : RefsShrink s u := by
  refine ⟨fun r => (k.refs r).trans (h.refs r), fun r x mem => ?_, fun r ended => ?_⟩
  · by_cases stays : x ∈ (t.lku.routes[r]).offers
    · rw [k.named r x stays, (h.named r x mem).1 stays]
    · have moved := mt (h.named r x mem).2 stays
      have gone := (leave x).resolve_left moved
      have out : u.hou.offers[x] = none := (later x).elim (fun same => same.trans gone) id
      refine ⟨fun late => absurd ((k.refs r).subset late) stays, fun same => ?_⟩
      exact absurd (gone.trans (out.symm.trans same)) moved
  · obtain before | empty := k.pathless r ended
    · obtain first | empty := h.pathless r before
      · exact .inl first
      · exact .inr (List.sublist_nil.1 (empty ▸ k.refs r))
    · exact .inr empty

theorem OffersLeave.trans (h : OffersLeave s t) (k : OffersLeave t u) : OffersLeave s u := fun x =>
  (k x).elim (fun same => (h x).elim (fun before => .inl (same.trans before))
    fun none => .inr (same.trans none)) .inr

theorem OffersLeave.lawful (leave : OffersLeave s t)
    (neighbours : t.hou.neighbours = s.hou.neighbours) (h : s.OffersLawful) : t.OffersLawful := by
  have before {k : Fin 8} {o : Offer} (stands : t.hou.offers[k] = some o) :
      s.hou.offers[k] = some o := by
    obtain same | gone := leave k
    · exact same.symm.trans stands
    · nomatch gone.symm.trans stands
  refine ⟨fun k j o q first second => h.1 k j o q (before first) (before second), ?_⟩
  rw [neighbours]
  exact fun k o stands => h.2 k o (before stands)

/-- Records that leave with their references keep the laws. -/
theorem RefsKept.of_leave (leave : OffersLeave s t) (shrink : s.OffersOwned → RefsShrink s t) :
    RefsKept s t := by
  refine ⟨fun own r k mem => ?_, fun own held => ?_⟩
  · have before := ((shrink own).refs r).subset mem
    rw [((shrink own).named r k before).1 mem]
    exact own r k before
  · obtain ⟨records, routes⟩ := held
    refine ⟨fun k o stands => ?_, fun r => ?_⟩
    · obtain same | gone := leave k
      · obtain ⟨mem, standing⟩ := records k o (same.symm.trans stands)
        have stays := ((shrink own).named _ k mem).2 same
        refine ⟨stays, fun idle => ?_⟩
        obtain ended | empty := (shrink own).pathless _ (.inl idle)
        · rw [(routes _).2 ended] at mem
          nomatch mem
        · rw [empty] at stays
          nomatch stays
      · nomatch gone.symm.trans stands
    · refine ⟨((shrink own).refs r).nodup (routes r).1, fun ended => ?_⟩
      obtain before | empty := (shrink own).pathless r ended
      · exact List.sublist_nil.1 ((routes r).2 before ▸ (shrink own).refs r)
      · exact empty

theorem OffersKept.of_leave (leave : OffersLeave s t)
    (neighbours : t.hou.neighbours = s.hou.neighbours) (shrink : s.OffersOwned → RefsShrink s t) :
    OffersKept s t := ⟨.of_leave leave shrink, leave.lawful neighbours⟩

/-- Records and references that stay keep the laws, where no path ends. -/
theorem OffersKept.of_refs (records : t.hou.offers = s.hou.offers)
    (neighbours : t.hou.neighbours = s.hou.neighbours)
    (refs : ∀ r : Fin 64, (t.lku.routes[r]).offers = (s.lku.routes[r]).offers)
    (pathless : ∀ r : Fin 64, t.pathless (.owner (.route r)) → s.pathless (.owner (.route r))) :
    OffersKept s t :=
  .of_leave (fun k => .inl (by rw [records])) neighbours fun _ =>
    ⟨fun r => refs r ▸ .refl _, fun r k mem => iff_of_true (refs r ▸ mem) (by rw [records]),
      fun r ended => .inl (pathless r ended)⟩

/-! ## Both laws -/

/-- From `s` to `t` the laws of the offers and of the flank counts are kept. -/
structure HoldingsKept (s t : State) : Prop where
  offers : OffersKept s t
  flank : FlankKept s t

theorem HoldingsKept.trans (h : HoldingsKept s t) (k : HoldingsKept t u) : HoldingsKept s u :=
  ⟨h.offers.trans k.offers, k.flank ∘ h.flank⟩

/-- Routes and hosted portions with the references and sets they had, none of them at the end of its
path that was not there before. -/
structure PathsGoOn (s t : State) : Prop where
  refs : ∀ r : Fin 64, (t.lku.routes[r]).offers = (s.lku.routes[r]).offers
  sets : ∀ o, (t.holdOf o).entries = (s.holdOf o).entries
  pathless : ∀ h, t.pathless h → s.pathless h

/-- Of what these laws read, `t` is as `s`, and no path has ended. -/
structure SameHoldings (s t : State) : Prop where
  config : t.config = s.config
  records : t.hou.offers = s.hou.offers ∧ t.hou.neighbours = s.hou.neighbours
  grants : ∀ k : Fin 8, (t.hou.grants[k]).map (·.used) = (s.hou.grants[k]).map (·.used)
  paths : PathsGoOn s t
  claims : ∀ (p : Fin 16) (q : Position), (t.lku.points[p]).claims q = (s.lku.points[p]).claims q
  holds : ∀ g : Fin 16, (t.lku.signals[g]).holds = (s.lku.signals[g]).holds

theorem SameHoldings.sets (h : SameHoldings s t) : SameSets s t where
  config := h.config
  sets
    | .owner o => h.paths.sets o
    | .grant k => congrArg Option.toList (h.grants k)
  pathless := h.paths.pathless
  claims := h.claims
  holds := h.holds

theorem SameHoldings.kept (h : SameHoldings s t) : HoldingsKept s t := by
  obtain ⟨records, neighbours⟩ := h.records
  exact ⟨.of_refs records neighbours h.paths.refs fun r => h.paths.pathless _, h.sets.kept⟩

/-- Routes and portions whose records are literally the same go on. -/
theorem PathsGoOn.of_tables (routes : t.lku.routes = s.lku.routes)
    (portions : t.hou.portions = s.hou.portions) : PathsGoOn s t := by
  refine ⟨fun r => by rw [routes], fun o => ?_, fun h ended => ?_⟩
  · cases o <;> simp only [State.holdOf, routes, portions]
  · match h, ended with
    | .owner (.route r), ended => simpa only [State.pathless, routes] using ended
    | .owner (.portion p), ended => simpa only [State.pathless, portions] using ended

/-- Routes rewritten without a loss of path, references and sets, the portions as they were. -/
theorem PathsGoOn.of_routes
    (routes : ∀ r : Fin 64, (t.lku.routes[r]).offers = (s.lku.routes[r]).offers ∧
      (t.lku.routes[r]).hold.entries = (s.lku.routes[r]).hold.entries ∧
      (t.pathless (.owner (.route r)) → s.pathless (.owner (.route r))))
    (portions : t.hou.portions = s.hou.portions) : PathsGoOn s t := by
  refine ⟨fun r => (routes r).1, fun o => ?_, fun h ended => ?_⟩
  · match o with
    | .route r => exact (routes r).2.1
    | .portion p => simp only [State.holdOf, portions]
  · match h, ended with
    | .owner (.route r), ended => exact (routes r).2.2 ended
    | .owner (.portion p), ended => simpa only [State.pathless, portions] using ended

/-- Portions rewritten without a loss of path and sets, the routes as they were. -/
theorem PathsGoOn.of_portions
    (portions : ∀ p : Fin 16,
      (t.hou.portions[p]).hold.entries = (s.hou.portions[p]).hold.entries ∧
      (t.pathless (.owner (.portion p)) → s.pathless (.owner (.portion p))))
    (routes : t.lku.routes = s.lku.routes) : PathsGoOn s t := by
  refine ⟨fun r => by rw [routes], fun o => ?_, fun h ended => ?_⟩
  · match o with
    | .route r => simp only [State.holdOf, routes]
    | .portion p => exact (portions p).1
  · match h, ended with
    | .owner (.route r), ended => simpa only [State.pathless, routes] using ended
    | .owner (.portion p), ended => exact (portions p).2 ended

/-- The tables that these laws read are in `t` as in `s`. -/
theorem SameHoldings.of_tables (config : t.config = s.config) (lku : t.lku = s.lku)
    (records : t.hou.offers = s.hou.offers ∧ t.hou.neighbours = s.hou.neighbours)
    (hosted : t.hou.portions = s.hou.portions ∧ t.hou.grants = s.hou.grants) :
    SameHoldings s t where
  config := config
  records := records
  grants k := by rw [hosted.2]
  paths := .of_tables (by rw [lku]) hosted.1
  claims p q := by rw [lku]
  holds g := by rw [lku]

/-- The locks of points and signals, the records of neighbours and grants are as they were. -/
theorem SameHoldings.of_paths (config : t.config = s.config)
    (locks : t.lku.points = s.lku.points ∧ t.lku.signals = s.lku.signals)
    (records : t.hou.offers = s.hou.offers ∧ t.hou.neighbours = s.hou.neighbours)
    (grants : t.hou.grants = s.hou.grants) (paths : PathsGoOn s t) : SameHoldings s t where
  config := config
  records := records
  grants k := by rw [grants]
  paths := paths
  claims p q := by rw [locks.1]
  holds g := by rw [locks.2]

/-- The tables that these laws read are in `t` as in `s`. -/
def HoldingsStand (s t : State) : Prop :=
  t.config = s.config ∧ t.lku = s.lku ∧
    (t.hou.offers = s.hou.offers ∧ t.hou.neighbours = s.hou.neighbours) ∧
    t.hou.portions = s.hou.portions ∧ t.hou.grants = s.hou.grants

@[simp] theorem holdingsStand_iff (s t : State) : HoldingsStand s t ↔
    t.config = s.config ∧ t.lku = s.lku ∧
      (t.hou.offers = s.hou.offers ∧ t.hou.neighbours = s.hou.neighbours) ∧
      t.hou.portions = s.hou.portions ∧ t.hou.grants = s.hou.grants := .rfl

theorem HoldingsStand.same (h : HoldingsStand s t) : SameHoldings s t :=
  .of_tables h.1 h.2.1 h.2.2.1 h.2.2.2

theorem HoldingsStand.kept (h : HoldingsStand s t) : HoldingsKept s t := h.same.kept

theorem HoldingsKept.refl (s : State) : HoldingsKept s s :=
  HoldingsStand.kept ⟨rfl, rfl, ⟨rfl, rfl⟩, rfl, rfl⟩

/-- An operation that leaves the tables, before or after one that keeps the laws. -/
theorem HoldingsKept.after (k : HoldingsKept t u) (h : HoldingsStand s t) : HoldingsKept s u :=
  h.kept.trans k

theorem HoldingsKept.andSame (h : HoldingsKept s t) (k : HoldingsStand t u) : HoldingsKept s u :=
  h.trans k.kept

theorem State.forEach_holdings {α : Type} (f : State → α → State)
    (h : ∀ s x, HoldingsKept s (f s x)) (s : State) (xs : List α) :
    HoldingsKept s (s.forEach xs f) :=
  State.forEach_induct (HoldingsKept s) f (fun t x k => k.trans (h t x)) s xs (.refl s)

end

/-! ## One route, one portion -/

section
variable (s : State)

/-- A route record rewritten that keeps its references and its set, and whose path does not end. -/
theorem State.updRoute_sameHoldings (r : Fin 64) (f : RouteRec → RouteRec)
    (offers : (f s.lku.routes[r]).offers = (s.lku.routes[r]).offers)
    (entries : (f s.lku.routes[r]).hold.entries = (s.lku.routes[r]).hold.entries)
    (path : (f s.lku.routes[r]).state = .idle ∨ (f s.lku.routes[r]).state = .overlapHeld →
      s.pathless (.owner (.route r))) : SameHoldings s (s.updRoute r f) := by
  refine .of_paths (by simp) (by simp) (by simp) (by simp) (.of_routes (fun x => ?_) (by simp))
  simp only [State.pathless, State.updRoute_routes, upd_get]
  split
  · next same => subst same; exact ⟨offers, entries, path⟩
  · exact ⟨rfl, rfl, id⟩

theorem State.updPortion_sameHoldings (p : Fin 16) (f : PortionRec → PortionRec)
    (entries : (f s.hou.portions[p]).hold.entries = (s.hou.portions[p]).hold.entries)
    (path : (f s.hou.portions[p]).state = .idle ∨ (f s.hou.portions[p]).state = .overlapHeld →
      s.pathless (.owner (.portion p))) : SameHoldings s (s.updPortion p f) := by
  refine .of_paths (by simp) (by simp) (by simp) (by simp) (.of_portions (fun x => ?_) (by simp))
  simp only [State.pathless, State.updPortion_portions, upd_get]
  split
  · next same => subst same; exact ⟨entries, path⟩
  · exact ⟨rfl, id⟩

/-- A hold rewritten that keeps its flank entries. -/
theorem State.updHold_sameHoldings (o : Owner) (f : Hold → Hold)
    (entries : (f (s.holdOf o)).entries = (s.holdOf o).entries) :
    SameHoldings s (s.updHold o f) := by
  match o with
  | .route r => exact s.updRoute_sameHoldings r _ rfl entries id
  | .portion p => exact s.updPortion_sameHoldings p _ entries id

theorem State.freeElements_sameHoldings (o : Owner) (roles : Role → Bool) :
    SameHoldings s (s.freeElements o roles) where
  config := by simp
  records := by simp
  grants _ := by simp
  paths := .of_tables (by simp) (by simp)
  claims := (s.freeElements_counts o roles).1
  holds := (s.freeElements_counts o roles).2

/-- Pool references and the pool do not enter these laws. -/
theorem SameHoldings.of_poolless {s t : State} (config : t.config = s.config)
    (locks : t.lku.points = s.lku.points ∧ t.lku.signals = s.lku.signals) (hou : t.hou = s.hou)
    (routes : ∀ r : Fin 64, (t.lku.routes[r]).poolless = (s.lku.routes[r]).poolless) :
    SameHoldings s t := by
  refine .of_paths config locks (by simp [hou]) (by simp [hou])
    (.of_routes (fun r => ?_) (by rw [hou]))
  obtain ⟨alike, offers⟩ := RouteAlike.of_poolless (routes r)
  exact ⟨offers, alike.entries, by simp only [State.pathless, alike.state]; exact id⟩

theorem State.giveUpTimer_sameHoldings (r : Fin 64) : SameHoldings s (s.giveUpTimer r) :=
  .of_poolless (by simp) (by simp) (by simp) (s.giveUpTimer_poolless r)

theorem State.grantHead_sameHoldings (k : Fin 16) : SameHoldings s (s.grantHead k) :=
  .of_poolless (by simp) (by simp) (by simp) (s.grantHead_poolless k)

theorem State.requestTimer_poolless (r x : Fin 64) :
    ((s.requestTimer r).lku.routes[x]).poolless = (s.lku.routes[x]).poolless := by
  unfold State.requestTimer
  split
  · next k _ =>
    exact State.updRoute_poolless _ (f := fun c => { c with pool := .timer k }) (fun _ => rfl) r x
  · exact State.updRoute_poolless _ (f := fun c => { c with pool := .queued }) (fun _ => rfl) r x

theorem State.requestTimer_sameHoldings (r : Fin 64) : SameHoldings s (s.requestTimer r) :=
  .of_poolless (by simp) (by simp) (by simp) (s.requestTimer_poolless r)

/-! ## One set rewritten -/

section
variable {s} {t u : State}

theorem SetChanged.trans {h : SetHolder} (c : SetChanged h s t) (d : SetChanged h t u) :
    SetChanged h s u :=
  ⟨d.config.trans c.config, fun x other => (d.others x other).trans (c.others x other),
    fun x other ended => c.pathless x other (d.pathless x other ended)⟩

theorem SetChanged.of_tables (h : SetHolder) (config : t.config = s.config)
    (routes : t.lku.routes = s.lku.routes) (hou : t.hou = s.hou) : SetChanged h s t := by
  refine ⟨config, fun x _ => ?_, fun x _ ended => ?_⟩
  · match x with
    | .owner (.route r) => simp only [State.setOf, State.holdOf, routes]
    | .owner (.portion p) => simp only [State.setOf, State.holdOf, hou]
    | .grant k => simp only [State.setOf, hou]
  · match x, ended with
    | .owner (.route r), ended => simpa only [State.pathless, routes] using ended
    | .owner (.portion p), ended => simpa only [State.pathless, hou] using ended

end

theorem State.updRoute_route (r x : Fin 64) (f : RouteRec → RouteRec) :
    (s.updRoute r f).lku.routes[x] = if r = x then f s.lku.routes[x] else s.lku.routes[x] := by
  rw [State.updRoute_routes, upd_get]

theorem State.updPortion_portion (p x : Fin 16) (f : PortionRec → PortionRec) :
    (s.updPortion p f).hou.portions[x] =
      if p = x then f s.hou.portions[x] else s.hou.portions[x] := by
  rw [State.updPortion_portions, upd_get]

theorem State.updRoute_setChanged (r : Fin 64) (f : RouteRec → RouteRec) :
    SetChanged (.owner (.route r)) s (s.updRoute r f) := by
  refine ⟨by simp, fun h other => ?_, fun h other ended => ?_⟩
  · match h, other with
    | .owner (.route x), other =>
      have apart : r ≠ x := fun e => other (by rw [e])
      simp only [State.setOf, State.holdOf, State.updRoute_route, if_neg apart]
    | .owner (.portion p), _ => simp [State.setOf, State.holdOf]
    | .grant k, _ => simp [State.setOf]
  · match h, other, ended with
    | .owner (.route x), other, ended =>
      have apart : r ≠ x := fun e => other (by rw [e])
      simpa only [State.pathless, State.updRoute_route, if_neg apart] using ended
    | .owner (.portion p), _, ended => simpa [State.pathless] using ended

theorem State.updPortion_setChanged (p : Fin 16) (f : PortionRec → PortionRec) :
    SetChanged (.owner (.portion p)) s (s.updPortion p f) := by
  refine ⟨by simp, fun h other => ?_, fun h other ended => ?_⟩
  · match h, other with
    | .owner (.portion x), other =>
      have apart : p ≠ x := fun e => other (by rw [e])
      simp only [State.setOf, State.holdOf, State.updPortion_portion, if_neg apart]
    | .owner (.route r), _ => simp [State.setOf, State.holdOf]
    | .grant k, _ => simp [State.setOf]
  · match h, other, ended with
    | .owner (.portion x), other, ended =>
      have apart : p ≠ x := fun e => other (by rw [e])
      simpa only [State.pathless, State.updPortion_portion, if_neg apart] using ended
    | .owner (.route r), _, ended => simpa [State.pathless] using ended

theorem State.updHold_setChanged (o : Owner) (f : Hold → Hold) :
    SetChanged (.owner o) s (s.updHold o f) := by
  match o with
  | .route r => exact s.updRoute_setChanged r _
  | .portion p => exact s.updPortion_setChanged p _

theorem State.updHold_setOf (o : Owner) (f : Hold → Hold) :
    (s.updHold o f).setOf (.owner o) = (f (s.holdOf o)).entries := by
  match o with
  | .route r =>
    simp only [State.setOf, State.holdOf, State.updHold, State.updRoute_route, if_pos]
  | .portion p =>
    simp only [State.setOf, State.holdOf, State.updHold, State.updPortion_portion, if_pos]

theorem State.idleRoute_route (r x : Fin 64) : (s.idleRoute r).lku.routes[x] =
    if r = x then RouteRec.idle (idleOverlap s.config (.route r)) else s.lku.routes[x] :=
  s.updRoute_route r x _

/-! ## Sets given back (R126) -/

theorem State.dropFlank_refs (o : Owner) (r : Fin 64) :
    ((s.dropFlank o).lku.routes[r]).offers = (s.lku.routes[r]).offers ∧
      ((s.dropFlank o).lku.routes[r]).state = (s.lku.routes[r]).state := by
  match o with
  | .route x =>
    simp only [State.dropFlank, State.updHold, State.updRoute_routes, upd_get]
    split <;> simp
  | .portion p => simp [State.dropFlank, State.updHold]

theorem State.dropFlank_portion (o : Owner) (p : Fin 16) :
    ((s.dropFlank o).hou.portions[p]).state = (s.hou.portions[p]).state := by
  match o with
  | .route x => simp [State.dropFlank, State.updHold]
  | .portion x =>
    simp only [State.dropFlank, State.updHold, State.updPortion_portions, upd_get]
    split <;> simp

theorem State.dropFlank_setOf (o : Owner) : (s.dropFlank o).setOf (.owner o) = [] :=
  State.updHold_setOf _ o _

theorem State.dropFlank_kept (o : Owner) : HoldingsKept s (s.dropFlank o) := by
  have changed : SetChanged (.owner o) s (s.dropFlank o) :=
    (SetChanged.of_tables _ (by simp) (by simp) (by simp)).trans
      (State.updHold_setChanged (s.releaseFlank (s.holdOf o).flank) o _)
  have removed : FlankRemoved (s.setOf (.owner o)) s (s.dropFlank o) := by
    obtain ⟨-, points, signals⟩ := s.dropFlank_locks o
    rw [FlankRemoved, points, signals]
    exact s.releaseFlank_removed (s.holdOf o).flank
  refine ⟨.of_refs (by simp) (by simp) (fun r => (s.dropFlank_refs o r).1) fun r ended => ?_,
    changed.kept_of_emptied (s.dropFlank_setOf o) removed⟩
  simpa only [State.pathless, (s.dropFlank_refs o r).2] using ended

/-! ## Records handed back (R150, R151) -/

theorem State.removeOffer_leave (k : Fin 8) : OffersLeave s (s.removeOffer k) := fun j => by
  unfold State.removeOffer
  split
  · exact .inl rfl
  · simp only [State.updRoute_keeps, State.updOffer_offers, upd_get]
    split
    · exact .inr rfl
    · exact .inl rfl

theorem State.removeOffer_alike (k : Fin 8) (r : Fin 64) :
    RouteAlike s.lku.routes[r] (s.removeOffer k).lku.routes[r] := by
  cases stands : s.hou.offers[k] with
  | none => rw [State.removeOffer, stands]; exact .refl _
  | some o =>
    rw [s.removeOffer_route stands]
    split
    · exact RouteRec.dropOffer_alike _ k
    · exact .refl _

theorem State.removeOffer_shrink (own : s.OffersOwned) (k : Fin 8) :
    RefsShrink s (s.removeOffer k) := by
  cases stands : s.hou.offers[k] with
  | none => rw [State.removeOffer, stands]; exact .refl s
  | some o =>
    have route := s.removeOffer_route stands
    have records (j : Fin 8) : (s.removeOffer k).hou.offers[j] =
        if k = j then none else s.hou.offers[j] := by
      rw [s.removeOffer_some stands]
      exact upd_get _ k j _
    refine ⟨fun r => ?_, fun r j mem => ?_, fun r ended => .inl ?_⟩
    · rw [route]
      split
      · exact List.filter_sublist
      · exact .refl _
    · obtain ⟨q, names, owner⟩ := own r j mem
      rw [route, records, names]
      by_cases same : k = j
      · subst same
        obtain rfl : o = q := Option.some.inj (stands.symm.trans names)
        simp [owner, RouteRec.dropOffer]
      · refine iff_of_true ?_ (if_neg same)
        split
        · exact List.mem_filter.2 ⟨mem, by simp [Ne.symm same]⟩
        · exact mem
    · simpa only [State.pathless, (s.removeOffer_alike k r).state] using ended

/-- Sets and states of routes that stay. -/
theorem SameSets.of_routes {s t : State} (config : t.config = s.config)
    (locks : t.lku.points = s.lku.points ∧ t.lku.signals = s.lku.signals)
    (hosted : t.hou.portions = s.hou.portions ∧ t.hou.grants = s.hou.grants)
    (routes : ∀ r : Fin 64, (t.lku.routes[r]).hold.entries = (s.lku.routes[r]).hold.entries ∧
      (t.lku.routes[r]).state = (s.lku.routes[r]).state) : SameSets s t := by
  refine ⟨config, fun h => ?_, fun h ended => ?_, fun p q => by rw [locks.1],
    fun g => by rw [locks.2]⟩
  · match h with
    | .owner (.route r) => exact (routes r).1
    | .owner (.portion p) => simp only [State.setOf, State.holdOf, hosted.1]
    | .grant k => simp only [State.setOf, hosted.2]
  · match h, ended with
    | .owner (.route r), ended => simpa only [State.pathless, (routes r).2] using ended
    | .owner (.portion p), ended => simpa only [State.pathless, hosted.1] using ended

theorem SameSets.of_alike {s t : State} (config : t.config = s.config)
    (locks : t.lku.points = s.lku.points ∧ t.lku.signals = s.lku.signals)
    (hosted : t.hou.portions = s.hou.portions ∧ t.hou.grants = s.hou.grants)
    (routes : ∀ r : Fin 64, RouteAlike s.lku.routes[r] t.lku.routes[r]) : SameSets s t :=
  .of_routes config locks hosted fun r => ⟨(routes r).entries, (routes r).state⟩

theorem State.removeOffer_kept (k : Fin 8) : HoldingsKept s (s.removeOffer k) :=
  ⟨.of_leave (s.removeOffer_leave k) (by simp) fun own => s.removeOffer_shrink own k,
    (SameSets.of_alike (by simp) (by simp) (by simp) (s.removeOffer_alike k)).kept⟩

theorem State.toNeighbour_kept (n : Fin 4) (p : Payload) : HoldingsKept s (s.toNeighbour n p) :=
  HoldingsStand.kept (by simp)

theorem State.handBack_removeOffer (k : Fin 8) : (s.handBack k).lku = (s.removeOffer k).lku ∧
    (s.handBack k).hou = (s.removeOffer k).hou := by
  cases stands : s.hou.offers[k] with
  | none => rw [State.handBack, State.removeOffer, stands]; exact ⟨rfl, rfl⟩
  | some o => rw [s.handBack_some stands]; simp

theorem State.handBack_kept (k : Fin 8) : HoldingsKept s (s.handBack k) := by
  obtain ⟨lku, hou⟩ := s.handBack_removeOffer k
  exact (s.removeOffer_kept k).andSame (by simp [lku, hou])

/-- What handing back all records of a route leaves of records, references and sets. -/
theorem State.handBackAll_kept (r : Fin 64) : HoldingsKept s (s.handBackAll r) :=
  State.forEach_holdings _ State.handBack_kept s _

theorem State.handBackAll_alike (x r : Fin 64) :
    RouteAlike s.lku.routes[r] (s.handBackAll x).lku.routes[r] :=
  State.forEach_induct (fun t => RouteAlike s.lku.routes[r] t.lku.routes[r]) _
    (fun t k alike => by
      rw [(t.handBack_removeOffer k).1]
      exact alike.trans (t.removeOffer_alike k r)) s _ (.refl _)

/-- A route whose references all name records of its own has none left when it has handed them
back. -/
theorem State.handBackAll_refs (own : s.OffersOwned) (r : Fin 64) :
    ((s.handBackAll r).lku.routes[r]).offers = [] := by
  obtain ⟨ks, same, back⟩ := s.handBacks_dropped own (s.lku.routes[r]).offers
  refine List.eq_nil_iff_forall_not_mem.2 fun k mem => ?_
  obtain ⟨before, left⟩ := (back.refs r k).1 mem
  exact left ((same k).2 before)

/-! ## Paths that end -/

/-- A route whose set is empty may lose its path. -/
theorem State.updRoute_flankKept (r : Fin 64) (f : RouteRec → RouteRec)
    (empty : s.setOf (.owner (.route r)) = []) (entries : (f s.lku.routes[r]).hold.entries = []) :
    FlankKept s (s.updRoute r f) := by
  refine (s.updRoute_setChanged r f).kept_of_emptied ?_ ?_
  · simpa only [State.setOf, State.holdOf, State.updRoute_route, if_pos] using entries
  · rw [empty]
    simp [FlankRemoved, NamesElement]

/-- A route without references may lose its path. -/
theorem State.updRoute_shrink (r : Fin 64) (f : RouteRec → RouteRec)
    (refs : (s.lku.routes[r]).offers = []) (offers : (f s.lku.routes[r]).offers = []) :
    RefsShrink s (s.updRoute r f) := by
  refine ⟨fun x => ?_, fun x k mem => ?_, fun x ended => ?_⟩
  · rw [State.updRoute_route]
    split
    · next same => subst same; rw [offers]; exact List.nil_sublist _
    · exact .refl _
  · have other : r ≠ x := by
      rintro rfl
      rw [refs] at mem
      nomatch mem
    exact iff_of_true (by rwa [State.updRoute_route, if_neg other]) (by simp)
  · by_cases same : r = x
    · subst same
      exact .inr (by rw [State.updRoute_route, if_pos rfl, offers])
    · exact .inl (by simpa only [State.pathless, State.updRoute_route, if_neg same] using ended)

/-- A route that has given back its set and handed back its records may lose its path. -/
theorem HoldingsKept.pathEnds {s w : State} (h : HoldingsKept s w) (r : Fin 64)
    (f : RouteRec → RouteRec) (empty : w.setOf (.owner (.route r)) = [])
    (refs : s.OffersOwned → (w.lku.routes[r]).offers = [])
    (offers : (w.lku.routes[r]).offers = [] → (f w.lku.routes[r]).offers = [])
    (entries : (f w.lku.routes[r]).hold.entries = []) : HoldingsKept s (w.updRoute r f) := by
  have after (own : s.OffersOwned) : OffersKept s (w.updRoute r f) :=
    h.offers.trans (.of_leave (fun k => .inl (by simp)) (by simp) fun _ =>
      w.updRoute_shrink r f (refs own) (offers (refs own)))
  have lawful : w.OffersLawful → (w.updRoute r f).OffersLawful :=
    OffersLeave.lawful (fun k => .inl (by simp)) (by simp)
  exact ⟨⟨⟨fun own => (after own).owned own, fun own => (after own).held own⟩,
    lawful ∘ h.offers.lawful⟩, w.updRoute_flankKept r f empty entries ∘ h.flank⟩

/-- A portion whose set is empty may lose its path. -/
theorem State.updPortion_ended (p : Fin 16) (f : PortionRec → PortionRec)
    (empty : s.setOf (.owner (.portion p)) = [])
    (entries : (f s.hou.portions[p]).hold.entries = []) : HoldingsKept s (s.updPortion p f) := by
  refine ⟨.of_refs rfl rfl (fun _ => rfl) fun _ => id,
    (s.updPortion_setChanged p f).kept_of_emptied ?_ ?_⟩
  · simpa only [State.setOf, State.holdOf, State.updPortion_portion, if_pos] using entries
  · rw [empty]
    simp [FlankRemoved, NamesElement]

theorem State.pathless_setOf {h : SetHolder} (counted : s.FlankCounted) (ended : s.pathless h) :
    s.setOf h = [] :=
  (State.flankCounted_iff.1 counted).2.2.2 h ended

/-- A route in IDLE or OVERLAP_HELD has no references, so it may be rewritten without any. -/
theorem State.updRoute_restarted (r : Fin 64) (f : RouteRec → RouteRec)
    (ended : s.pathless (.owner (.route r))) (offers : (f s.lku.routes[r]).offers = []) :
    OffersKept s (s.updRoute r f) := by
  refine ⟨⟨fun own x k mem => ?_, fun own held => ?_⟩,
    OffersLeave.lawful (fun k => .inl (by simp)) (by simp)⟩
  · rw [State.updRoute_route] at mem
    split at mem
    · next same =>
      rw [← same, offers] at mem
      nomatch mem
    · simpa using own x k mem
  · have shrink := s.updRoute_shrink r f ((held.2 r).2 ended) offers
    exact (RefsKept.of_leave (fun k => .inl (by simp)) fun _ => shrink).held own held

/-- A route in IDLE or OVERLAP_HELD has neither references nor a set, so it may become IDLE. -/
theorem State.idleRoute_kept (r : Fin 64) (ended : s.pathless (.owner (.route r))) :
    HoldingsKept s (s.idleRoute r) :=
  ⟨s.updRoute_restarted r _ ended rfl,
    fun counted => s.updRoute_flankKept r _ (s.pathless_setOf counted ended) rfl counted⟩

theorem State.idlePortion_kept (p : Fin 16) (ended : s.pathless (.owner (.portion p))) :
    HoldingsKept s (s.idlePortion p) :=
  ⟨.of_refs rfl rfl (fun _ => rfl) fun _ => id,
    fun counted => (s.updPortion_ended p _ (s.pathless_setOf counted ended) rfl).flank counted⟩

/-! ## Releases -/

/-- The offers of a route handed back after its set: it has neither any more. -/
theorem State.handBackAll_ended (own : s.OffersOwned) (r : Fin 64) :
    (((s.dropFlank (.route r)).handBackAll r).lku.routes[r]).offers = [] :=
  State.handBackAll_refs _ ((s.dropFlank_kept (.route r)).offers.owned own) r

theorem State.handBackAll_setOf {r : Fin 64} (empty : s.setOf (.owner (.route r)) = []) :
    (s.handBackAll r).setOf (.owner (.route r)) = [] :=
  ((s.handBackAll_alike r r).entries).trans empty

theorem State.giveUpTimer_setOf (r : Fin 64) (h : SetHolder) :
    (s.giveUpTimer r).setOf h = s.setOf h := (s.giveUpTimer_sameHoldings r).sets.sets h

theorem State.fullRelease_kept (r : Fin 64) : HoldingsKept s (s.fullRelease r) := by
  have free := s.freeElements_sameHoldings (.route r) anyRole
  set u := s.freeElements (.route r) anyRole with hu
  have dropped := u.dropFlank_kept (.route r)
  have back := (u.dropFlank (.route r)).handBackAll_kept r
  set v := (u.dropFlank (.route r)).handBackAll r with hv
  have given := v.giveUpTimer_sameHoldings r
  have before : HoldingsKept s (v.giveUpTimer r) :=
    ((free.kept.trans dropped).trans back).trans given.kept
  refine before.pathEnds r _ ?_ (fun own => ?_) (fun _ => rfl) rfl
  · rw [State.giveUpTimer_setOf]
    exact State.handBackAll_setOf _ (u.dropFlank_setOf _)
  · rw [given.paths.refs]
    exact u.handBackAll_ended (free.kept.offers.owned own) r

theorem State.failSetting_kept (r : Fin 64) : HoldingsKept s (s.failSetting r) := by
  unfold State.failSetting
  split
  · exact s.fullRelease_kept r
  · exact .refl s

theorem State.releasePortion_kept (p : Fin 16) : HoldingsKept s (s.releasePortion p) := by
  have free := s.freeElements_sameHoldings (.portion p) anyRole
  have dropped := (s.freeElements (.portion p) anyRole).dropFlank_kept (.portion p)
  exact (free.kept.trans dropped).trans
    (State.updPortion_ended _ p _ (State.dropFlank_setOf _ _) rfl)

theorem State.releaseOverlap_kept (o : Owner) (ended : s.pathless (.owner o)) :
    HoldingsKept s (s.releaseOverlap o) := by
  have free := s.freeElements_sameHoldings o overlapRole
  match o, ended with
  | .route r, ended =>
    exact free.kept.trans (State.idleRoute_kept _ r (by simpa [State.pathless] using ended))
  | .portion p, ended =>
    exact free.kept.trans (State.idlePortion_kept _ p (by simpa [State.pathless] using ended))

theorem State.tryOverlap_kept (o : Owner) (ended : s.pathless (.owner o)) :
    HoldingsKept s (s.tryOverlap o) := by
  unfold State.tryOverlap
  split
  · exact s.releaseOverlap_kept o ended
  · exact .refl s

/-! ## The train on the path (R104 to R108) -/

theorem State.markPath_sameHoldings (o : Owner) (k : Fin 32) (occ : Bool) :
    SameHoldings s (s.markPath o k occ) := s.updHold_sameHoldings o _ rfl

theorem State.updSectionLock_sameHoldings (k : Fin 32) (f : SectionLock → SectionLock) :
    SameHoldings s (s.updSectionLock k f) :=
  ⟨rfl, ⟨rfl, rfl⟩, fun _ => rfl, .of_tables rfl rfl, fun _ _ => rfl, fun _ => rfl⟩

/-- Holders and block flags do not enter these laws. -/
theorem State.updPointLock_sameHoldings (p : Fin 16) (f : PointLock → PointLock)
    (claims : ∀ l q, (f l).claims q = l.claims q) : SameHoldings s (s.updPointLock p f) := by
  refine ⟨rfl, ⟨rfl, rfl⟩, fun _ => rfl, .of_tables rfl rfl, fun x q => ?_, fun _ => rfl⟩
  rw [State.updPointLock_points, upd_get]
  split
  · exact claims _ q
  · rfl

theorem State.updSignalLock_sameHoldings (g : Fin 16) (f : SignalLock → SignalLock)
    (holds : ∀ l, (f l).holds = l.holds) : SameHoldings s (s.updSignalLock g f) := by
  refine ⟨rfl, ⟨rfl, rfl⟩, fun _ => rfl, .of_tables rfl rfl, fun _ _ => rfl, fun x => ?_⟩
  rw [State.updSignalLock_signals, upd_get]
  split
  · exact holds _
  · rfl

theorem PointLock.claims_holder (l : PointLock) (h : Option Holder) (q : Position) :
    ({ l with holder := h } : PointLock).claims q = l.claims q := by cases q <;> rfl

theorem State.releaseSection_kept (o : Owner) (i : Fin 8) (k : Fin 32) :
    HoldingsKept s (s.releaseSection o i k) := by
  set u := (s.updHold o fun h => { h with status := upd h.status i fun _ => .released }) with hu
  set v := u.updSectionLock k fun l => { l with holder := dropHolder o pathRole l.holder } with hv
  have status : HoldingsKept s v :=
    (s.updHold_sameHoldings o _ rfl).kept.trans (u.updSectionLock_sameHoldings k _).kept
  have points : HoldingsKept v (v.freePoints o k (pointsOf v.config o)) :=
    State.forEach_holdings _ (fun t q => by
      split
      · exact (t.updPointLock_sameHoldings q.1 _ fun l _ => l.claims_holder _ _).kept
      · exact .refl t) v _
  have entry (t : State) : HoldingsKept t (t.freeEntry o) := by
    unfold State.freeEntry
    split
    · exact .refl t
    · split
      · exact .refl t
      · refine (t.updSignalLock_sameHoldings _ _ ?_).kept
        exact fun _ => rfl
  simp only [State.releaseSection]
  split
  · exact (status.trans points).trans (entry _)
  · exact status.trans points

theorem State.releaseFrom_kept (o : Owner) (qs : List (Fin 8 × Fin 32)) :
    HoldingsKept s (s.releaseFrom o qs) := by
  induction qs generalizing s with
  | nil => exact .refl s
  | cons q qs ih =>
    rw [State.releaseFrom]
    split
    · exact ih s
    · split
      · exact (s.releaseSection_kept o q.1 q.2).trans (ih _)
      · exact .refl s

/-- The entry into OVERLAP_HELD of a route without a path. -/
theorem State.enterOverlapHeld_kept {w : State} (h : HoldingsKept s w) (r : Fin 64)
    (empty : w.setOf (.owner (.route r)) = [])
    (refs : s.OffersOwned → (w.lku.routes[r]).offers = []) :
    HoldingsKept s (w.enterOverlapHeld r) := by
  have held := h.pathEnds r (fun c => { c with state := .overlapHeld }) empty refs id empty
  simp only [State.enterOverlapHeld]
  split
  · refine held.trans (State.tryOverlap_kept _ _ (.inr ?_))
    rw [State.updRoute_route, if_pos rfl]
  · exact held.trans (State.requestTimer_sameHoldings _ r).kept

theorem State.endPath_kept (o : Owner) : HoldingsKept s (s.endPath o) := by
  have dropped := s.dropFlank_kept o
  match o with
  | .route r =>
    have back := dropped.trans (State.handBackAll_kept _ r)
    have empty := State.handBackAll_setOf _ (s.dropFlank_setOf (.route r))
    simp only [State.endPath]
    split
    · exact s.enterOverlapHeld_kept back r empty fun own => s.handBackAll_ended own r
    · exact back.pathEnds r _ empty (fun own => s.handBackAll_ended own r) (fun _ => rfl) rfl
  | .portion p =>
    have empty := s.dropFlank_setOf (.portion p)
    simp only [State.endPath]
    split
    · refine (dropped.trans (State.updPortion_ended _ p
        (fun c => { c with state := .overlapHeld }) empty empty)).trans
        (State.tryOverlap_kept _ _ (.inr ?_))
      rw [State.updPortion_portion, if_pos rfl]
    · exact dropped.trans (State.updPortion_ended _ p _ empty rfl)

theorem State.followTrain_kept (o : Owner) (k : Fin 32) (occ : Bool) :
    HoldingsKept s (s.followTrain o k occ) := by
  have marked := (s.markPath_sameHoldings o k occ).kept.trans (State.releaseFrom_kept _ o
    (pathPlaces (s.markPath o k occ).config o))
  simp only [State.followTrain]
  split
  · exact marked.trans (State.endPath_kept _ o)
  · exact marked

theorem State.cancelLocked_kept (r : Fin 64) :
    HoldingsKept s (s.cancelLocked r) := by
  unfold State.cancelLocked
  split
  · exact s.fullRelease_kept r
  · exact (s.updRoute_sameHoldings r _ rfl rfl (by simp)).kept.trans
      (State.requestTimer_sameHoldings _ r).kept

end

end Sys2Proof.Machine
end

section
/-! The laws of the offers and of the flank counts through notices and setting events (R81 to R84,
R88 to R90, R125, R128, R154). -/

namespace Sys2Proof.Machine

open Sys2Proof

/-! ## Tests and notices -/

section
variable (s : State)

theorem State.setFault_kept (kind : FaultKind) (e : Byte) : HoldingsKept s (s.setFault kind e) :=
  HoldingsStand.kept (by simp)

theorem State.completionTest_kept (r : Fin 64) : HoldingsKept s (s.completionTest r) := by
  by_cases ready : s.ready r
  · rw [State.completionTest_ready ready]
    exact (s.updRoute_sameHoldings r (fun c => { c with state := .locked, setting := .stopped })
      rfl rfl (by simp)).kept.andSame (by simp)
  · rw [State.completionTest_waiting ready]
    exact .refl s

theorem State.completionTests_kept (rs : List (Fin 64)) : HoldingsKept s (s.completionTests rs) :=
  State.forEach_holdings _ State.completionTest_kept s rs

theorem PortionState.proved_pathless (ok : Bool) (x : PortionState) :
    x.proved ok = .idle ∨ x.proved ok = .overlapHeld → x = .idle ∨ x = .overlapHeld := by
  cases x <;> cases ok <;> simp [PortionState.proved]

theorem State.provingTest_kept (p : Fin 16) : HoldingsKept s (s.provingTest p) :=
  (s.updPortion_sameHoldings p _ rfl (PortionState.proved_pathless _ _)).kept

theorem State.provingTests_kept (ps : List (Fin 16)) : HoldingsKept s (s.provingTests ps) :=
  State.forEach_holdings _ State.provingTest_kept s ps

/-- Grants rewritten that use the same entries. -/
theorem State.mapGrants_kept (f : Fin 8 → Option Grant → Option Grant)
    (used : ∀ k, (f k s.hou.grants[k]).map (·.used) = (s.hou.grants[k]).map (·.used)) :
    HoldingsKept s (s.mapGrants f) := by
  have same : SameHoldings s (s.mapGrants f) :=
    { config := rfl
      records := ⟨rfl, rfl⟩
      grants := fun k => by
        rw [← used k, State.mapGrants, mapTab_get]
      paths := .of_tables rfl rfl
      claims := fun _ _ => rfl
      holds := fun _ => rfl }
  exact same.kept

theorem State.proveGrants_kept (names : FlankElement → Bool) :
    HoldingsKept s (s.proveGrants names) := by
  refine s.mapGrants_kept _ fun k => ?_
  cases s.hou.grants[k] with
  | none => rfl
  | some g =>
    simp only [Option.map_some]
    split <;> rfl

theorem State.notePassed_kept (r : Fin 64) (g : Fin 16) : HoldingsKept s (s.notePassed r g) :=
  (s.setFault_kept _ _).trans
    (State.updRoute_sameHoldings _ r (fun c => { c with note := true }) rfl rfl id).kept

theorem State.trainEntry_kept (r : Fin 64) (g : Fin 16) : HoldingsKept s (s.trainEntry r g) := by
  have first : HoldingsKept s
      (if (s.lku.routes[r]).state = .approachHeld then s.giveUpTimer r else s) := by
    split
    · exact (s.giveUpTimer_sameHoldings r).kept
    · exact .refl s
  unfold State.trainEntry
  generalize (if (s.lku.routes[r]).state = .approachHeld then s.giveUpTimer r else s) = t at first
  simp only
  have entered := first.trans (t.updRoute_sameHoldings r (fun c => { c with
    state := .inUse
    hold := { c.hold with status := upd c.hold.status 0 fun _ => .seenOccupied } })
    rfl rfl (by simp)).kept
  split
  · exact entered.trans (State.notePassed_kept _ r g)
  · exact entered

theorem State.entryNotice_kept (r : Fin 64) (k : Fin 32) (occ : Bool) :
    HoldingsKept s (s.entryNotice r k occ) := by
  unfold State.entryNotice
  split
  · exact .refl s
  · split
    · split
      · exact s.notePassed_kept r _
      · exact s.trainEntry_kept r _
    · exact .refl s

theorem State.overlapNotice_kept (r : Fin 64) (ended : s.pathless (.owner (.route r))) :
    HoldingsKept s (s.overlapNotice r) := by
  unfold State.overlapNotice
  split
  · exact s.tryOverlap_kept _ ended
  · exact .refl s

theorem State.routeNotice_kept (r : Fin 64) (x : Role) (k : Fin 32) (occ : Bool) :
    HoldingsKept s (s.routeNotice r x k occ) := by
  unfold State.routeNotice
  split
  · exact .refl s
  · exact s.entryNotice_kept r k occ
  · exact s.entryNotice_kept r k occ
  · exact s.entryNotice_kept r k occ
  · exact s.followTrain_kept _ k occ
  · next held =>
    split
    · exact s.overlapNotice_kept r (.inr held)
    · exact .refl s

theorem State.portionNotice_kept (p : Fin 16) (x : Role) (k : Fin 32) (occ : Bool) :
    HoldingsKept s (s.portionNotice p x k occ) := by
  have entry : HoldingsKept s (s.portionEntry p) :=
    (s.updPortion_sameHoldings p _ rfl (by simp)).kept
  unfold State.portionNotice
  split
  · exact .refl s
  · split
    · exact entry
    · exact s.provingTest_kept p
  · split
    · exact entry
    · exact s.provingTest_kept p
  · exact s.followTrain_kept _ k occ
  · next held =>
    split
    · exact s.tryOverlap_kept _ (.inr held)
    · exact .refl s

theorem State.sectionNotice_kept (k : Fin 32) : HoldingsKept s (s.sectionNotice k) := by
  have act : ∀ (t : State) (occ : Bool), HoldingsKept t (t.actOnNotice k occ) := fun t occ => by
    unfold State.actOnNotice
    split
    · exact .refl t
    · split
      · exact t.routeNotice_kept _ _ k occ
      · exact t.portionNotice_kept _ _ k occ
  simp only [State.sectionNotice]
  split
  · exact (act _ _).after (by simp)
  · exact .refl s

theorem State.pointNotice_kept (p : Fin 16) : HoldingsKept s (s.pointNotice p) := by
  have act : ∀ t : State, HoldingsKept t (t.actOnPoint p) := fun t =>
    ((t.completionTests_kept _).trans (State.provingTests_kept _ _)).trans
      (State.proveGrants_kept _ _)
  unfold State.pointNotice
  split
  · exact (act _).after (by simp)
  · exact .refl s

theorem State.settingExpiry_kept (r : Fin 64) : HoldingsKept s (s.settingExpiry r) := by
  simp only [State.settingExpiry]
  split
  · exact (s.fullRelease_kept r).trans (State.setFault_kept _ _ _)
  · exact .refl s

theorem State.poolExpiry_kept (k : Fin 16) : HoldingsKept s (s.poolExpiry k) := by
  unfold State.poolExpiry
  split
  · exact .refl s
  next x used =>
    simp only
    split
    · set u := (s.updPoolTimer k none).updRoute x.route fun c => { c with pool := .none } with hu
      have freed : HoldingsKept s u := (State.updRoute_sameHoldings (s.updPoolTimer k none) x.route
        (fun c => { c with pool := .none }) rfl rfl id).kept.after (by simp)
      have work : HoldingsKept u (u.workExpiry x.route) := by
        unfold State.workExpiry
        split
        · exact u.fullRelease_kept _
        · next held => exact u.tryOverlap_kept _ (.inr held)
        · exact .refl u
      exact (freed.trans work).trans (State.grantHead_sameHoldings _ k).kept
    · exact .refl s

end

/-! ## The flank search (R121 to R124) -/

section
variable {s : State}

/-- Some entry of the chosen ones has an element that the search found claimable. -/
theorem State.chooseFrom_claimable {chosen : List FlankElement} {e c : Fin 48}
    (found : s.chooseFrom chosen e = some c) :
    ∃ x, elementOf s.config c = some x ∧ s.claimable chosen x = true :=
  (Option.any_eq_true _ _).1 (List.find?_some found :)

theorem Position.other_other (q : Position) : q.other.other = q := by cases q <;> rfl

theorem namesElement_cons {cfg : ZoneConfig} {c : Fin 48} {cs : List (Fin 48)} {x : FlankElement} :
    NamesElement cfg (c :: cs) x ↔ elementOf cfg c = some x ∨ NamesElement cfg cs x := by
  simp [NamesElement]

/-- Every step of a search that found its entries. -/
theorem State.searchFrom_cons {e : Fin 48} {rest cs : List (Fin 48)} {chosen : List FlankElement}
    (found : s.searchFrom (e :: rest) chosen = some cs) :
    ∃ c x later, cs = c :: later ∧ elementOf s.config c = some x ∧ s.claimable chosen x = true ∧
      s.searchFrom rest (x :: chosen) = some later := by
  rw [State.searchFrom] at found
  split at found
  · nomatch found
  next c first =>
    split at found
    · nomatch found
    next later rest =>
      obtain ⟨x, element, claimable⟩ := State.chooseFrom_claimable first
      rw [element] at rest
      cases found
      exact ⟨c, x, later, rfl, element, claimable, rest⟩

/-- A point that the search chose: where it had not been chosen before, its count has room; and it
is neither claimed nor chosen in the other position (R122). -/
theorem State.searchFrom_points {list cs : List (Fin 48)} {chosen : List FlankElement}
    (found : s.searchFrom list chosen = some cs) (p : Fin 16) (q : Position)
    (named : NamesElement s.config cs (.point p q)) :
    ((s.lku.points[p]).claims q < 15 ∨ .point p q ∈ chosen) ∧
      (s.lku.points[p]).claims q.other = 0 ∧ .point p q.other ∉ chosen ∧
      ¬NamesElement s.config cs (.point p q.other) := by
  induction list generalizing chosen cs q with
  | nil =>
    cases found
    obtain ⟨_, mem, _⟩ := named
    nomatch mem
  | cons e rest ih =>
    obtain ⟨c, x, later, rfl, element, claimable, search⟩ := State.searchFrom_cons found
    have first (z : Position) (own : elementOf s.config c = some (.point p z)) :
        x = .point p z := Option.some.inj (element.symm.trans own)
    have unclaimed (z : Position) (own : x = .point p z) :
        ((s.lku.points[p]).claims z < 15 ∨ .point p z ∈ chosen) ∧
          (s.lku.points[p]).claims z.other = 0 ∧ .point p z.other ∉ chosen := by
      rw [own] at claimable
      simp only [State.claimable, State.pointClaimable, Bool.and_eq_true, beq_iff_eq,
        Bool.not_eq_true', List.contains_eq_mem, decide_eq_false_iff_not, Bool.or_eq_true,
        decide_eq_true_eq] at claimable
      obtain ⟨⟨⟨⟨-, zero, fresh⟩, room⟩, -⟩, -⟩ := claimable
      exact ⟨room, zero, fresh⟩
    rw [namesElement_cons] at named
    by_cases own : x = .point p q
    · obtain ⟨room, zero, fresh⟩ := unclaimed q own
      refine ⟨room, zero, fresh, fun other => ?_⟩
      obtain same | after := namesElement_cons.1 other
      · exact absurd (own.symm.trans (first _ same)) (by cases q <;> simp [Position.other])
      · obtain ⟨-, -, apart, -⟩ := ih search _ after
        exact apart (by rw [Position.other_other, own]; exact List.mem_cons_self)
    · obtain ⟨room, zero, fresh, alone⟩ := ih search q
        (named.resolve_left fun same => own (first _ same))
      obtain ⟨other, fresh⟩ := not_or.1 (mt List.mem_cons.2 fresh)
      refine ⟨room.imp_right fun mem => ?_, zero, fresh, fun named => ?_⟩
      · exact (List.mem_cons.1 mem).resolve_left (Ne.symm own)
      · obtain same | after := namesElement_cons.1 named
        · exact other (first _ same).symm
        · exact alone after

/-- A signal that the search chose: where it had not been chosen before, its count has room
(R123). -/
theorem State.searchFrom_signals {list cs : List (Fin 48)} {chosen : List FlankElement}
    (found : s.searchFrom list chosen = some cs) (g : Fin 16)
    (named : NamesElement s.config cs (.signal g)) :
    (s.lku.signals[g]).holds < 15 ∨ .signal g ∈ chosen := by
  induction list generalizing chosen cs with
  | nil =>
    cases found
    obtain ⟨_, mem, _⟩ := named
    nomatch mem
  | cons e rest ih =>
    obtain ⟨c, x, later, rfl, element, claimable, search⟩ := State.searchFrom_cons found
    by_cases own : x = .signal g
    · rw [own] at claimable
      simp only [State.claimable, State.signalClaimable, Bool.and_eq_true, Bool.or_eq_true,
        decide_eq_true_eq, List.contains_eq_mem] at claimable
      exact claimable.2
    · have after := (namesElement_cons.1 named).resolve_left fun same =>
        own (Option.some.inj (element.symm.trans same))
      exact (ih search after).imp_right fun mem => (List.mem_cons.1 mem).resolve_left (Ne.symm own)

/-- What a flank search chooses can be counted (R121 to R123). -/
theorem State.flankSearch_countable {list chosen : List (Fin 48)}
    (found : s.flankSearch list = some chosen) : Countable chosen s := by
  refine ⟨fun p q named => ?_, fun g named => ?_⟩
  · obtain ⟨room, zero, -, alone⟩ := State.searchFrom_points found p q named
    exact ⟨room.resolve_right List.not_mem_nil, zero, alone⟩
  · exact (State.searchFrom_signals found g named).resolve_right List.not_mem_nil

/-- Every entry that a search chooses has an element that was claimable. -/
theorem State.searchFrom_claimable {list cs : List (Fin 48)} {chosen : List FlankElement}
    (found : s.searchFrom list chosen = some cs) {x : FlankElement}
    (named : NamesElement s.config cs x) : ∃ before, s.claimable before x = true := by
  induction list generalizing chosen cs with
  | nil =>
    cases found
    obtain ⟨_, mem, _⟩ := named
    nomatch mem
  | cons e rest ih =>
    obtain ⟨c, y, later, rfl, element, claimable, search⟩ := State.searchFrom_cons found
    obtain same | after := namesElement_cons.1 named
    · rw [Option.some.inj (element.symm.trans same)] at claimable
      exact ⟨chosen, claimable⟩
    · exact ih search after

/-- The neighbour is ALIVE and not BLOCKED, so a request may be sent to it (R79, R124). -/
def State.Reachable (s : State) (n : Fin 4) : Prop :=
  (s.hou.neighbours[n]).state = .alive ∧ (s.hou.neighbours[n]).blocked = false

/-- The neighbour of a remote element that a search chose can be reached (R124). -/
theorem State.flankSearch_reachable {list chosen : List (Fin 48)}
    (found : s.flankSearch list = some chosen) {x : FlankElement} {w : RemoteRequest}
    (listed : x ∈ remoteElements s.config chosen) (asks : remoteRequestOf s.config x = some w) :
    s.Reachable w.neighbour := by
  obtain ⟨mem, -⟩ := List.mem_filter.1 listed
  obtain ⟨e, chosen', element⟩ := List.mem_filterMap.1 ((mem_distinct _ _).1 mem)
  obtain ⟨before, claimable⟩ := State.searchFrom_claimable found ⟨e, chosen', element⟩
  have remote (m : Fin 32) (free : s.remoteClaimable m = true)
      (asks : ∀ b, s.config.boundary[m] = some b → b.neighbour = w.neighbour) :
      s.Reachable w.neighbour := by
    obtain ⟨b, entry, up⟩ := (Option.any_eq_true _ _).1 free
    rw [Bool.and_eq_true, beq_iff_eq, Bool.not_eq_true'] at up
    rw [← asks b entry]
    exact up
  cases x with
  | point p q => nomatch asks
  | signal g => nomatch asks
  | remotePoint m q =>
    refine remote m (Bool.and_eq_true _ _ ▸ claimable).1 fun b entry => ?_
    rw [remoteRequestOf, entry] at asks
    exact congrArg RemoteRequest.neighbour (Option.some.inj asks)
  | remoteSignal m =>
    refine remote m claimable fun b entry => ?_
    rw [remoteRequestOf, entry] at asks
    exact congrArg RemoteRequest.neighbour (Option.some.inj asks)

end

end Sys2Proof.Machine
end

section
/-! The laws of the offers and of the flank counts through the setting events of routes and hosted
portions, the offers they make, and the flank grants (R81 to R83, R125, R128, R130, R148). -/

namespace Sys2Proof.Machine

open Sys2Proof

section
variable (s : State)

/-! ## Takeover (R82) -/

theorem State.dispossess_kept (o : Owner) : HoldingsKept s (s.dispossess o) := by
  have lost := (s.freeElements_sameHoldings o overlapRole).kept.trans
    (State.updHold_sameHoldings _ o (fun h => { h with overlap := .released }) rfl).kept
  match o with
  | .route r =>
    simp only [State.dispossess]
    split
    · next held =>
      refine (lost.trans (State.giveUpTimer_sameHoldings _ r).kept).trans
        (State.idleRoute_kept _ r (.inr ?_))
      rw [(RouteAlike.of_poolless (State.giveUpTimer_poolless _ r r)).1.state]
      exact held
    · exact lost
  | .portion p =>
    simp only [State.dispossess]
    split
    · next held => exact lost.trans (State.idlePortion_kept _ p (.inr held))
    · exact lost

theorem State.dispossessAll_kept (os : List Owner) : HoldingsKept s (s.dispossessAll os) :=
  State.forEach_holdings _ State.dispossess_kept s os

/-- An IDLE route stays IDLE while others lose their overlaps. -/
theorem State.dispossess_idle (o : Owner) {r : Fin 64} (idle : (s.lku.routes[r]).state = .idle) :
    ((s.dispossess o).lku.routes[r]).state = .idle := by
  have lost (x : Owner) : (((s.freeElements x overlapRole).updHold x
      fun h => { h with overlap := .released }).lku.routes[r]).state = .idle := by
    match x with
    | .route y =>
      rw [State.updHold, State.updRoute_route]
      split <;> simpa using idle
    | .portion p => simpa [State.updHold] using idle
  match o with
  | .route y =>
    simp only [State.dispossess]
    split
    · rw [State.idleRoute_route]
      split
      · rfl
      · rw [(RouteAlike.of_poolless (State.giveUpTimer_poolless _ y r)).1.state, lost]
    · exact lost _
  | .portion p =>
    simp only [State.dispossess]
    split
    · simpa using lost (.portion p)
    · exact lost _

theorem State.dispossessAll_idle (os : List Owner) {r : Fin 64}
    (idle : (s.lku.routes[r]).state = .idle) :
    ((s.dispossessAll os).lku.routes[r]).state = .idle :=
  State.forEach_induct (fun t => (t.lku.routes[r]).state = .idle) _
    (fun t o => t.dispossess_idle o) s os idle

/-! ## A plan taken (R81, R83, R125) -/

variable (o : Owner) (plan : Plan) (chosen : List (Fin 48))

theorem State.takePlan_setChanged : SetChanged (.owner o) s (s.takePlan o plan chosen) := by
  set held := (s.holdPlan o plan).claimFlank (itemsOf chosen) with hheld
  have claimed : SetChanged (.owner o) s held :=
    .of_tables _ (by simp [hheld]) (by simp [hheld]) (by simp [hheld])
  have taken := claimed.trans (held.updHold_setChanged o fun _ => Hold.taken plan (itemsOf chosen))
  exact taken.trans (.of_tables _ (State.requestMoves_keeps _ _).2.2.2.1
    (congrArg Locking.routes (State.requestMoves_keeps _ _).2.2.2.2.2.2.1)
    (State.requestMoves_keeps _ _).2.2.2.2.2.2.2.2.2.2.1)

theorem itemsOf_entries : (itemsOf chosen).map (·.entry) = chosen :=
  List.map_map.trans (List.map_id chosen)

theorem State.takePlan_setOf : (s.takePlan o plan chosen).setOf (.owner o) = chosen := by
  have moves (t : State) (ps : List (Fin 16 × Position)) :
      (t.requestMoves ps).setOf (.owner o) = t.setOf (.owner o) := by
    cases o <;> simp [State.setOf, State.holdOf]
  exact (moves _ _).trans ((State.updHold_setOf _ o _).trans (itemsOf_entries chosen))

theorem State.takePlan_added : FlankAdded chosen s (s.takePlan o plan chosen) := by
  have added := State.claimFlank_added (s.holdPlan o plan) (itemsOf chosen)
  rw [itemsOf_entries] at added
  refine added.congr (by simp) (fun p q => (s.holdPlan_claims o plan p q).symm)
    (fun g => by simp) ?_ ?_ <;> simp [State.takePlan, itemsOf]

theorem State.takePlan_refs (r : Fin 64) :
    ((s.takePlan o plan chosen).lku.routes[r]).offers = (s.lku.routes[r]).offers ∧
      ((s.takePlan o plan chosen).lku.routes[r]).state = (s.lku.routes[r]).state := by
  match o with
  | .route x =>
    simp only [State.takePlan, State.requestMoves_keeps, State.updHold, State.updRoute_route]
    split <;> simp
  | .portion p => simp [State.takePlan, State.updHold]

theorem State.takePlan_offersKept : OffersKept s (s.takePlan o plan chosen) :=
  .of_refs (by simp) (by simp) (fun r => (s.takePlan_refs o plan chosen r).1) fun r ended => by
    simpa only [State.pathless, (s.takePlan_refs o plan chosen r).2] using ended

/-! ## Offers made (R81, R125, R148) -/

section
variable {s} {t : State}

theorem Countable.congr (h : Countable chosen s) (config : t.config = s.config)
    (claims : ∀ (p : Fin 16) (q : Position),
      (t.lku.points[p]).claims q = (s.lku.points[p]).claims q)
    (holds : ∀ g : Fin 16, (t.lku.signals[g]).holds = (s.lku.signals[g]).holds) :
    Countable chosen t := by
  refine ⟨fun p q named => ?_, fun g named => ?_⟩
  · rw [config] at named ⊢
    rw [claims, claims]
    exact h.claims p q named
  · rw [config] at named
    rw [holds]
    exact h.holds g named

/-- A record filled for a route that has its path, under an id that no record holds, to a neighbour
that can be reached. -/
theorem OffersKept.of_made {r : Fin 64} {k : Fin 8} {o : Offer}
    (free : s.hou.offers[k] = none)
    (records : t.hou.offers = upd s.hou.offers k fun _ => some o)
    (neighbours : t.hou.neighbours = s.hou.neighbours)
    (refs : ∀ x : Fin 64, (t.lku.routes[x]).offers =
      if r = x then (s.lku.routes[x]).offers ++ [k] else (s.lku.routes[x]).offers)
    (states : ∀ x : Fin 64, (t.lku.routes[x]).state = (s.lku.routes[x]).state)
    (fresh : s.idHeld o.id = false) (owner : o.route = r) (sent : o.state = .sent)
    (reach : s.Reachable o.neighbour) (path : ¬s.pathless (.owner (.route r))) :
    OffersKept s t := by
  have record (j : Fin 8) : t.hou.offers[j] = if k = j then some o else s.hou.offers[j] := by
    rw [records, upd_get]
  have before {j : Fin 8} {q : Offer} (stands : t.hou.offers[j] = some q) :
      (j = k ∧ q = o) ∨ (j ≠ k ∧ s.hou.offers[j] = some q) := by
    rw [record] at stands
    split at stands
    · next same => exact .inl ⟨same.symm, (Option.some.inj stands).symm⟩
    · next other => exact .inr ⟨Ne.symm other, stands⟩
  have unheld {j : Fin 8} {q : Offer} (stands : s.hou.offers[j] = some q) : q.id ≠ o.id := by
    intro same
    have held : s.idHeld o.id = true :=
      (s.idHeld_iff o.id).2 ⟨j, by rw [stands]; simp [same]⟩
    rw [fresh] at held
    nomatch held
  have kept {j : Fin 8} {q : Offer} (stands : s.hou.offers[j] = some q) :
      j ≠ k ∧ t.hou.offers[j] = some q := by
    have other : j ≠ k := by
      rintro rfl
      nomatch stands.symm.trans free
    exact ⟨other, by rw [record, if_neg other.symm, stands]⟩
  have mem_refs (x : Fin 64) (j : Fin 8) : j ∈ (t.lku.routes[x]).offers ↔
      j ∈ (s.lku.routes[x]).offers ∨ (r = x ∧ j = k) := by
    rw [refs]
    split
    · next same => simp [same]
    · next other => simp [other]
  refine ⟨⟨fun own x j mem => ?_, fun own held => ⟨fun j q stands => ?_, fun x => ?_⟩⟩,
    fun lawful => ⟨fun j i q p first second same => ?_, fun j q stands => ?_⟩⟩
  · obtain mem | ⟨rfl, rfl⟩ := (mem_refs x j).1 mem
    · obtain ⟨q, stands, owns⟩ := own x j mem
      exact ⟨q, (kept stands).2, owns⟩
    · exact ⟨o, by rw [record, if_pos rfl], owner⟩
  · obtain ⟨rfl, rfl⟩ | ⟨-, stood⟩ := before stands
    · rw [mem_refs, states, owner]
      exact ⟨.inr ⟨rfl, rfl⟩, fun idle => path (.inl idle)⟩
    · rw [mem_refs, states]
      exact (held.1 j q stood).imp .inl id
  · obtain ⟨once, none⟩ := held.2 x
    rw [refs, states]
    split
    · next same =>
      subst same
      refine ⟨List.nodup_append.2 ⟨once, List.nodup_singleton k, fun j mem i single => ?_⟩,
        fun ended => absurd ended path⟩
      obtain ⟨q, stands, -⟩ := own r j mem
      rw [List.mem_singleton.1 single]
      exact (kept stands).1
    · exact ⟨once, none⟩
  · obtain ⟨rfl, rfl⟩ | ⟨-, stood⟩ := before first
    · obtain ⟨rfl, -⟩ | ⟨-, stood'⟩ := before second
      · rfl
      · exact absurd same.symm (unheld stood')
    · obtain ⟨rfl, rfl⟩ | ⟨-, stood'⟩ := before second
      · exact absurd same (unheld stood)
      · exact lawful.1 j i q p stood stood' same
  · rw [neighbours]
    obtain ⟨rfl, rfl⟩ | ⟨-, stood⟩ := before stands
    · rw [sent]
      exact ⟨fun _ => reach, nofun⟩
    · exact lawful.2 j q stood

end

theorem State.nextId_fresh : s.idHeld s.nextId = false := by
  obtain ⟨_, -, -, free, -⟩ := (State.idFollows_iff _ _).1 s.nextId_follows
  exact free

/-- An offer made for a route keeps routes alike, and the records of the routes' neighbours. -/
theorem State.makeOffer_routes (r x : Fin 64) (w : RemoteRequest) :
    RouteAlike s.lku.routes[x] (s.makeOffer r w).lku.routes[x] := by
  cases found : s.freeRecord with
  | none => rw [State.makeOffer, found]; exact .refl _
  | some k =>
    rw [State.makeOffer_eq found]
    simp only [State.toNeighbour_keeps, State.recorded, State.updRoute_route]
    split
    · exact ⟨rfl, rfl, rfl, rfl, rfl, rfl⟩
    · exact .refl _

theorem State.makeOffer_kept {r : Fin 64} {w : RemoteRequest} (reach : s.Reachable w.neighbour)
    (path : ¬s.pathless (.owner (.route r))) : HoldingsKept s (s.makeOffer r w) := by
  refine ⟨?_, (SameSets.of_alike (by simp) (by simp) (by simp) fun x =>
    s.makeOffer_routes r x w).kept⟩
  cases found : s.freeRecord with
  | none =>
    rw [State.makeOffer, found]
    exact (HoldingsKept.refl s).offers
  | some k =>
    refine .of_made (r := r) (State.freeRecord_free found) (State.makeOffer_hou found).1 (by simp)
      (fun x => ?_) (fun x => (s.makeOffer_routes r x w).state) s.nextId_fresh rfl rfl reach path
    rw [State.makeOffer_eq found]
    simp only [State.toNeighbour_keeps, State.recorded, State.updRoute_route]
    split <;> rfl

/-- What the making of offers leaves for the next one. -/
structure OffersGoOn (r : Fin 64) (s t : State) : Prop where
  kept : HoldingsKept s t
  neighbours : t.hou.neighbours = s.hou.neighbours
  config : t.config = s.config
  state : (t.lku.routes[r]).state = (s.lku.routes[r]).state

theorem OffersGoOn.refl (r : Fin 64) (s : State) : OffersGoOn r s s := ⟨.refl s, rfl, rfl, rfl⟩

theorem OffersGoOn.trans {r : Fin 64} {s t u : State} (h : OffersGoOn r s t)
    (k : OffersGoOn r t u) : OffersGoOn r s u :=
  ⟨h.kept.trans k.kept, k.neighbours.trans h.neighbours, k.config.trans h.config,
    k.state.trans h.state⟩

theorem State.makeOffer_goOn {r : Fin 64} {w : RemoteRequest} (reach : s.Reachable w.neighbour)
    (path : ¬s.pathless (.owner (.route r))) : OffersGoOn r s (s.makeOffer r w) :=
  ⟨s.makeOffer_kept reach path, by simp, by simp, (s.makeOffer_routes r r w).state⟩

theorem State.checkRequest_congr {s t : State} (neighbours : t.hou.neighbours = s.hou.neighbours)
    (request : Option (Fin 4 × Fin 16)) : t.checkRequest request = s.checkRequest request := by
  simp only [State.checkRequest, neighbours]

theorem State.offerPortion_goOn {r : Fin 64} {request : Option (Fin 4 × Fin 16)}
    (passes : s.checkRequest request = none) (path : ¬s.pathless (.owner (.route r))) :
    OffersGoOn r s (s.offerPortion r request) := by
  match request, passes with
  | none, _ => exact .refl r s
  | some (n, p), passes =>
    refine s.makeOffer_goOn (w := ⟨.portion, n, byteOf p.val, 0⟩) ?_ path
    simp only [State.checkRequest] at passes
    split at passes
    · nomatch passes
    next alive =>
      split at passes
      · nomatch passes
      next blocked => exact ⟨not_not.1 alive, Bool.eq_false_of_not_eq_true blocked⟩

theorem State.offerFlank_goOn {r : Fin 64} {e : FlankElement}
    (reach : ∀ w, remoteRequestOf s.config e = some w → s.Reachable w.neighbour)
    (path : ¬s.pathless (.owner (.route r))) : OffersGoOn r s (s.offerFlank r e) := by
  unfold State.offerFlank
  split
  · next w k asks found =>
    refine (s.makeOffer_goOn (reach w asks) path).trans ?_
    have entries (c : RouteRec) :
        Hold.entries { c.hold with flank := c.hold.flank.map (FlankItem.withOffer s.config e k) } =
          c.hold.entries := by
      rw [Hold.entries, Hold.entries, List.map_map]
      exact List.map_congr_left fun i _ => FlankItem.withOffer_entry _ _ _ i
    refine ⟨(State.updRoute_sameHoldings _ r (fun c => { c with
      hold := { c.hold with flank := c.hold.flank.map (FlankItem.withOffer s.config e k) } })
      rfl (entries _) id).kept, by simp, by simp, ?_⟩
    rw [State.updRoute_route, if_pos rfl]
  · exact .refl r s

theorem State.offerFlanks_goOn {r : Fin 64} (es : List FlankElement)
    (reach : ∀ e ∈ es, ∀ w, remoteRequestOf s.config e = some w → s.Reachable w.neighbour)
    (path : ¬s.pathless (.owner (.route r))) : OffersGoOn r s (s.offerFlanks r es) := by
  unfold State.offerFlanks
  induction es generalizing s with
  | nil => rw [State.forEach_nil]; exact .refl r s
  | cons e es ih =>
    have first := s.offerFlank_goOn (reach e List.mem_cons_self) path
    rw [State.forEach_cons]
    refine first.trans (ih _ (fun x mem w asks => ?_) ?_)
    · rw [first.config] at asks
      rw [State.Reachable, first.neighbours]
      exact reach x (List.mem_cons_of_mem e mem) w asks
    · simpa only [State.pathless, first.state] using path

/-! ## The setting event of a route (R75, R81) -/

section
variable {s} {r : Fin 64} {c : RouteCfg}

/-- What the checks of a setting event say of the route, of the neighbour of its portion request,
and of the entries chosen. -/
theorem State.checkRoute_passes (passes : s.checkRoute r c = .ok chosen) :
    (s.lku.routes[r]).state = .idle ∧ s.checkRequest c.request = none ∧
      s.flankSearch c.plan.flank = some chosen := by
  unfold State.checkRoute at passes
  repeat' split at passes
  all_goals cases passes
  exact ⟨not_not.1 ‹_›, ‹_›, ‹_›⟩

theorem State.seized_holdings (passes : s.checkRoute r c = .ok chosen) :
    HoldingsKept s (s.seized r c chosen) ∧
      ((s.seized r c chosen).lku.routes[r]).state = .setting := by
  obtain ⟨idle, -, found⟩ := State.checkRoute_passes chosen passes
  have lost := s.dispossessAll_kept (s.predecessors c.entry c.plan)
  have stays := s.dispossessAll_idle (s.predecessors c.entry c.plan) idle
  have counts := s.dispossessAll_counts (s.predecessors c.entry c.plan)
  set a := s.dispossessAll (s.predecessors c.entry c.plan) with ha
  set b := a.updSignalLock c.entry fun l => { l with holder := some ⟨.route r, .entry⟩ } with hb
  have entry : SameHoldings a b := by
    refine a.updSignalLock_sameHoldings c.entry _ ?_
    exact fun _ => rfl
  have entered : HoldingsKept s b := lost.trans entry.kept
  have ended : b.pathless (.owner (.route r)) := .inl stays
  set d := b.updRoute r (RouteRec.started c) with hd
  have restarted : OffersKept b d := b.updRoute_restarted r _ ended rfl
  have state : ((s.seized r c chosen).lku.routes[r]).state = .setting := by
    rw [s.seized_route r c chosen]
  refine ⟨⟨(entered.offers.trans restarted).trans (d.takePlan_offersKept _ c.plan chosen),
    fun counted => ?_⟩, state⟩
  have after := entered.flank counted
  have changed : SetChanged (.owner (.route r)) b (s.seized r c chosen) :=
    (b.updRoute_setChanged r (RouteRec.started c)).trans
      (d.takePlan_setChanged (.route r) c.plan chosen)
  have entries : (s.seized r c chosen).setOf (.owner (.route r)) = chosen :=
    d.takePlan_setOf (.route r) c.plan chosen
  have added : FlankAdded chosen b (s.seized r c chosen) :=
    (d.takePlan_added (.route r) c.plan chosen).congr rfl (fun _ _ => rfl) (fun _ => rfl) rfl rfl
  have room : Countable chosen b := by
    refine (State.flankSearch_countable found).congr chosen (by simp [hb, ha]) (fun p q => ?_)
      fun g => ?_
    · rw [← (counts p p q).1]
      rfl
    · rw [← (counts g g .normal).2, hb, State.updSignalLock_signals, upd_get]
      split <;> rfl
  refine changed.kept_of_filled (b.pathless_setOf after ended) (by rwa [entries])
    (by rwa [entries]) ?_ after
  rintro (idle | held)
  · nomatch state.symm.trans idle
  · nomatch state.symm.trans held

theorem State.takeRoute_kept (passes : s.checkRoute r c = .ok chosen) :
    HoldingsKept s (s.takeRoute r c chosen) := by
  obtain ⟨-, request, found⟩ := State.checkRoute_passes chosen passes
  obtain ⟨taken, setting⟩ := State.seized_holdings chosen passes
  rw [State.takeRoute_eq]
  set v := s.seized r c chosen with hv
  have config : v.config = s.config := (s.seized_keeps r c chosen).1
  have neighbours : v.hou.neighbours = s.hou.neighbours := by simp [hv, State.seized, State.entered]
  have path : ¬v.pathless (.owner (.route r)) := by
    rintro (idle | held)
    · nomatch setting.symm.trans idle
    · nomatch setting.symm.trans held
  have portion : OffersGoOn r v (v.offerPortion r c.request) := by
    refine v.offerPortion_goOn ?_ path
    rw [State.checkRequest_congr neighbours]
    exact request
  have flanks := (v.offerPortion r c.request).offerFlanks_goOn (r := r)
    (remoteElements s.config chosen) (fun e mem w asks => ?_) ?_
  · exact ((taken.trans portion.kept).trans flanks.kept).trans (State.completionTest_kept _ r)
  · rw [portion.config, config] at asks
    rw [State.Reachable, portion.neighbours, neighbours]
    exact State.flankSearch_reachable found mem asks
  · simpa only [State.pathless, portion.state] using path

end

/-! ## Hosted portions and flank grants (R83, R128, R130, R153, R155) -/

theorem State.setPortion_kept {t : State} {p : Fin 16} {c : PortionCfg}
    (idle : (s.hou.portions[p]).state = .idle) (set : s.setPortion p c = .ok t) :
    HoldingsKept s t := by
  unfold State.setPortion State.checkPortion at set
  split at set
  · nomatch set
  next chosen passes =>
    cases set
    have found : s.flankSearch c.plan.flank = some chosen := by
      repeat' split at passes
      all_goals cases passes
      assumption
    set u := s.takePlan (.portion p) c.plan chosen with hu
    refine ⟨(s.takePlan_offersKept _ c.plan chosen).trans (.of_refs rfl rfl (fun _ => rfl)
      fun _ => id), fun counted => ?_⟩
    have changed : SetChanged (.owner (.portion p)) s (u.updPortion p fun x =>
        { x with state := .setting }) :=
      (s.takePlan_setChanged (.portion p) c.plan chosen).trans (u.updPortion_setChanged p _)
    have entries : (u.updPortion p fun x => { x with state := .setting }).setOf
        (.owner (.portion p)) = chosen := by
      rw [← s.takePlan_setOf (.portion p) c.plan chosen, ← hu]
      simp only [State.setOf, State.holdOf, State.updPortion_portion, if_pos]
    have added : FlankAdded chosen s (u.updPortion p fun x => { x with state := .setting }) :=
      s.takePlan_added (.portion p) c.plan chosen
    refine changed.kept_of_filled (s.pathless_setOf counted (.inl idle)) (entries ▸ added)
      (entries ▸ State.flankSearch_countable found) ?_ counted
    simp only [State.pathless, State.updPortion_portion, if_pos]
    simp

theorem State.hostPortion_kept (n : Fin 4) (p : Fin 16) (id : Byte) :
    HoldingsKept s (s.hostPortion n p id) :=
  (s.updPortion_sameHoldings p (fun r => { r with requester := some (n, id), orphan := !s.alive n })
    rfl fun ended => ended).kept.trans (State.provingTest_kept _ p)

theorem State.takePortionRequest_kept (n : Fin 4) (number id : Byte) :
    HoldingsKept s (s.takePortionRequest n number id) := by
  have answer : ∀ p, HoldingsKept s (s.toNeighbour n p) := s.toNeighbour_kept n
  simp only [State.takePortionRequest]
  split
  · split
    · exact answer _
    · split
      · exact answer _
      · split
        · split <;> exact answer _
        · next idle =>
          split
          · exact answer _
          · next set =>
            exact ((s.setPortion_kept (not_not.1 idle) set).trans
              (State.hostPortion_kept _ n _ id)).trans (State.toNeighbour_kept _ n _)
  · exact .refl s

theorem State.endHosting_kept (p : Fin 16) : HoldingsKept s (s.endHosting p) := by
  have released : HoldingsKept s (s.updPortion p fun r =>
      { r with released := true, orphan := false }) :=
    (s.updPortion_sameHoldings p (fun r => { r with released := true, orphan := false })
      rfl id).kept
  unfold State.endHosting
  split
  · exact .refl s
  · exact s.releasePortion_kept p
  · exact s.releasePortion_kept p
  · exact released
  · exact released

theorem State.takePortionRelease_kept (n : Fin 4) (number id : Byte) :
    HoldingsKept s (s.takePortionRelease n number id) := by
  unfold State.takePortionRelease
  split
  · exact .refl s
  · simp only
    split
    · exact s.endHosting_kept _
    · exact .refl s

/-- A grant record rewritten moves no other set. -/
theorem State.updGrant_setChanged (k : Fin 8) (f : Option Grant → Option Grant) :
    SetChanged (.grant k) s (s.updGrant k f) := by
  refine ⟨rfl, fun x other => ?_, fun x _ ended => ?_⟩
  · match x, other with
    | .owner (.route r), _ => rfl
    | .owner (.portion p), _ => rfl
    | .grant j, other =>
      have apart : k ≠ j := fun e => other (by rw [e])
      simp only [State.setOf, State.updGrant_grants, upd_other _ _ _ _ apart]
  · match x, ended with
    | .owner (.route r), ended => exact ended
    | .owner (.portion p), ended => exact ended

theorem State.updGrant_offersKept (k : Fin 8) (f : Option Grant → Option Grant) :
    OffersKept s (s.updGrant k f) := .of_refs rfl rfl (fun _ => rfl) fun _ => id

theorem State.makeGrant_kept {n : Fin 4} {id : Byte} {k : Fin 8} {e used : Fin 48}
    (free : s.hou.grants[k] = none) (room : Countable [used] s) :
    HoldingsKept s (s.makeGrant n id k e used) := by
  set u := (s.claimFlank [⟨used, none⟩]).requestMoves
    (flankPoints s.config [⟨used, none⟩]) with hu
  have claimed : SetChanged (.grant k) s u :=
    .of_tables _ (by simp [hu]) (by simp [hu]) (by simp [hu])
  have grant : s.makeGrant n id k e used = u.updGrant k fun _ =>
      some ⟨n, id, e, used, u.entryProven used, !u.alive n⟩ := rfl
  rw [grant]
  have entries : (u.updGrant k fun _ =>
      some ⟨n, id, e, used, u.entryProven used, !u.alive n⟩).setOf (.grant k) = [used] := by
    simp only [State.setOf, State.updGrant_grants, upd_same]
    rfl
  have added : FlankAdded [used] s (u.updGrant k fun _ =>
      some ⟨n, id, e, used, u.entryProven used, !u.alive n⟩) :=
    (s.claimFlank_added [⟨used, none⟩]).congr rfl (fun _ _ => rfl) (fun _ => rfl)
      (by simp [hu]) (by simp [hu])
  refine ⟨?_, (claimed.trans (u.updGrant_setChanged k _)).kept_of_filled ?_ (entries ▸ added)
    (entries ▸ room) fun ended => ended⟩
  · refine OffersKept.trans ?_ (u.updGrant_offersKept k _)
    exact .of_refs (by simp [hu]) (by simp [hu]) (fun r => by simp [hu])
      fun r ended => by simpa [State.pathless, hu] using ended
  · rw [State.setOf, free]
    rfl

theorem State.freeGrantRecord_kept (k : Fin 8) : HoldingsKept s (s.freeGrantRecord k) := by
  unfold State.freeGrantRecord
  split
  · exact .refl s
  next g stands =>
    set u := s.releaseFlank [⟨g.used, none⟩] with hu
    have released : SetChanged (.grant k) s u :=
      .of_tables _ (by simp [hu]) (by simp [hu]) (by simp [hu])
    refine ⟨?_, (released.trans (u.updGrant_setChanged k _)).kept_of_emptied ?_ ?_⟩
    · refine OffersKept.trans ?_ (u.updGrant_offersKept k _)
      exact .of_refs (by simp [hu]) (by simp [hu]) (fun r => by simp [hu])
        fun r ended => by simpa [State.pathless, hu] using ended
    · simp only [State.setOf, State.updGrant_grants, upd_same]
      rfl
    · rw [State.setOf, stands]
      exact s.releaseFlank_removed [⟨g.used, none⟩]

theorem State.takeFlankRequest_kept (n : Fin 4) (id code element : Byte) :
    HoldingsKept s (s.takeFlankRequest n id code element) := by
  have answer : ∀ p, HoldingsKept s (s.toNeighbour n p) := s.toNeighbour_kept n
  simp only [State.takeFlankRequest]
  split
  · split
    · split <;> exact answer _
    · split
      · exact answer _
      · split
        · exact answer _
        · next k free =>
          split
          · next used rest search =>
            refine (s.makeGrant_kept ?_ ?_).trans (State.toNeighbour_kept _ n _)
            · exact Option.isNone_iff_eq_none.1 (List.find?_some free :)
            · have room := State.flankSearch_countable search
              have first {x : FlankElement} (named : NamesElement s.config [used] x) :
                  NamesElement s.config (used :: rest) x := by
                obtain ⟨e, mem, element⟩ := named
                exact ⟨e, List.mem_singleton.1 mem ▸ List.mem_cons_self, element⟩
              refine ⟨fun p q named => ?_, fun g named => room.holds g (first named)⟩
              obtain ⟨few, zero, apart⟩ := room.claims p q (first named)
              exact ⟨few, zero, fun other => apart (first other)⟩
          · exact answer _
  · exact .refl s

theorem State.takeFlankRelease_kept (n : Fin 4) (id : Byte) :
    HoldingsKept s (s.takeFlankRelease n id) := by
  unfold State.takeFlankRelease
  split
  · split
    · exact .refl s
    · exact s.freeGrantRecord_kept _
  · exact .refl s

end

end Sys2Proof.Machine
end

section
/-! The laws of the offers and of the flank counts through answers, reply timers, silences and
STATUS telegrams (R149, R150, R156 to R158), and through every own effect. -/

namespace Sys2Proof.Machine

open Sys2Proof

/-! ## Records that move -/

section
variable {s t : State}

theorem State.forEach_induct_mem {α : Type} (P : State → Prop) (f : State → α → State)
    (xs : List α) (h : ∀ u, ∀ x ∈ xs, P u → P (f u x)) (s : State) (hs : P s) :
    P (s.forEach xs f) := by
  induction xs generalizing s with
  | nil => rwa [State.forEach_nil]
  | cons x xs ih =>
    rw [State.forEach_cons]
    exact ih (fun u y mem => h u y (List.mem_cons_of_mem x mem)) _ (h s x List.mem_cons_self hs)

/-- A table of records each of which stood before under the same id, SENT and GRANTED where that may
be. -/
theorem OffersLawful.of_before (lawful : s.OffersLawful)
    (before : ∀ (k : Fin 8) (o : Offer), t.hou.offers[k] = some o →
      ∃ q, s.hou.offers[k] = some q ∧ q.id = o.id ∧
        (o.state = .sent → t.Reachable o.neighbour) ∧
        (o.state = .granted → (t.hou.neighbours[o.neighbour]).state = .alive)) :
    t.OffersLawful := by
  refine ⟨fun k j o p first second same => ?_, fun k o stands => ?_⟩
  · obtain ⟨q, stood, id, -⟩ := before k o first
    obtain ⟨q', stood', id', -⟩ := before j p second
    exact lawful.1 k j q q' stood stood' (id.trans (same.trans id'.symm))
  · obtain ⟨-, -, -, sent, granted⟩ := before k o stands
    exact ⟨sent, granted⟩

/-- Records that keep their routes, and routes that keep their references and paths, keep the laws
of the references. -/
theorem RefsKept.of_owners
    (owners : ∀ k : Fin 8, (t.hou.offers[k]).map (·.route) = (s.hou.offers[k]).map (·.route))
    (refs : ∀ r : Fin 64, (t.lku.routes[r]).offers = (s.lku.routes[r]).offers)
    (states : ∀ r : Fin 64, (t.lku.routes[r]).state = (s.lku.routes[r]).state) :
    RefsKept s t := by
  have owner {a b : State} (same : ∀ k : Fin 8, (b.hou.offers[k]).map (·.route) =
      (a.hou.offers[k]).map (·.route)) {k : Fin 8} {o : Offer} (stands : b.hou.offers[k] = some o) :
      ∃ q, a.hou.offers[k] = some q ∧ q.route = o.route := by
    have route := same k
    rw [stands, Option.map_some] at route
    exact Option.map_eq_some_iff.1 route.symm
  refine ⟨fun own r k mem => ?_, fun own held => ⟨fun k o stands => ?_, fun r => ?_⟩⟩
  · obtain ⟨q, stood, owns⟩ := own r k (refs r ▸ mem)
    obtain ⟨o, stands, route⟩ := owner (fun k => (owners k).symm) stood
    exact ⟨o, stands, route.trans owns⟩
  · obtain ⟨q, stood, route⟩ := owner owners stands
    rw [refs, states, ← route]
    exact held.1 k q stood
  · rw [refs, states]
    exact held.2 r

theorem SameSets.of_tables (config : t.config = s.config) (lku : t.lku = s.lku)
    (hosted : t.hou.portions = s.hou.portions ∧ t.hou.grants = s.hou.grants) : SameSets s t :=
  .of_alike config (by rw [lku]; exact ⟨rfl, rfl⟩) hosted fun r => by rw [lku]; exact .refl _

/-- One record rewritten under its id, by its route. -/
theorem State.updOffer_kept {k : Fin 8} {o : Offer} (stands : s.hou.offers[k] = some o)
    {p : Offer} (id : p.id = o.id) (route : p.route = o.route)
    (stays : s.OffersLawful → (p.state = .sent → s.Reachable p.neighbour) ∧
      (p.state = .granted → (s.hou.neighbours[p.neighbour]).state = .alive)) :
    HoldingsKept s (s.updOffer k fun _ => some p) := by
  have record (j : Fin 8) : (s.updOffer k fun _ => some p).hou.offers[j] =
      if k = j then some p else s.hou.offers[j] := by rw [State.updOffer_offers, upd_get]
  refine ⟨⟨.of_owners (fun j => ?_) (fun _ => rfl) fun _ => rfl,
    fun lawful => OffersLawful.of_before lawful fun j q at_j => ?_⟩,
    (SameSets.of_tables rfl rfl ⟨rfl, rfl⟩).kept⟩
  · rw [record]
    split
    · next same => subst same; rw [stands, Option.map_some, Option.map_some, route]
    · rfl
  · rw [record] at at_j
    split at at_j
    · next same =>
      subst same
      obtain rfl := Option.some.inj at_j
      exact ⟨o, stands, id.symm, stays lawful⟩
    · exact ⟨q, at_j, rfl, lawful.2 j q at_j⟩

end

/-! ## Answers and reply timers (R149, R150) -/

section
variable (s : State)

theorem State.offerOf_some {n : Fin 4} {kind : OfferKind} {id : Byte} {target : Option Byte}
    {k : Fin 8} {o : Offer} (found : s.offerOf n kind id target = some (k, o)) :
    s.hou.offers[k] = some o ∧ o.neighbour = n ∧ o.kind = kind ∧ o.id = id ∧
      target.all (· == o.target) = true := by
  obtain ⟨j, -, picked⟩ := List.exists_of_findSome?_eq_some found
  obtain ⟨q, stands, chosen⟩ := Option.bind_eq_some_iff.1 picked
  split at chosen
  · next matching => cases chosen; exact ⟨stands, matching⟩
  · nomatch chosen

theorem State.takeGrant_kept (n : Fin 4) (kind : OfferKind) (id : Byte) (target : Option Byte)
    (release : Payload) : HoldingsKept s (s.takeGrant n kind id target release) := by
  unfold State.takeGrant
  split
  · split
    · exact s.toNeighbour_kept n release
    next k o found =>
      obtain ⟨stands, -⟩ := s.offerOf_some found
      split
      · next sent =>
        refine (State.updOffer_kept stands (p := o.grant) rfl rfl fun lawful => ?_).trans
          (State.completionTest_kept _ _)
        exact ⟨nofun, fun _ => ((lawful.2 k o stands).1 sent).1⟩
      · exact .refl s
  · exact .refl s

theorem State.takeRefuse_kept (n : Fin 4) (kind : OfferKind) (id : Byte) (target : Option Byte) :
    HoldingsKept s (s.takeRefuse n kind id target) := by
  unfold State.takeRefuse
  split
  · split
    · exact .refl s
    · split
      · exact (s.removeOffer_kept _).trans (State.failSetting_kept _ _)
      · exact .refl s
  · exact .refl s

theorem State.dropSent_kept (k : Fin 8) : HoldingsKept s (s.dropSent k) := by
  unfold State.dropSent
  split
  · exact .refl s
  · exact (s.handBack_kept k).trans (State.failSetting_kept _ _)

theorem State.dropAllSent_kept (n : Fin 4) : HoldingsKept s (s.dropAllSent n) :=
  State.forEach_holdings _ (fun t k => by
    split
    · exact t.dropSent_kept k
    · exact .refl t) s _

theorem State.handBack_leave (k : Fin 8) : OffersLeave s (s.handBack k) := fun j => by
  rw [(s.handBack_removeOffer k).2]
  exact s.removeOffer_leave k j

theorem OffersLeave.of_same {s t : State} (same : t.hou.offers = s.hou.offers) :
    OffersLeave s t := fun _ => .inl (by rw [same])

theorem State.fullRelease_leave (r : Fin 64) : OffersLeave s (s.fullRelease r) := by
  set u := (s.freeElements (.route r) anyRole).dropFlank (.route r) with hu
  have before : OffersLeave s u := .of_same (by simp [hu])
  have back : OffersLeave u (u.handBackAll r) :=
    State.forEach_induct (OffersLeave u) _ (fun t k leave => leave.trans (t.handBack_leave k)) u _
      (.of_same rfl)
  have after : OffersLeave (u.handBackAll r) (s.fullRelease r) := .of_same (by
    rw [State.fullRelease, ← hu]
    simp)
  exact (before.trans back).trans after

theorem State.failSetting_leave (r : Fin 64) : OffersLeave s (s.failSetting r) := by
  unfold State.failSetting
  split
  · exact s.fullRelease_leave r
  · exact .of_same rfl

theorem State.dropSent_leave (k : Fin 8) : OffersLeave s (s.dropSent k) := by
  unfold State.dropSent
  split
  · exact .of_same rfl
  · exact (s.handBack_leave k).trans (State.failSetting_leave _ _)

theorem State.dropSent_gone_at (k : Fin 8) : (s.dropSent k).hou.offers[k] = none := by
  cases stands : s.hou.offers[k] with
  | none => rw [State.dropSent, stands]; exact stands
  | some o =>
    have gone : (s.handBack k).hou.offers[k] = none := by
      rw [(s.handBack_removeOffer k).2, s.removeOffer_some stands]
      exact upd_same _ _ _
    rw [State.dropSent, stands]
    exact ((State.failSetting_leave (s.handBack k) o.route) k).elim (fun same => same.trans gone) id

theorem State.dropSentIn_sent (n : Fin 4) (ks : List (Fin 8)) :
    OffersLeave s (s.dropSentIn n ks) ∧ ∀ k ∈ ks, ∀ o, (s.dropSentIn n ks).hou.offers[k] = some o →
      o.neighbour = n → o.state ≠ .sent := by
  unfold State.dropSentIn
  induction ks generalizing s with
  | nil =>
    rw [State.forEach_nil]
    exact ⟨.of_same rfl, nofun⟩
  | cons x xs ih =>
    rw [State.forEach_cons]
    set u := if (s.hou.offers[x]).any (·.sentTo n) then s.dropSent x else s with hu
    obtain ⟨later, others⟩ := ih u
    have first : OffersLeave s u := by
      rw [hu]
      split
      · exact s.dropSent_leave x
      · exact .of_same rfl
    refine ⟨first.trans later, fun k mem o stands towards sent => ?_⟩
    obtain rfl | mem := List.mem_cons.1 mem
    · have at_k : u.hou.offers[k] = some o := by
        obtain same | none := later k
        · exact same.symm.trans stands
        · nomatch none.symm.trans stands
      rw [hu] at at_k
      split at at_k
      · nomatch (s.dropSent_gone_at k).symm.trans at_k
      · next unsent =>
        rw [at_k] at unsent
        exact unsent (by simp [Offer.sentTo, towards, sent])
    · exact others k mem o stands towards sent

/-- The removal of the SENT records to a neighbour leaves records alone that stood before, none of
them SENT to it. -/
theorem State.dropAllSent_before (n : Fin 4) {k : Fin 8} {o : Offer}
    (stands : (s.dropAllSent n).hou.offers[k] = some o) :
    s.hou.offers[k] = some o ∧ (o.neighbour = n → o.state ≠ .sent) := by
  obtain ⟨leave, unsent⟩ := s.dropSentIn_sent n (indices 8)
  refine ⟨?_, unsent k (List.mem_finRange k) o stands⟩
  obtain same | none := leave k
  · exact same.symm.trans stands
  · nomatch none.symm.trans stands

/-- A neighbour record rewritten moves no record, reference or set. -/
theorem State.updNeighbour_sets (n : Fin 4) (f : NeighbourRec → NeighbourRec) :
    RefsKept s (s.updNeighbour n f) ∧ FlankKept s (s.updNeighbour n f) :=
  ⟨.of_owners (fun _ => rfl) (fun _ => rfl) fun _ => rfl,
    (SameSets.of_tables rfl rfl ⟨rfl, rfl⟩).kept⟩

theorem State.updNeighbour_neighbour (n m : Fin 4) (f : NeighbourRec → NeighbourRec) :
    (s.updNeighbour n f).hou.neighbours[m] =
      if n = m then f s.hou.neighbours[m] else s.hou.neighbours[m] := by
  rw [State.updNeighbour_neighbours, upd_get]

theorem State.blockNeighbour_kept (n : Fin 4) : HoldingsKept s (s.blockNeighbour n) := by
  set v := (s.updNeighbour n fun r => { r with blocked := true }).setFault .neighbourBlocked
    (byteOf n.val) with hv
  have dropped : HoldingsKept v (s.blockNeighbour n) := v.dropAllSent_kept n
  obtain ⟨refs, sets⟩ := s.updNeighbour_sets n fun r => { r with blocked := true }
  have flagged : HoldingsKept (s.updNeighbour n fun r => { r with blocked := true }) v :=
    State.setFault_kept _ _ _
  refine ⟨⟨(refs.trans flagged.offers.toRefsKept).trans dropped.offers.toRefsKept,
    fun lawful => OffersLawful.of_before lawful fun k o stands => ?_⟩,
    dropped.flank ∘ flagged.flank ∘ sets⟩
  obtain ⟨stood, unsent⟩ := v.dropAllSent_before n stands
  have neighbour (m : Fin 4) : (s.blockNeighbour n).hou.neighbours[m] =
      if n = m then { s.hou.neighbours[m] with blocked := true } else s.hou.neighbours[m] := by
    rw [← s.updNeighbour_neighbour n m fun r => { r with blocked := true }]
    simp [State.blockNeighbour]
  obtain ⟨sent, granted⟩ := lawful.2 k o stood
  refine ⟨o, stood, rfl, fun now => ?_, fun now => ?_⟩
  · rw [State.Reachable, neighbour, if_neg fun same => unsent same.symm now]
    exact sent now
  · rw [neighbour]
    split <;> exact granted now

theorem State.applyPolicy_kept {k : Fin 8} {o : Offer} (stands : s.hou.offers[k] = some o)
    (policy : ReplyPolicy) : HoldingsKept s (s.applyPolicy k o policy) := by
  cases policy with
  | wait => exact State.updOffer_kept stands rfl rfl fun lawful => lawful.2 k o stands
  | resend =>
    simp only [State.applyPolicy]
    split
    · exact (State.updOffer_kept stands (p := { o with
        resends := o.resends + 1, reply := .start (replyTime s.config o.neighbour) }) rfl rfl
        fun lawful => lawful.2 k o stands).trans (State.toNeighbour_kept _ _ _)
    · exact s.dropSent_kept k
  | drop => exact s.dropSent_kept k
  | block => exact (s.dropSent_kept k).trans (State.blockNeighbour_kept _ _)

theorem State.replyExpiry_kept (k : Fin 8) : HoldingsKept s (s.replyExpiry k) := by
  unfold State.replyExpiry
  split
  · exact .refl s
  next o stands =>
    split
    · exact .refl s
    · split
      · exact s.applyPolicy_kept stands _
      · exact .refl s

/-! ## Silence (R156) -/

theorem State.unconfirmOffers_refs (n : Fin 4) : RefsKept s (s.unconfirmOffers n) := by
  refine .of_owners (fun k => ?_) (fun _ => rfl) fun _ => rfl
  rw [State.unconfirmOffers, mapTab_get]
  cases s.hou.offers[k] with
  | none => rfl
  | some o =>
    simp only [Option.map_some, Offer.unconfirm]
    split <;> rfl

theorem State.orphanHosted_kept (n : Fin 4) : HoldingsKept s (s.orphanHosted n) := by
  have portion (r : PortionRec) :
      (r.orphaned n).hold = r.hold ∧ (r.orphaned n).state = r.state := by
    unfold PortionRec.orphaned
    split <;> exact ⟨rfl, rfl⟩
  have portions : SameHoldings s (s.mapPortions fun _ => PortionRec.orphaned n) := by
    refine .of_paths rfl ⟨rfl, rfl⟩ ⟨rfl, rfl⟩ rfl (.of_portions (fun p => ?_) rfl)
    simp only [State.pathless, State.mapPortions, mapTab_get, (portion _).1, (portion _).2]
    exact ⟨trivial, id⟩
  refine portions.kept.trans (State.mapGrants_kept _ _ fun k => ?_)
  cases (s.mapPortions fun _ => PortionRec.orphaned n).hou.grants[k] with
  | none => rfl
  | some g =>
    simp only [Option.map_some, Grant.orphaned]
    split <;> rfl

theorem State.silenceEvent_kept (n : Fin 4) : HoldingsKept s (s.silenceEvent n) := by
  obtain ⟨refs, sets⟩ := s.updNeighbour_sets n fun r =>
    { r with state := .silent, silence := .stopped, view := none }
  have dropped : HoldingsKept (s.silentRecord n) (s.withoutSent n) :=
    State.dropAllSent_kept _ n
  set w := (s.withoutSent n).unconfirmOffers n with hw
  have counted : HoldingsKept w (w.acuSilence n) := HoldingsStand.kept (by simp)
  have bare : HoldingsKept w (s.silencedBare n) :=
    (counted.trans (State.orphanHosted_kept _ n)).andSame (by simp [State.silencedBare, hw])
  have orphaned : HoldingsKept w (s.silenceEvent n) := bare.trans (State.provingTests_kept _ _)
  refine ⟨⟨((refs.trans dropped.offers.toRefsKept).trans
      ((s.withoutSent n).unconfirmOffers_refs n)).trans orphaned.offers.toRefsKept,
    fun lawful => OffersLawful.of_before lawful fun k o stands => ?_⟩, ?_⟩
  · rw [s.silenceEvent_offers n] at stands
    obtain ⟨q, left, rfl⟩ := Option.map_eq_some_iff.1 stands
    obtain ⟨stood, unsent⟩ := (s.silentRecord n).dropAllSent_before n left
    have neighbour (m : Fin 4) (other : m ≠ n) :
        (s.silenceEvent n).hou.neighbours[m] = s.hou.neighbours[m] := by
      rw [(s.silenceEvent_withoutSent n).2.2.2.2, (s.withoutSent_keeps n).2.2.2.2,
        upd_other _ _ _ _ other.symm]
    obtain ⟨sent, granted⟩ := lawful.2 k q stood
    refine ⟨q, stood, ?_, ?_⟩
    · unfold Offer.unconfirm
      split <;> rfl
    · unfold Offer.unconfirm
      split
      · exact ⟨nofun, nofun⟩
      next active =>
        refine ⟨fun now => ?_, fun now => ?_⟩
        · rw [State.Reachable, neighbour _ fun same => unsent same now]
          exact sent now
        · rw [neighbour _ fun same => active ⟨same, now⟩]
          exact granted now
  · have unconfirmed : FlankKept (s.withoutSent n) ((s.withoutSent n).unconfirmOffers n) :=
      (SameSets.of_tables rfl rfl ⟨rfl, rfl⟩).kept
    exact orphaned.flank ∘ unconfirmed ∘ dropped.flank ∘ sets

theorem State.silenceExpiry_kept (n : Fin 4) : HoldingsKept s (s.silenceExpiry n) := by
  unfold State.silenceExpiry
  split
  · exact s.silenceEvent_kept n
  · exact .refl s

/-! ## STATUS (R147, R157, R158) -/

theorem State.loseOffer_kept (r : Fin 64) : HoldingsKept s (s.loseOffer r) := by
  unfold State.loseOffer
  split
  · exact s.fullRelease_kept r
  · exact s.cancelLocked_kept r
  · exact .refl s

theorem State.loseOffers_kept (qs : List (Fin 8 × Offer)) : HoldingsKept s (s.loseOffers qs) := by
  unfold State.loseOffers
  exact State.forEach_holdings _ (fun t q => t.loseOffer_kept q.2.route) s qs

theorem State.removeOffers_kept (qs : List (Fin 8 × Offer)) :
    HoldingsKept s (s.removeOffers qs) := by
  unfold State.removeOffers
  exact State.forEach_holdings _ (fun t q => t.removeOffer_kept q.1) s qs

/-- Records of a neighbour that is ALIVE confirmed (R157). -/
theorem State.confirmOffers_kept {n : Fin 4} {qs : List (Fin 8 × Offer)}
    (alive : (s.hou.neighbours[n]).state = .alive)
    (listed : ∀ q ∈ qs, s.hou.offers[q.1] = some q.2 ∧ q.2.neighbour = n) :
    HoldingsKept s (s.confirmOffers qs) := by
  have now (k : Fin 8) : (s.confirmOffers qs).hou.offers[k] = s.hou.offers[k] ∨
      ∃ o, s.hou.offers[k] = some o ∧ o.neighbour = n ∧
        (s.confirmOffers qs).hou.offers[k] = some o.grant := by
    refine State.forEach_induct_mem (fun t => t.hou.offers[k] = s.hou.offers[k] ∨
      ∃ o, s.hou.offers[k] = some o ∧ o.neighbour = n ∧ t.hou.offers[k] = some o.grant) _ qs
      (fun t q mem before => ?_) s (.inl rfl)
    obtain ⟨stands, towards⟩ := listed q mem
    rw [State.updOffer_offers, upd_get]
    split
    · next same => exact .inr ⟨q.2, same ▸ stands, towards, rfl⟩
    · exact before
  have records : (s.confirmOffers qs).lku = s.lku ∧ (s.confirmOffers qs).config = s.config ∧
      (s.confirmOffers qs).hou.neighbours = s.hou.neighbours ∧
      (s.confirmOffers qs).hou.portions = s.hou.portions ∧
      (s.confirmOffers qs).hou.grants = s.hou.grants := by simp
  obtain ⟨lku, config, neighbours, portions, grants⟩ := records
  refine ⟨⟨.of_owners (fun k => ?_) (fun r => by rw [lku]) fun r => by rw [lku],
    fun lawful => OffersLawful.of_before lawful fun k o stands => ?_⟩,
    (SameSets.of_tables config lku ⟨portions, grants⟩).kept⟩
  · obtain same | ⟨o, stands, -, granted⟩ := now k
    · rw [same]
    · rw [granted, stands]
      rfl
  · rw [State.Reachable, neighbours]
    obtain same | ⟨q, stood, towards, granted⟩ := now k
    · exact ⟨o, same.symm.trans stands, rfl, lawful.2 k o (same.symm.trans stands)⟩
    · obtain rfl := Option.some.inj (granted.symm.trans stands)
      exact ⟨q, stood, rfl, nofun, fun _ => towards ▸ alive⟩

theorem State.reconcileOffers_kept {n : Fin 4} (alive : (s.hou.neighbours[n]).state = .alive)
    (c : StatusContent) : HoldingsKept s (s.reconcileOffers n c) := by
  simp only [State.reconcileOffers]
  refine HoldingsKept.trans ?_ (State.completionTests_kept _ _)
  refine HoldingsKept.trans ?_ (State.loseOffers_kept _ _)
  refine HoldingsKept.trans ?_ (State.removeOffers_kept _ _)
  refine s.confirmOffers_kept (n := n) alive fun q mem => ?_
  obtain ⟨k, -, picked⟩ := List.mem_filterMap.1 (List.mem_filter.1 mem).1
  obtain ⟨o, stands, marked⟩ := Option.bind_eq_some_iff.1 picked
  split at marked
  · next unconfirmed => cases marked; exact ⟨stands, unconfirmed.1⟩
  · nomatch marked

theorem State.settlePortion_kept (n : Fin 4) (c : StatusContent) (p : Fin 16) :
    HoldingsKept s (s.settlePortion n c p) := by
  simp only [State.settlePortion]
  split
  · exact .refl s
  · split
    · split
      · exact (s.updPortion_sameHoldings p (fun x => { x with orphan := false }) rfl
          fun ended => ended).kept
      · exact s.endHosting_kept p
    · exact .refl s

theorem State.settleGrant_kept (n : Fin 4) (c : StatusContent) (k : Fin 8) :
    HoldingsKept s (s.settleGrant n c k) := by
  unfold State.settleGrant
  split
  · exact .refl s
  next g stands =>
    split
    · split
      · have same : SameHoldings s (s.updGrant k fun _ => some { g with orphan := false }) := by
          refine ⟨rfl, ⟨rfl, rfl⟩, fun j => ?_, .of_tables rfl rfl, fun _ _ => rfl, fun _ => rfl⟩
          rw [State.updGrant_grants, upd_get]
          split
          · next e => subst e; rw [stands]; rfl
          · rfl
        exact same.kept
      · exact s.freeGrantRecord_kept k
    · exact .refl s

theorem State.reconcileHosted_kept (n : Fin 4) (c : StatusContent) :
    HoldingsKept s (s.reconcileHosted n c) :=
  (State.forEach_holdings _ (fun t p => t.settlePortion_kept n c p) s _).trans
    (State.forEach_holdings _ (fun t k => t.settleGrant_kept n c k) _ _)

/-- A neighbour record set to ALIVE keeps the laws, and so does one with its BLOCKED flag cleared
(R145, R163). -/
theorem State.updNeighbour_kept (n : Fin 4) (f : NeighbourRec → NeighbourRec)
    (better : ∀ r, (r.state = .alive → (f r).state = .alive) ∧
      (r.blocked = false → (f r).blocked = false)) : HoldingsKept s (s.updNeighbour n f) := by
  obtain ⟨refs, sets⟩ := s.updNeighbour_sets n f
  refine ⟨⟨refs, fun lawful => OffersLawful.of_before lawful fun k o stands =>
    ⟨o, stands, rfl, ?_⟩⟩, sets⟩
  obtain ⟨sent, granted⟩ := lawful.2 k o stands
  rw [State.Reachable, State.updNeighbour_neighbour]
  split
  · exact ⟨fun now => (sent now).imp (better _).1 (better _).2,
      fun now => (better _).1 (granted now)⟩
  · exact ⟨sent, granted⟩

theorem State.toNeighbourAll_kept (n : Fin 4) (ps : List Payload) :
    HoldingsKept s (s.toNeighbourAll n ps) :=
  State.forEach_holdings _ (fun t p => t.toNeighbour_kept n p) s ps

theorem State.hearStatus_kept (n : Fin 4) (cfg : NeighbourCfg) (c : StatusContent) :
    HoldingsKept s (s.hearStatus n cfg c) := by
  simp only [State.hearStatus]
  set u := s.updNeighbour n fun r =>
    { r with state := .alive, silence := .start cfg.silenceLimit, view := some c } with hu
  set v := u.reportEvent n c.heads with hv
  have heard : HoldingsKept s v :=
    (s.updNeighbour_kept n (fun r =>
      { r with state := .alive, silence := .start cfg.silenceLimit, view := some c })
      fun r => ⟨fun _ => rfl, id⟩).andSame (by simp [hv, hu])
  have alive : (v.hou.neighbours[n]).state = .alive := by
    have same : v.hou.neighbours = u.hou.neighbours := by simp [hv]
    rw [same, hu, State.updNeighbour_neighbour, if_pos rfl]
  have settled : HoldingsKept s
      (if s.alive n then v else (v.reconcileOffers n c).reconcileHosted n c) := by
    split
    · exact heard
    · exact (heard.trans (v.reconcileOffers_kept alive c)).trans (State.reconcileHosted_kept _ n c)
  generalize (if s.alive n then v else (v.reconcileOffers n c).reconcileHosted n c) = w at settled ⊢
  split
  · exact (settled.trans (w.toNeighbourAll_kept n _)).trans (State.provingTests_kept _ _)
  · exact settled.trans (State.provingTests_kept _ _)

theorem State.takeStatus_kept (n : Fin 4) (c : StatusContent) :
    HoldingsKept s (s.takeStatus n c) := by
  unfold State.takeStatus
  split
  · exact .refl s
  · split
    · exact s.silenceEvent_kept n
    · exact s.hearStatus_kept n _ c

end

end Sys2Proof.Machine
end

section
/-! Nothing stands outside RUN (R74, R114, R159): every own effect leaves a station that is not in
RUN as bare as it was, and the entry to HALT makes it bare. -/

namespace Sys2Proof.Machine

open Sys2Proof

/-- No route or portion is set, no element held or claimed, nothing is offered, hosted or timed by
the pool. -/
def State.Bare (s : State) : Prop :=
  (∀ r : Fin 64, (s.lku.routes[r]).state = .idle) ∧
  (∀ p : Fin 16, (s.hou.portions[p]).state = .idle) ∧
  (∀ k : Fin 8, s.hou.grants[k] = none ∧ s.hou.offers[k] = none) ∧
  (∀ k : Fin 32, (s.lku.sections[k]).holder = none) ∧
  (∀ p : Fin 16, (s.lku.points[p]).holder = none ∧ (s.lku.points[p]).claimsN = 0 ∧
    (s.lku.points[p]).claimsR = 0) ∧
  (∀ g : Fin 16, (s.lku.signals[g]).holder = none ∧ (s.lku.signals[g]).holds = 0) ∧
  (∀ k : Fin 16, s.rtp.timers[k] = none) ∧ s.rtp.queue = []

theorem State.nothingOutsideRun_iff (s : State) :
    s.NothingOutsideRun ↔ (s.sld.station ≠ .run → s.Bare) := .rfl

section
variable {s t : State}

/-- Portions that stay IDLE and tables that stay leave the station bare. -/
theorem State.Bare.congr (bare : s.Bare) (lku : t.lku = s.lku) (rtp : t.rtp = s.rtp)
    (offers : t.hou.offers = s.hou.offers) (grants : t.hou.grants = s.hou.grants)
    (portions : ∀ p : Fin 16, (t.hou.portions[p]).state = (s.hou.portions[p]).state) : t.Bare := by
  rw [State.Bare, lku, rtp, offers, grants]
  simp only [portions]
  exact bare

/-- The tables that the law reads are in `t` as in `s`. -/
def BareTables (s t : State) : Prop :=
  t.lku = s.lku ∧ t.rtp = s.rtp ∧ t.hou.offers = s.hou.offers ∧ t.hou.grants = s.hou.grants ∧
    t.hou.portions = s.hou.portions

@[simp] theorem bareTables_iff (s t : State) : BareTables s t ↔
    t.lku = s.lku ∧ t.rtp = s.rtp ∧ t.hou.offers = s.hou.offers ∧ t.hou.grants = s.hou.grants ∧
      t.hou.portions = s.hou.portions := .rfl

theorem State.Bare.of_same (bare : s.Bare) (h : BareTables s t) : t.Bare := by
  obtain ⟨lku, rtp, offers, grants, portions⟩ := h
  exact bare.congr lku rtp offers grants fun p => by rw [portions]

theorem State.Bare.offer (bare : s.Bare) (k : Fin 8) : s.hou.offers[k] = none := (bare.2.2.1 k).2

theorem State.Bare.grant (bare : s.Bare) (k : Fin 8) : s.hou.grants[k] = none := (bare.2.2.1 k).1

theorem State.Bare.route (bare : s.Bare) (r : Fin 64) : (s.lku.routes[r]).state = .idle :=
  bare.1 r

theorem State.Bare.portion (bare : s.Bare) (p : Fin 16) : (s.hou.portions[p]).state = .idle :=
  bare.2.1 p

theorem State.Bare.timer (bare : s.Bare) (k : Fin 16) : s.rtp.timers[k] = none :=
  bare.2.2.2.2.2.2.1 k

theorem State.Bare.provingTests (bare : s.Bare) (ps : List (Fin 16)) : (s.provingTests ps).Bare :=
  State.forEach_induct State.Bare _ (fun t p bare => bare.congr (by simp) (by simp) (by simp)
    (by simp) fun q => by
      rw [State.provingTest_portion]
      split
      · rw [bare.portion q]; rfl
      · rfl) s ps bare

/-- A table without offers has none to drop. -/
theorem State.Bare.dropAllSent (bare : s.Bare) (n : Fin 4) : s.dropAllSent n = s := by
  refine State.forEach_induct (· = s) _ (fun t k same => ?_) s _ rfl
  subst same
  rw [bare.offer k]
  rfl

theorem State.Bare.silenceEvent (bare : s.Bare) (n : Fin 4) : (s.silenceEvent n).Bare := by
  have silent : (s.silentRecord n).Bare := bare.of_same ⟨rfl, rfl, rfl, rfl, rfl⟩
  have left : (s.withoutSent n) = s.silentRecord n := silent.dropAllSent n
  have tables : ∀ k : Fin 8, (s.silencedBare n).hou.offers[k] = none ∧
      (s.silencedBare n).hou.grants[k] = none := fun k => by
    simpa [State.silencedBare, left, State.unconfirmOffers, State.orphanHosted, State.mapGrants]
      using And.intro (silent.offer k) (silent.grant k)
  have portions (p : Fin 16) : ((s.silencedBare n).hou.portions[p]).state = .idle := by
    have same : (s.silencedBare n).hou.portions[p] =
        ((s.silentRecord n).hou.portions[p]).orphaned n := by
      simp [State.silencedBare, left, State.orphanHosted, State.mapPortions]
    rw [same, PortionRec.orphaned]
    split <;> exact silent.portion p
  have locks : (s.silencedBare n).lku = s.lku ∧ (s.silencedBare n).rtp = s.rtp := by
    simp [State.silencedBare, left, State.silentRecord]
  obtain ⟨routes, -, -, sections, points, signals, timers, queue⟩ := bare
  rw [State.silenceEvent_eq]
  refine State.Bare.provingTests ⟨?_, portions, fun k => (tables k).symm, ?_⟩ _
  · rw [locks.1]; exact routes
  · rw [locks.1, locks.2]; exact ⟨sections, points, signals, timers, queue⟩

/-- Without offer records no UNCONFIRMED one is settled. -/
theorem State.Bare.reconcileOffers (bare : s.Bare) (n : Fin 4) (c : StatusContent) :
    s.reconcileOffers n c = s := by
  have none : ((indices 8).filterMap fun k => (s.hou.offers[k]).bind fun o =>
      if o.neighbour = n ∧ o.state = .unconfirmed then some (k, o) else none) = [] :=
    List.filterMap_eq_nil_iff.2 fun k _ => by rw [bare.offer k]; rfl
  simp only [State.reconcileOffers]
  rw [none]
  simp [State.confirmOffers, State.removeOffers, State.loseOffers, State.completionTests]

theorem State.Bare.reconcileHosted (bare : s.Bare) (n : Fin 4) (c : StatusContent) :
    (s.reconcileHosted n c).Bare := by
  have portions : (s.settlePortions n c (indices 16)).Bare := by
    refine State.forEach_induct State.Bare _ (fun t p bare => ?_) s _ bare
    simp only [State.settlePortion]
    split
    · exact bare
    · split
      · split
        · refine bare.congr rfl rfl rfl rfl fun q => ?_
          rw [State.updPortion_portion]
          split <;> rfl
        · rw [State.endHosting, bare.portion p]
          exact bare
      · exact bare
  refine State.forEach_induct State.Bare _ (fun t k bare => ?_) _ _ portions
  rw [State.settleGrant, bare.grant k]
  exact bare

theorem State.Bare.hearStatus (bare : s.Bare) (n : Fin 4) (cfg : NeighbourCfg)
    (c : StatusContent) : (s.hearStatus n cfg c).Bare := by
  simp only [State.hearStatus]
  set v := (s.updNeighbour n fun r => { r with
    state := .alive, silence := .start cfg.silenceLimit, view := some c }).reportEvent n c.heads
    with hv
  have heard : v.Bare := bare.of_same (by simp [hv])
  have settled :
      (if s.alive n then v else (v.reconcileOffers n c).reconcileHosted n c).Bare := by
    split
    · exact heard
    · rw [heard.reconcileOffers]
      exact heard.reconcileHosted n c
  generalize (if s.alive n then v else (v.reconcileOffers n c).reconcileHosted n c) = w at settled ⊢
  refine State.Bare.provingTests ?_ _
  split
  · exact settled.of_same (by simp)
  · exact settled

theorem State.Bare.takeStatus (bare : s.Bare) (n : Fin 4) (c : StatusContent) :
    (s.takeStatus n c).Bare := by
  unfold State.takeStatus
  split
  · exact bare
  · split
    · exact bare.silenceEvent n
    · exact bare.hearStatus n _ c

/-- A telegram that reaches a station outside RUN (R50, R149, R153, R155, R159). -/
theorem State.Bare.deliver (bare : s.Bare) (outside : s.sld.station ≠ .run) (seq : Byte)
    (src : Source) (p : Payload) : (deliver seq src p s).Bare := by
  unfold Machine.deliver
  split
  · exact bare.takeStatus _ _
  · simpa only [State.takePortionRequest, if_neg outside] using bare
  · simpa only [State.takeGrant, if_neg outside] using bare
  · simpa only [State.takeRefuse, if_neg outside] using bare
  · unfold State.takePortionRelease
    split
    · exact bare
    · rw [if_neg fun h => outside h.1]
      exact bare
  · simpa only [State.takeFlankRequest, if_neg outside] using bare
  · simpa only [State.takeGrant, if_neg outside] using bare
  · simpa only [State.takeRefuse, if_neg outside] using bare
  · simpa only [State.takeFlankRelease, if_neg outside] using bare
  · exact bare.of_same (by simp)
  · exact bare.of_same (by simp)
  · exact bare

theorem State.Bare.collected (bare : s.Bare) (outside : s.sld.station ≠ .run) (kind : Byte)
    (f : Frame) : (s.collected kind f).Bare := by
  unfold State.collected
  obtain ⟨-, e⟩ | ⟨_, _, _, -, -, e⟩ | ⟨_, _, -, -, e⟩ | ⟨src, p, -, -, e⟩ := receive_cases kind f s
  · rw [e]; exact bare
  · rw [e]; exact bare.of_same (by simp)
  · rw [e]; exact bare.of_same (by simp)
  · rw [e]
    have station := congrArg Standing.station (s.received_standing src f)
    exact State.Bare.deliver (bare.of_same (by simp)) (fun run => outside (station.symm.trans run))
      _ src p

/-- Outside RUN no command is taken from the queue (R160). -/
theorem State.Bare.runCommand (bare : s.Bare) (outside : s.sld.station ≠ .run)
    (isRow : Byte → Bool) (work : State → QueuedCommand → State × Option Reason) :
    (s.runCommand isRow work).Bare := by
  obtain e | ⟨c, rest, takes, -⟩ := s.runCommand_cases isRow work
  · rw [e]; exact bare
  · exact absurd takes.1 outside

theorem State.refuseImage_bare (code : Byte) (delivered : List Byte) :
    BareTables s (s.refuseImage code delivered) := by
  simp only [State.refuseImage, State.startRefusedStatus]
  split <;> simp

theorem State.Bare.acceptImage (bare : s.Bare) (delivered : List Byte) :
    (s.acceptImage delivered).Bare := by
  obtain ⟨routes, portions, records, locks⟩ := bare
  refine ⟨fun r => ?_, fun p => ?_, records, locks⟩
  · simpa [State.acceptImage, State.idleOverlaps, State.startLines, State.updLine] using routes r
  · simpa [State.acceptImage, State.idleOverlaps, State.startLines, State.updLine] using portions p

theorem State.Bare.stop (bare : s.Bare) (delivered : List Byte) : (s.stop delivered).Bare := by
  cases station : s.sld.station with
  | config =>
    have refused : s.stop delivered =
        (s.observeStop.refuseImage ImageFault.stopped.code delivered).setFault .stopped 0 := by
      simp only [State.stop, State.observeStop, station]
    rw [refused]
    have observed : s.observeStop.Bare := bare.of_same ⟨rfl, rfl, rfl, rfl, rfl⟩
    exact (observed.of_same
      (State.refuseImage_bare ImageFault.stopped.code delivered)).of_same (by simp)
  | quiet =>
    have stopped := s.stop_stopped (delivered := delivered) (.inl station)
    exact stopped.nothingOutsideRun (by rw [stopped.loader]; nofun)
  | run =>
    have stopped := s.stop_stopped (delivered := delivered) (.inr station)
    exact stopped.nothingOutsideRun (by rw [stopped.loader]; nofun)
  | halt =>
    have same : s.stop delivered = s.observeStop := by
      simp only [State.stop, State.observeStop, station]
    rw [same]
    exact bare.of_same ⟨rfl, rfl, rfl, rfl, rfl⟩

theorem effect_bare {i : Instr} {s u : State} (h : s.effect i = some u)
    (outside : s.sld.station ≠ .run) (bare : s.Bare) : u.Bare := by
  cases i
  case reset | quietTimerExpiry | statusPeriodExpiry | statusPacingEnd | displayPeriodExpiry
      | displayPacingEnd | transmitAttempt | telegramSent | attemptFailed | transmitGiveUp =>
    nomatch h
  all_goals cases h
  case configReadEnd d =>
    unfold State.configReadEnd
    split
    · split
      · exact bare.acceptImage d
      · exact bare.of_same (State.refuseImage_bare _ d)
    · exact bare
  case configReadTimeout d =>
    unfold State.configReadTimeout
    split
    · exact bare.of_same (State.refuseImage_bare _ d)
    · exact bare
  case stop d => exact bare.stop d
  case sectionNotice k => rw [State.sectionNotice, if_neg fun h => outside h.1]; exact bare
  case pointNotice p => rw [State.pointNotice, if_neg fun h => outside h.1]; exact bare
  case settingTimerExpiry r =>
    rw [State.settingExpiry, if_neg fun h => by nomatch (bare.route r).symm.trans h.1]
    exact bare
  case poolTimerExpiry k => rw [State.poolExpiry, bare.timer k]; exact bare
  case silenceTimerExpiry n =>
    unfold State.silenceExpiry
    split
    · exact bare.silenceEvent n
    · exact bare
  case replyTimerExpiry k => rw [State.replyExpiry, bare.offer k]; exact bare
  case command | status | portionRequest | portionGrant | portionRefuse | portionRelease
      | flankRequest | flankGrant | flankRefuse | flankRelease | sectionReset
      | discardedTelegram => exact bare.collected outside _ _
  case setRoute | cancelRoute | movePoint | block | resetSection | confirmReset
      | clearNeighbourBlock | clearFault | unknownCommand => exact bare.runCommand outside _ _
  all_goals exact bare.of_same (by simp)

/-- RUN is left by STOP alone, which drops everything (R74, R168). -/
theorem effect_nothing {i : Instr} {s u : State} (h : s.effect i = some u)
    (nothing : s.NothingOutsideRun) : u.NothingOutsideRun := by
  by_cases run : s.sld.station = .run
  · intro outside
    obtain ⟨may, named⟩ := (effect_named i s u h).station
    have moved : u.sld.station ≠ s.sld.station := fun same => outside (same.trans run)
    obtain ⟨toQuiet, -, toHalt⟩ := named moved
    cases station : u.sld.station with
    | config =>
      have becomes : StationState.mayBecome .run .config = true := run ▸ station ▸ may
      nomatch becomes
    | quiet => nomatch run.symm.trans (toQuiet station).1
    | run => exact absurd station outside
    | halt =>
      obtain ⟨delivered, rfl⟩ | ⟨config, -⟩ := toHalt station
      · cases h
        exact (s.stop_stopped (.inr run)).nothingOutsideRun outside
      · nomatch run.symm.trans config
  · exact fun _ => effect_bare h run (nothing run)

theorem State.quietExpiry_nothing (nothing : s.NothingOutsideRun) :
    s.quietExpiry.NothingOutsideRun := by
  intro outside
  by_cases ready : s.sld.station = .quiet ∧ s.sld.quiet.due = true
  · have run : s.quietExpiry.sld.station = .run := by
      rw [State.quietExpiry_eq ready]
      simp [Loader.toRun]
    exact absurd run outside
  · rw [State.quietExpiry_idle ready] at outside ⊢
    exact nothing outside

theorem LinesAlone.nothing (h : LinesAlone s t) (pool : t.rtp = s.rtp)
    (nothing : s.NothingOutsideRun) : t.NothingOutsideRun := fun outside =>
  State.Bare.of_same (nothing (h.sld ▸ outside)) ⟨h.lku, pool, h.offers, h.grants, h.portions⟩

theorem exec_nothing {i : Instr} {s t : State} (e : exec i s = .next t)
    (nothing : s.NothingOutsideRun) : t.NothingOutsideRun := by
  cases h : s.effect i with
  | some u =>
    obtain ⟨v, run, rest⟩ := exec_rest h
    cases e.symm.trans run
    exact rest.toConsequences.nothingOutsideRun (effect_nothing h nothing)
  | none =>
    by_cases reset : i = .reset
    · subst reset; cases e
      exact State.reset_nothingOutsideRun
    · by_cases quiet : i = .quietTimerExpiry
      · subst quiet; cases e
        exact State.quietExpiry_nothing nothing
      · obtain ⟨named, -⟩ | ⟨named, -⟩ | lines := exec_without_effect h e
        · exact absurd named reset
        · exact absurd named quiet
        · exact lines.nothing (QueueShrinks.of_exec h e reset quiet).ledgers.1 nothing

theorem State.tick_nothing (nothing : s.NothingOutsideRun) : s.tick.NothingOutsideRun := by
  intro outside
  have station : s.tick.sld.station = s.sld.station := by rw [State.tick_sld]
  obtain ⟨routes, portions, records, sections, points, signals, timers, queue⟩ :=
    nothing (station ▸ outside)
  refine ⟨fun r => ?_, ?_, fun k => ⟨?_, ?_⟩, ?_, ?_, ?_, fun k => ?_, ?_⟩
  · simpa [State.tick_lku] using routes r
  · rw [State.tick_hou]; exact portions
  · rw [State.tick_hou]; exact (records k).1
  · simpa [State.tick_hou] using (records k).2
  · rw [State.tick_lku]; exact sections
  · rw [State.tick_lku]; exact points
  · rw [State.tick_lku]; exact signals
  · simpa [State.tick_rtp] using timers k
  · rw [State.tick_rtp]; exact queue

/-- Settles O55: every own effect keeps the law, what follows brings nothing back, and an interval
counts timers alone. -/
theorem nothingStandsOutsideRun : Obligations.NothingStandsOutsideRun := by
  intro s t nothing e
  cases waiting : s.pending with
  | nil =>
    rw [step_of_empty_queue waiting] at e
    cases e
    exact State.tick_nothing nothing
  | cons i rest =>
    rw [step, waiting] at e
    exact exec_nothing (s := { s with pending := rest }) e nothing

end

end Sys2Proof.Machine
end

section
/-! The laws of the offers and of the flank counts through every command and every interval. -/

namespace Sys2Proof.Machine

open Sys2Proof

section
variable {s t u : State}

/-! ## Commands and telegrams -/

theorem State.deliver_kept (seq : Byte) (src : Source) (p : Payload) :
    HoldingsKept s (deliver seq src p s) := by
  unfold deliver
  split
  · exact s.takeStatus_kept _ _
  · exact s.takePortionRequest_kept _ _ _
  · exact s.takeGrant_kept _ _ _ _ _
  · exact s.takeRefuse_kept _ _ _ _
  · exact s.takePortionRelease_kept _ _ _
  · exact s.takeFlankRequest_kept _ _ _ _
  · exact s.takeGrant_kept _ _ _ _ _
  · exact s.takeRefuse_kept _ _ _ _
  · exact s.takeFlankRelease_kept _ _
  · exact HoldingsStand.kept (by simp)
  · exact HoldingsStand.kept (by simp)
  · exact .refl s

theorem State.collected_kept (s : State) (kind : Byte) (f : Frame) :
    HoldingsKept s (s.collected kind f) := by
  unfold State.collected
  obtain ⟨-, e⟩ | ⟨_, _, _, -, -, e⟩ | ⟨_, _, -, -, e⟩ | ⟨src, p, -, -, e⟩ := receive_cases kind f s
  · rw [e]; exact .refl s
  · rw [e]; exact s.setFault_kept _ _
  · rw [e]; exact HoldingsStand.kept (by simp)
  · rw [e]; exact (State.deliver_kept _ src p).after (by simp)

theorem workSetRoute_kept (s : State) (c : QueuedCommand) :
    HoldingsKept s (workSetRoute s c).1 := by
  unfold workSetRoute
  split
  · exact .refl s
  · next r cfg _ =>
    unfold State.setRoute
    cases passes : s.checkRoute r cfg with
    | error why => exact .refl s
    | ok chosen => exact State.takeRoute_kept chosen passes

theorem workCancelRoute_kept (s : State) (c : QueuedCommand) :
    HoldingsKept s (workCancelRoute s c).1 := by
  unfold workCancelRoute
  split
  · exact .refl s
  · split
    · exact .refl s
    · exact s.fullRelease_kept _
    · exact s.cancelLocked_kept _
    · exact .refl s
    · exact .refl s
    · exact .refl s

/-- A block flag changed moves no count (R72). -/
theorem workBlock_kept (s : State) (c : QueuedCommand) : HoldingsKept s (workBlock s c).1 := by
  unfold workBlock
  split
  · next kind on _ _ =>
    split
    · exact .refl s
    next t flagged =>
      unfold State.setBlock at flagged
      split at flagged
      · obtain ⟨q, -, rfl⟩ := Option.map_eq_some_iff.1 flagged
        exact (s.updSectionLock_sameHoldings q.1 _).kept
      · obtain ⟨q, -, rfl⟩ := Option.map_eq_some_iff.1 flagged
        exact (s.updPointLock_sameHoldings q.1 (fun l => { l with blocked := on })
          fun l x => by cases x <;> rfl).kept
      · obtain ⟨q, -, rfl⟩ := Option.map_eq_some_iff.1 flagged
        exact (s.updSignalLock_sameHoldings q.1 (fun l => { l with blocked := on })
          fun l => rfl).kept
  · exact .refl s

theorem workClearNeighbourBlock_kept (s : State) (c : QueuedCommand) :
    HoldingsKept s (workClearNeighbourBlock s c).1 := by
  unfold workClearNeighbourBlock
  split
  · exact .refl s
  · next n _ _ =>
    exact (s.updNeighbour_kept n (fun r => { r with blocked := false })
      fun r => ⟨id, fun _ => rfl⟩).andSame (by simp)

theorem State.runCommand_kept (s : State) (isRow : Byte → Bool)
    {work : State → QueuedCommand → State × Option Reason}
    (works : ∀ t c, HoldingsKept t (work t c).1) : HoldingsKept s (s.runCommand isRow work) := by
  obtain e | ⟨c, rest, -, -, e⟩ := s.runCommand_cases isRow work
  · rw [e]; exact .refl s
  · rw [e]
    have worked := (works (s.taken rest) c).after (s := s) ⟨rfl, rfl, ⟨rfl, rfl⟩, rfl, rfl⟩
    exact worked.andSame (by simp)

/-! ## The loader -/

theorem State.refuseImage_kept (s : State) (code : Byte) (delivered : List Byte) :
    HoldingsKept s (s.refuseImage code delivered) := by
  simp only [State.refuseImage, State.startRefusedStatus]
  split <;> exact HoldingsStand.kept (by simp)

/-- A bare station has no held-flank set where its counts follow them. -/
theorem State.Bare.setOf (bare : s.Bare) (counted : s.FlankCounted) (h : SetHolder) :
    s.setOf h = [] := by
  match h with
  | .owner (.route r) => exact s.pathless_setOf counted (.inl (bare.route r))
  | .owner (.portion p) => exact s.pathless_setOf counted (.inl (bare.portion p))
  | .grant k => rw [State.setOf, bare.grant k]; rfl

/-- A bare station without sets meets the law under any configuration. -/
theorem State.Bare.flankCounted (bare : s.Bare) (empty : ∀ h, s.setOf h = []) :
    s.FlankCounted := by
  have naming (x : FlankElement) : s.setsNaming x = 0 := by
    rw [State.setsNaming_eq]
    simp [empty, NamesElement]
  obtain ⟨-, -, -, -, points, signals, -, -⟩ := bare
  have claims (p : Fin 16) (q : Position) : (s.lku.points[p]).claims q = 0 := by
    cases q
    · exact (points p).2.1
    · exact (points p).2.2
  refine State.flankCounted_iff.2 ⟨fun p q => ?_, fun p => .inl (claims p _), fun g => ?_,
    fun h _ => empty h⟩
  · rw [claims, naming]
    exact ⟨rfl, Nat.zero_le _⟩
  · rw [(signals g).2, naming]
    exact ⟨rfl, Nat.zero_le _⟩

theorem State.acceptImage_hou (s : State) (delivered : List Byte) :
    (s.acceptImage delivered).hou.offers = s.hou.offers ∧
    (s.acceptImage delivered).hou.neighbours = s.hou.neighbours ∧
    (s.acceptImage delivered).hou.grants = s.hou.grants := by
  simp [State.acceptImage, State.idleOverlaps, State.startLines, State.updLine]

theorem State.acceptImage_routes (s : State) (delivered : List Byte) (r : Fin 64) :
    ((s.acceptImage delivered).lku.routes[r]).offers = (s.lku.routes[r]).offers ∧
    ((s.acceptImage delivered).lku.routes[r]).state = (s.lku.routes[r]).state ∧
    ((s.acceptImage delivered).lku.routes[r]).hold.entries =
      (s.lku.routes[r]).hold.entries := by
  simp [State.acceptImage, State.idleOverlaps, State.startLines, State.updLine, Hold.entries]

theorem State.acceptImage_portions (s : State) (delivered : List Byte) (p : Fin 16) :
    ((s.acceptImage delivered).hou.portions[p]).hold.entries =
      (s.hou.portions[p]).hold.entries := by
  simp [State.acceptImage, State.idleOverlaps, State.startLines, State.updLine, Hold.entries]

theorem State.acceptImage_offersKept (s : State) (delivered : List Byte) :
    OffersKept s (s.acceptImage delivered) := by
  obtain ⟨offers, neighbours, -⟩ := s.acceptImage_hou delivered
  refine .of_refs offers neighbours (fun r => (s.acceptImage_routes delivered r).1)
    fun r ended => ?_
  simpa only [State.pathless, (s.acceptImage_routes delivered r).2.1] using ended

/-- An image is accepted while nothing is claimed, so its flank table changes no count. -/
theorem State.acceptImage_flankKept (bare : s.Bare) (delivered : List Byte) :
    FlankKept s (s.acceptImage delivered) := by
  refine fun counted => (bare.acceptImage delivered).flankCounted fun h => ?_
  have same : (s.acceptImage delivered).setOf h = s.setOf h := by
    match h with
    | .owner (.route r) => exact (s.acceptImage_routes delivered r).2.2
    | .owner (.portion p) => exact s.acceptImage_portions delivered p
    | .grant k => rw [State.setOf, State.setOf, (s.acceptImage_hou delivered).2.2]
  rw [same, bare.setOf counted h]

/-- At the entry to HALT everything is dropped (R74, R159). -/
theorem Stopped.kept (h : Stopped s u) : HoldingsKept s u := by
  have bare : u.Bare := h.nothingOutsideRun (by rw [h.loader]; nofun)
  have refs (r : Fin 64) : (u.lku.routes[r]).offers = [] := by rw [h.routes]; rfl
  have free {k : Fin 8} {o : Offer} (stands : u.hou.offers[k] = some o) : False := by
    nomatch (bare.offer k).symm.trans stands
  refine ⟨⟨⟨fun _ r k mem => ?_, fun _ _ => ⟨fun k o stands => (free stands).elim, fun r => ?_⟩⟩,
    fun _ => ⟨fun k j o q stands => (free stands).elim, fun k o stands => (free stands).elim⟩⟩,
    fun _ => bare.flankCounted fun x => ?_⟩
  · rw [refs] at mem
    nomatch mem
  · rw [refs]
    exact ⟨List.nodup_nil, fun _ => rfl⟩
  · match x with
    | .owner (.route r) => rw [State.setOf, State.holdOf, h.routes]; rfl
    | .owner (.portion p) => rw [State.setOf, State.holdOf, h.hosted.1]; rfl
    | .grant k => rw [State.setOf, bare.grant k]; rfl

theorem State.stop_kept (s : State) (delivered : List Byte) :
    HoldingsKept s (s.stop delivered) := by
  have observed : HoldingsKept s s.observeStop :=
    HoldingsStand.kept ⟨rfl, rfl, ⟨rfl, rfl⟩, rfl, rfl⟩
  cases station : s.sld.station with
  | config =>
    have refused : s.stop delivered =
        (s.observeStop.refuseImage ImageFault.stopped.code delivered).setFault .stopped 0 := by
      simp only [State.stop, State.observeStop, station]
    rw [refused]
    exact (observed.trans (State.refuseImage_kept _ _ delivered)).trans (State.setFault_kept _ _ _)
  | quiet => exact (s.stop_stopped (.inl station)).kept
  | run => exact (s.stop_stopped (.inr station)).kept
  | halt =>
    have same : s.stop delivered = s.observeStop := by
      simp only [State.stop, State.observeStop, station]
    rw [same]
    exact observed

/-! ## Every own effect, and the rest of an event -/

theorem effect_kept {i : Instr} {s u : State} (h : s.effect i = some u)
    (other : ∀ delivered, i ≠ .configReadEnd delivered) : HoldingsKept s u := by
  cases i
  case reset | quietTimerExpiry | statusPeriodExpiry | statusPacingEnd | displayPeriodExpiry
      | displayPacingEnd | transmitAttempt | telegramSent | attemptFailed | transmitGiveUp =>
    nomatch h
  case configReadEnd d => exact absurd rfl (other d)
  all_goals cases h
  case configReadTimeout d =>
    unfold State.configReadTimeout
    split
    · exact s.refuseImage_kept _ d
    · exact .refl s
  case stop d => exact s.stop_kept d
  case sectionNotice k => exact s.sectionNotice_kept k
  case pointNotice p => exact s.pointNotice_kept p
  case settingTimerExpiry r => exact s.settingExpiry_kept r
  case poolTimerExpiry k => exact s.poolExpiry_kept k
  case silenceTimerExpiry n => exact s.silenceExpiry_kept n
  case replyTimerExpiry k => exact s.replyExpiry_kept k
  case command | status | portionRequest | portionGrant | portionRefuse | portionRelease
      | flankRequest | flankGrant | flankRefuse | flankRelease | sectionReset
      | discardedTelegram => exact s.collected_kept _ _
  case setRoute => exact s.runCommand_kept _ workSetRoute_kept
  case cancelRoute => exact s.runCommand_kept _ workCancelRoute_kept
  case block => exact s.runCommand_kept _ workBlock_kept
  case clearNeighbourBlock => exact s.runCommand_kept _ workClearNeighbourBlock_kept
  case movePoint | resetSection | confirmReset | clearFault | unknownCommand =>
    exact s.runCommand_kept _ fun t c => HoldingsStand.kept (by simp)
  all_goals exact HoldingsStand.kept (by simp)

/-- The end of the reading of the image: an accepted one leaves the offers, and the counts where
nothing stands outside RUN. -/
theorem State.configReadEnd_kept (s : State) (delivered : List Byte) :
    OffersKept s (s.configReadEnd delivered) ∧
      (s.NothingOutsideRun → FlankKept s (s.configReadEnd delivered)) := by
  unfold State.configReadEnd
  split
  · next config =>
    split
    · refine ⟨s.acceptImage_offersKept delivered, fun nothing => ?_⟩
      exact State.acceptImage_flankKept (nothing (by rw [config]; nofun)) delivered
    · exact ⟨(s.refuseImage_kept _ delivered).offers,
        fun _ => (s.refuseImage_kept _ delivered).flank⟩
  · exact ⟨(HoldingsKept.refl s).offers, fun _ => id⟩

/-- What follows within an event moves no record, reference or set (R154). -/
theorem Consequences.kept_holdings {b : State} (event : Consequences b u t) : HoldingsKept u t := by
  refine SameHoldings.kept ⟨event.surroundings.2.2.2, ⟨event.offers.1, event.neighbours⟩,
    fun k => ?_, .of_portions (fun p => ?_) (by rw [event.locks]), fun p q => by rw [event.locks],
    fun g => by rw [event.locks]⟩
  · rw [event.grants]
    cases u.hou.grants[k] with
    | none => rfl
    | some x =>
      simp only [Option.map_some]
      split <;> rfl
  · rw [State.pathless, event.portions]
    split
    · exact ⟨rfl, PortionState.proved_pathless _ _⟩
    · exact ⟨rfl, id⟩

theorem State.announce_kept (s : State) : HoldingsKept s s.announce := HoldingsStand.kept (by simp)

theorem State.quietExpiry_kept (s : State) : HoldingsKept s s.quietExpiry := by
  by_cases ready : s.sld.station = .quiet ∧ s.sld.quiet.due = true
  · rw [State.quietExpiry_eq ready]
    have event := (s.settled_consequences { s with sld := s.sld.toRun }).kept_holdings
    exact (event.after (s := s) ⟨rfl, rfl, ⟨rfl, rfl⟩, rfl, rfl⟩).trans (State.announce_kept _)
  · rw [State.quietExpiry_idle ready]
    exact .refl s

theorem LinesAlone.kept (h : LinesAlone s t) : HoldingsKept s t :=
  HoldingsStand.kept ⟨h.config, h.lku, ⟨h.offers, h.neighbours⟩, h.portions, h.grants⟩

theorem State.resetKeeping_kept (s : State) : HoldingsKept s s.resetKeeping :=
  ⟨⟨⟨fun _ => State.reset_offersOwned, fun _ _ => State.reset_offersHeld⟩,
    fun _ => State.reset_offersLawful⟩, fun _ => State.reset_flankCounted⟩

theorem exec_kept {i : Instr} {s t : State} (e : exec i s = .next t) :
    OffersKept s t ∧ (s.NothingOutsideRun → FlankKept s t) := by
  have both (kept : HoldingsKept s t) : OffersKept s t ∧ (s.NothingOutsideRun → FlankKept s t) :=
    ⟨kept.offers, fun _ => kept.flank⟩
  cases h : s.effect i with
  | some u =>
    obtain ⟨v, run, rest⟩ := exec_rest h
    cases e.symm.trans run
    have after := rest.toConsequences.kept_holdings
    by_cases reading : ∃ delivered, i = .configReadEnd delivered
    · obtain ⟨delivered, rfl⟩ := reading
      cases h
      obtain ⟨offers, flank⟩ := s.configReadEnd_kept delivered
      exact ⟨offers.trans after.offers, fun nothing => after.flank ∘ flank nothing⟩
    · exact both ((effect_kept h fun delivered same => reading ⟨delivered, same⟩).trans after)
  | none =>
    obtain ⟨-, rfl⟩ | ⟨-, rfl⟩ | lines := exec_without_effect h e
    · exact both s.resetKeeping_kept
    · exact both s.quietExpiry_kept
    · exact both lines.kept

/-- An interval counts reply, setting and silence timers alone. -/
theorem State.tick_holdings (s : State) : HoldingsKept s s.tick := by
  have config : s.tick.config = s.config := s.tick_keeps.2.2.1
  have record (k : Fin 8) : s.tick.hou.offers[k] =
      (s.hou.offers[k]).map fun o => { o with reply := o.reply.tickIf s.endsBase } := by
    rw [State.tick_hou, mapTab_get]
  have neighbour (n : Fin 4) : s.tick.hou.neighbours[n] =
      { s.hou.neighbours[n] with silence := (s.hou.neighbours[n]).silence.tickIf s.endsBase } := by
    rw [State.tick_hou, mapTab_get]
  have route (r : Fin 64) : s.tick.lku.routes[r] =
      { s.lku.routes[r] with setting := (s.lku.routes[r]).setting.tickIf s.endsBase } := by
    rw [State.tick_lku, mapTab_get]
  refine ⟨⟨.of_owners (fun k => ?_) (fun r => by rw [route]) fun r => by rw [route],
    fun lawful => OffersLawful.of_before lawful fun k o stands => ?_⟩, ?_⟩
  · rw [record, Option.map_map]
    rfl
  · rw [record] at stands
    obtain ⟨q, stood, rfl⟩ := Option.map_eq_some_iff.1 stands
    refine ⟨q, stood, rfl, ?_⟩
    rw [State.Reachable, neighbour]
    exact lawful.2 k q stood
  · refine (SameSets.of_routes config ?_ ?_ fun r => by rw [route]; exact ⟨rfl, rfl⟩).kept
    · rw [State.tick_lku]; exact ⟨rfl, rfl⟩
    · rw [State.tick_hou]; exact ⟨rfl, rfl⟩

theorem step_kept {s t : State} (e : step s = .next t) :
    OffersKept s t ∧ (s.NothingOutsideRun → FlankKept s t) := by
  cases waiting : s.pending with
  | nil =>
    rw [step_of_empty_queue waiting] at e
    cases e
    exact ⟨s.tick_holdings.offers, fun _ => s.tick_holdings.flank⟩
  | cons i rest =>
    rw [step, waiting] at e
    obtain ⟨offers, flank⟩ := exec_kept e
    have taken : HoldingsKept s { s with pending := rest } :=
      HoldingsStand.kept ⟨rfl, rfl, ⟨rfl, rfl⟩, rfl, rfl⟩
    exact ⟨taken.offers.trans offers, fun nothing => flank nothing ∘ taken.flank⟩

end

/-- Settles O53: every operation keeps the laws of the records and of the references to them. -/
theorem offerTableStaysLawful : Obligations.OfferTableStaysLawful := by
  intro s t e
  obtain ⟨kept, -⟩ := step_kept e
  exact ⟨kept.lawful, kept.owned, kept.held⟩

/-- Settles O54: each set is counted in as it is filled and out as it is emptied, and what a search
chooses has room. -/
theorem flankCountsFollowTheHeldFlankSets : Obligations.FlankCountsFollowTheHeldFlankSets :=
  fun _ _ e => (step_kept e).2

end Sys2Proof.Machine
end

section
/-! PROOFS. BLOCK (R162) and CANCEL_ROUTE (R111, R112): the commands by their equations, case by
case. -/

namespace Sys2Proof.Machine
open Sys2Proof

/-! ## BLOCK -/

section
variable {s t : State} {c : QueuedCommand} {kind : ElementKind} {on : Bool} {b : Byte}

theorem elementKindArg_unknown (unknown : 3 ≤ b.toNat) : elementKindArg b = none := by
  match h : b.toNat with
  | 0 | 1 | 2 => omega
  | n + 3 => simp only [elementKindArg, h]

theorem onOffArg_unknown (unknown : 2 ≤ b.toNat) : onOffArg b = none := by
  match h : b.toNat with
  | 0 | 1 => omega
  | n + 2 => simp only [onOffArg, h]

/-- Of the two values of the on/off argument 1 is on (R161). -/
theorem onOffArg_code (known : b.toNat ≤ 1) : onOffArg b = some (b == 1) := by
  match h : b.toNat with
  | 0 => obtain rfl : b = 0 := BitVec.eq_of_toNat_eq h; rfl
  | 1 => obtain rfl : b = 1 := BitVec.eq_of_toNat_eq h; rfl
  | n + 2 => omega

theorem workBlock_unknownCommand (unknown : 3 ≤ c.arg1.toNat ∨ 2 ≤ c.arg3.toNat) :
    workBlock s c = (s, some .unknownCommand) := by
  obtain kind | value := unknown
  · rw [workBlock, elementKindArg_unknown kind]
  · rw [workBlock, onOffArg_unknown value]
    cases elementKindArg c.arg1 <;> rfl

theorem workBlock_unknown (code : elementKindArg c.arg1 = some kind)
    (value : onOffArg c.arg3 = some on) (none : s.setBlock kind c.arg2 on = none) :
    workBlock s c = (s, some .unknownElement) := by
  simp only [workBlock, code, value, none]

theorem workBlock_done (code : elementKindArg c.arg1 = some kind)
    (value : onOffArg c.arg3 = some on) (found : s.setBlock kind c.arg2 on = some t) :
    workBlock s c = (t, none) := by
  simp only [workBlock, code, value, found]

end

/-- Settles O35: the two arguments by their values, then `State.setBlock` by the element's kind. -/
theorem blockChangesOneFlag : Obligations.BlockChangesOneFlag := by
  intro s c rest takes u answers
  have refuse {why : Reason} (works : workBlock u c = (u, some why)) :
      answers (u.refused c why) :=
    exec_rest (congrArg some (State.runCommand_refused takes (by decide) works))
  have finish {v : State} (works : workBlock u c = (v, none)) : answers (v.done c) :=
    exec_rest (congrArg some (State.runCommand_done takes (by decide) works))
  have kindOf {b : Byte} {kind : ElementKind} (code : c.arg1 = b)
      (named : elementKindArg b = some kind) : elementKindArg c.arg1 = some kind := code ▸ named
  refine ⟨fun unknown => refuse (workBlock_unknownCommand unknown), fun value code => ?_,
    fun value code => ?_, fun value code => ?_⟩
  case refine_1 =>
    have named := kindOf code (kind := .sect) rfl
    exact ⟨fun none => refuse (workBlock_unknown named (onOffArg_code value)
        (Option.map_eq_none_iff.2 none)),
      fun k x found => finish (workBlock_done named (onOffArg_code value)
        (Option.map_eq_some_iff.2 ⟨(k, x), found, rfl⟩))⟩
  case refine_2 =>
    have named := kindOf code (kind := .point) rfl
    exact ⟨fun none => refuse (workBlock_unknown named (onOffArg_code value)
        (Option.map_eq_none_iff.2 none)),
      fun k x found => finish (workBlock_done named (onOffArg_code value)
        (Option.map_eq_some_iff.2 ⟨(k, x), found, rfl⟩))⟩
  case refine_3 =>
    have named := kindOf code (kind := .signal) rfl
    exact ⟨fun none => refuse (workBlock_unknown named (onOffArg_code value)
        (Option.map_eq_none_iff.2 none)),
      fun k x found => finish (workBlock_done named (onOffArg_code value)
        (Option.map_eq_some_iff.2 ⟨(k, x), found, rfl⟩))⟩

/-! ## CANCEL_ROUTE -/

section
variable {s : State} {c : QueuedCommand} {r : Fin 64} {cfg : RouteCfg}

/-- The approach sections are clear where each of them passes the proving rule with its OCC latch
clear (R111). -/
theorem State.approachClear_iff (listed : s.config.routes[r] = some cfg) :
    s.approachClear r = true ↔
      ∀ k, k ∈ cfg.approach → s.proves k = true ∧ (s.acu.sections[k]).occ = false := by
  simp [State.approachClear, listed, List.all_eq_true, State.provesFree]

theorem State.cancelLocked_clear (clear : s.approachClear r = true) :
    s.cancelLocked r = s.fullRelease r := if_pos clear

theorem State.cancelLocked_held (taken : ¬s.approachClear r = true) : s.cancelLocked r =
    (s.updRoute r fun x => { x with state := .approachHeld }).requestTimer r := if_neg taken

theorem workCancelRoute_unknown (none : configured s.config.routes c.arg1 = none) :
    workCancelRoute s c = (s, some .unknownElement) := by
  rw [workCancelRoute, none]

variable (found : configured s.config.routes c.arg1 = some (r, cfg))
include found

theorem workCancelRoute_idle (state : (s.lku.routes[r]).state = .idle) :
    workCancelRoute s c = (s, some .notSet) := by
  simp only [workCancelRoute, found, state]

theorem workCancelRoute_setting (state : (s.lku.routes[r]).state = .setting) :
    workCancelRoute s c = (s.fullRelease r, none) := by
  simp only [workCancelRoute, found, state]

theorem workCancelRoute_locked (state : (s.lku.routes[r]).state = .locked) :
    workCancelRoute s c = (s.cancelLocked r, none) := by
  simp only [workCancelRoute, found, state]

theorem workCancelRoute_inUse (state : (s.lku.routes[r]).state = .inUse) :
    workCancelRoute s c = (s, some .inUse) := by
  simp only [workCancelRoute, found, state]

theorem workCancelRoute_releasing (state : (s.lku.routes[r]).state = .approachHeld ∨
    (s.lku.routes[r]).state = .overlapHeld) :
    workCancelRoute s c = (s, some .alreadyReleasing) := by
  obtain state | state := state
  · simp only [workCancelRoute, found, state]
  · simp only [workCancelRoute, found, state]

end

/-- Settles O33: the row by the state of the route, LOCKED by the approach test. -/
theorem cancelRouteFollowsTheRouteState : Obligations.CancelRouteFollowsTheRouteState := by
  intro s c rest takes u answers
  have refuse {why : Reason} (works : workCancelRoute u c = (u, some why)) :
      answers (u.refused c why) :=
    exec_rest (congrArg some (State.runCommand_refused takes (by decide) works))
  have finish {v : State} (works : workCancelRoute u c = (v, none)) : answers (v.done c) :=
    exec_rest (congrArg some (State.runCommand_done takes (by decide) works))
  refine ⟨fun none => refuse (workCancelRoute_unknown none), ?_⟩
  intro r cfg found
  have clear_iff : u.approachClear r = true ↔
      ∀ k, k ∈ cfg.approach → s.proves k = true ∧ (s.acu.sections[k]).occ = false :=
    State.approachClear_iff (s := u) (configured_entry found)
  have held (taken : ∃ k, k ∈ cfg.approach ∧
      ¬(s.proves k = true ∧ (s.acu.sections[k]).occ = false)) : ¬u.approachClear r = true := by
    obtain ⟨k, approach, not⟩ := taken
    exact fun clear => not (clear_iff.1 clear k approach)
  refine ⟨fun state => refuse (workCancelRoute_idle found state),
    fun state => finish (workCancelRoute_setting found state),
    fun state => ⟨fun clear => finish ((workCancelRoute_locked (s := u) found state).trans
        (congrArg (·, none) (State.cancelLocked_clear (clear_iff.2 clear)))),
      fun taken => finish ((workCancelRoute_locked (s := u) found state).trans
        (congrArg (·, none) (State.cancelLocked_held (held taken))))⟩,
    fun state => refuse (workCancelRoute_inUse found state),
    fun state => refuse (workCancelRoute_releasing found state)⟩

end Sys2Proof.Machine
end

section
/-! PROOFS. SET_ROUTE (R75 to R80): what each check of the setting event refuses, the elements as
one list, and the command by the first check that fails. -/

namespace Sys2Proof.Machine
open Sys2Proof

/-! ## The tests of one element (R77, R78) -/

section
variable {s : State} {entry : Fin 16} {k : Fin 32} {q : Fin 16 × Position} {why : Reason}

/-- An element may be taken where every holder of it is the overlap of a predecessor. -/
theorem mayTake_iff (cfg : ZoneConfig) (entry : Fin 16) (holder : Option Holder) :
    mayTake cfg (some entry) holder = true ↔ ∀ h, holder = some h → h.role = .overlap ∧
      ∃ p, planOf cfg h.owner = some p ∧ p.exit = .localSignal entry := by
  simp [mayTake, Option.all_eq_true, isPredecessor]

theorem State.checkSection_eq_some_iff : s.checkSection (some entry) k = some why ↔
    (why = .conflict ∧ ¬mayTake s.config (some entry) (s.lku.sections[k]).holder = true) ∨
      (why = .blocked ∧ mayTake s.config (some entry) (s.lku.sections[k]).holder = true ∧
        (s.lku.sections[k]).blocked = true) := by
  have order : s.checkSection (some entry) k =
      if ¬mayTake s.config (some entry) (s.lku.sections[k]).holder = true then some .conflict
      else if (s.lku.sections[k]).blocked = true then some .blocked else none := by
    simp [State.checkSection]
  rw [order]
  split_ifs with taken blocked
  · simp [-Fin.getElem_fin, taken, blocked, eq_comm (a := why)]
  · simp [-Fin.getElem_fin, taken, blocked]
  · simp [-Fin.getElem_fin, taken, eq_comm (a := why)]

/-- A point needs a move where it is not detected at the position or moves to the other (R78). -/
theorem PointRec.needsMove_iff (x : PointRec) (p : Position) : x.needsMove p = true ↔
    x.detected ≠ detectedAt p ∨ x.controller = .moving p.other := by
  simp [PointRec.needsMove, PointRec.at]

theorem PointLock.claims_otherOf (l : PointLock) (p : Position) :
    l.claims p.other = if p = .normal then l.claimsR else l.claimsN := by
  cases p <;> rfl

theorem State.trackFree_iff_listed (s : State) (p : Fin 16) : s.trackFree p = true ↔
    ∃ x, s.config.points[p] = some x ∧
      (s.acu.sections[x.track]).state = .clear ∧ (s.acu.sections[x.track]).occ = false := by
  simp [State.trackFree, Option.any_eq_true, SectionRec.isFree]

theorem State.checkPoint_eq_some_iff {moves claimed clear : Prop}
    (moves_iff : (s.pcu.points[q.1]).needsMove q.2 = true ↔ moves)
    (claimed_iff : (s.lku.points[q.1]).claims q.2.other ≠ 0 ↔ claimed)
    (clear_iff : s.trackFree q.1 = true ↔ clear) :
    s.checkPoint (some entry) q = some why ↔
    (why = .conflict ∧ ¬mayTake s.config (some entry) (s.lku.points[q.1]).holder = true) ∨
      (mayTake s.config (some entry) (s.lku.points[q.1]).holder = true ∧
        ((why = .blocked ∧ (s.lku.points[q.1]).blocked = true ∧ moves) ∨
        (¬((s.lku.points[q.1]).blocked = true ∧ moves) ∧
          ((why = .flankHeld ∧ claimed) ∨
            (why = .pointOccupied ∧ ¬claimed ∧ moves ∧ ¬clear))))) := by
  have order : s.checkPoint (some entry) q =
      if ¬mayTake s.config (some entry) (s.lku.points[q.1]).holder = true then some .conflict
      else if (s.lku.points[q.1]).blocked = true ∧ (s.pcu.points[q.1]).needsMove q.2 = true then
        some .blocked
      else if (s.lku.points[q.1]).claims q.2.other ≠ 0 then some .flankHeld
      else if (s.pcu.points[q.1]).needsMove q.2 = true ∧ ¬s.trackFree q.1 = true then
        some .pointOccupied
      else none := by
    simp [State.checkPoint]
  rw [order, ← moves_iff, ← claimed_iff, ← clear_iff]
  split_ifs with taken shut held occupied
  · simp [-Fin.getElem_fin, taken, shut, eq_comm (a := why)]
  · simp [-Fin.getElem_fin, taken, shut, held, eq_comm (a := why)]
  · have opened : (s.lku.points[q.1]).blocked = false :=
      Bool.eq_false_iff.2 fun blocked => shut ⟨blocked, occupied.1⟩
    simp [-Fin.getElem_fin, taken, opened, held, occupied, eq_comm (a := why)]
  · have free (moves : (s.pcu.points[q.1]).needsMove q.2 = true) : s.trackFree q.1 = true :=
      by_contra fun filled => occupied ⟨moves, filled⟩
    simpa [-Fin.getElem_fin, taken, shut, held] using fun _ => free
  · simp [-Fin.getElem_fin, taken, eq_comm (a := why)]

end

/-! ## The checks in their order (R75) -/

section
variable {s : State} {r : Fin 64} {c : RouteCfg} {why : Reason}

/-- The elements of a plan in the order of checks 3 to 5. -/
def elementsOf (p : Plan) : List (Fin 32 ⊕ Fin 16 × Position) :=
  p.path.map Sum.inl ++ ((p.points ++ p.overlapPoints).map Sum.inr ++ p.overlap.map Sum.inl)

/-- The tests of one element, section or point. -/
def State.checkElement (s : State) (entry : Option (Fin 16)) :
    Fin 32 ⊕ Fin 16 × Position → Option Reason
  | .inl k => s.checkSection entry k
  | .inr q => s.checkPoint entry q

/-- Checks 3 to 5 give the reason of the first element that fails. -/
theorem State.checkElements_eq (s : State) (entry : Option (Fin 16)) (p : Plan) :
    s.checkElements entry p = (elementsOf p).findSome? (s.checkElement entry) := by
  have sections (ks : List (Fin 32)) :
      (ks.map Sum.inl).findSome? (s.checkElement entry) = ks.findSome? (s.checkSection entry) := by
    rw [List.findSome?_map]
    rfl
  have points (qs : List (Fin 16 × Position)) :
      (qs.map Sum.inr).findSome? (s.checkElement entry) = qs.findSome? (s.checkPoint entry) := by
    rw [List.findSome?_map]
    rfl
  rw [elementsOf, List.findSome?_append, List.findSome?_append, sections, sections, points,
    State.checkElements]
  cases p.path.findSome? (s.checkSection entry) with
  | some why => rfl
  | none =>
    cases (p.points ++ p.overlapPoints).findSome? (s.checkPoint entry) with
    | some why => rfl
    | none => rfl

theorem findSome?_first {α β : Type} {f : α → Option β} {before after : List α} {x : α} {y : β}
    (pass : ∀ z, z ∈ before → f z = none) (found : f x = some y) :
    (before ++ x :: after).findSome? f = some y := by
  rw [List.findSome?_append, List.findSome?_eq_none_iff.2 pass, Option.none_or,
    List.findSome?_cons, found]

/-- The checks before the elements pass: the route is IDLE and its entry signal may be taken. -/
structure State.Entered (s : State) (r : Fin 64) (c : RouteCfg) : Prop where
  idle : (s.lku.routes[r]).state = .idle
  entry : s.checkEntry c.entry = none

theorem State.checkRoute_notIdle (set : (s.lku.routes[r]).state ≠ .idle) :
    s.checkRoute r c = .error .notIdle := if_pos set

theorem State.checkRoute_entry (idle : (s.lku.routes[r]).state = .idle)
    (fails : s.checkEntry c.entry = some why) : s.checkRoute r c = .error why := by
  simp only [State.checkRoute, idle, fails, ne_eq, not_true_eq_false, if_false]

theorem State.checkRoute_element (entered : s.Entered r c)
    (fails : s.checkElements (some c.entry) c.plan = some why) : s.checkRoute r c = .error why := by
  simp only [State.checkRoute, entered.idle, entered.entry, fails, ne_eq, not_true_eq_false,
    if_false]

theorem State.checkRoute_request (entered : s.Entered r c)
    (free : s.checkElements (some c.entry) c.plan = none)
    (fails : s.checkRequest c.request = some why) : s.checkRoute r c = .error why := by
  simp only [State.checkRoute, entered.idle, entered.entry, free, fails, ne_eq, not_true_eq_false,
    if_false]

theorem State.checkRoute_flank (entered : s.Entered r c)
    (free : s.checkElements (some c.entry) c.plan = none) (heard : s.checkRequest c.request = none)
    (none : s.flankSearch c.plan.flank = none) : s.checkRoute r c = .error .flankUnavailable := by
  simp only [State.checkRoute, entered.idle, entered.entry, free, heard, none, ne_eq,
    not_true_eq_false, if_false]

theorem State.checkRoute_found {chosen : List (Fin 48)} (entered : s.Entered r c)
    (free : s.checkElements (some c.entry) c.plan = none) (heard : s.checkRequest c.request = none)
    (found : s.flankSearch c.plan.flank = some chosen) : s.checkRoute r c =
      if s.freeRecords < remoteCount s.config c chosen then .error .noOfferSlot
      else .ok chosen := by
  simp only [State.checkRoute, entered.idle, entered.entry, free, heard, found, ne_eq,
    not_true_eq_false, if_false]

theorem State.checkEntry_eq (s : State) (g : Fin 16) : s.checkEntry g =
    if (s.lku.signals[g]).holder ≠ none then some .conflict
    else if (s.lku.signals[g]).blocked = true then some .blocked
    else if (s.lku.signals[g]).holds ≠ 0 then some .flankHeld
    else none := by
  simp only [State.checkEntry, Option.isSome_iff_ne_none]

/-- The flank search does not look at the command queue. -/
theorem State.taken_flankSearch (s : State) (rest : List QueuedCommand) (list : List (Fin 48)) :
    (s.taken rest).flankSearch list = s.flankSearch list := by
  have search (chosen : List FlankElement) :
      (s.taken rest).searchFrom list chosen = s.searchFrom list chosen := by
    induction list generalizing chosen with
    | nil => rfl
    | cons e list ih =>
      have choose : (s.taken rest).chooseFrom chosen e = s.chooseFrom chosen e := rfl
      have config : (s.taken rest).config = s.config := rfl
      simp only [State.searchFrom, choose, ih, config]
  exact search []

theorem State.checkRequest_none_of (alive : ∀ n p, c.request = some (n, p) →
    (s.hou.neighbours[n]).state = .alive ∧ (s.hou.neighbours[n]).blocked = false) :
    s.checkRequest c.request = none := by
  match h : c.request with
  | none => rfl
  | some (n, p) =>
    obtain ⟨state, blocked⟩ := alive n p h
    simp only [State.checkRequest, state, blocked]
    rfl

end

/-- Settles O29: the command by `State.checkRoute`, check by check; an element fails where its test
gives a reason. -/
theorem settingChecksRefuseInOrder : Obligations.SettingChecksRefuseInOrder := by
  intro s c rest r cfg takes found entry answers mayTakes sectionFails pointFails fails elements
    entered free heard spare
  let u := s.taken rest
  have refuse {why : Reason} (error : u.checkRoute r cfg = .error why) : answers why :=
    exec_rest (congrArg some (State.runCommand_refused takes (by decide)
      (workSetRoute_refused found error)))
  have mayTakes_iff (holder : Option Holder) :
      mayTake u.config (some cfg.entry) holder = true ↔ mayTakes holder :=
    mayTake_iff s.config cfg.entry holder
  have fails_iff (x : Fin 32 ⊕ Fin 16 × Position) (why : Reason) :
      u.checkElement (some cfg.entry) x = some why ↔ fails x why := by
    match x with
    | .inl k =>
      exact State.checkSection_eq_some_iff.trans (by rw [mayTakes_iff]; exact Iff.rfl)
    | .inr q =>
      exact (State.checkPoint_eq_some_iff (PointRec.needsMove_iff _ q.2)
        (by rw [PointLock.claims_otherOf]) (u.trackFree_iff_listed q.1)).trans
          (by rw [mayTakes_iff]; exact Iff.rfl)
  have passes_of {x : Fin 32 ⊕ Fin 16 × Position} (sound : ∀ why, ¬fails x why) :
      u.checkElement (some cfg.entry) x = none :=
    Option.eq_none_iff_forall_ne_some.2 fun why => mt (fails_iff x why).1 (sound why)
  have entered_of (h : entered) : u.Entered r cfg := by
    obtain ⟨idle, holder, unblocked, holds⟩ := h
    exact ⟨idle, (u.checkEntry_eq cfg.entry).trans ((if_neg (not_not.2 holder)).trans
      ((if_neg (Bool.eq_false_iff.1 unblocked)).trans (if_neg (not_not.2 holds))))⟩
  have free_of (h : free) : u.checkElements (some cfg.entry) cfg.plan = none := by
    rw [State.checkElements_eq]
    exact List.findSome?_eq_none_iff.2 fun x listed => passes_of (h.2 x listed)
  have heard_of (h : heard) : u.checkRequest cfg.request = none := State.checkRequest_none_of h.2
  refine ⟨fun set => refuse (State.checkRoute_notIdle set),
    fun idle holder => refuse (State.checkRoute_entry idle ?_),
    fun idle holder blocked => refuse (State.checkRoute_entry idle ?_),
    fun idle holder unblocked holds => refuse (State.checkRoute_entry idle ?_),
    fun enters before x after why split pass fail =>
      refuse (State.checkRoute_element (entered_of enters) ?_),
    fun isFree n p request => ⟨fun silent => ?_, fun alive blocked => ?_⟩,
    fun hears none => refuse (State.checkRoute_flank (s := u) (entered_of hears.1.1)
      (free_of hears.1) (heard_of hears) ((s.taken_flankSearch rest _).trans none)),
    fun chosen hears search => ?_⟩
  · exact (u.checkEntry_eq cfg.entry).trans (if_pos holder)
  · exact (u.checkEntry_eq cfg.entry).trans ((if_neg (not_not.2 holder)).trans (if_pos blocked))
  · exact (u.checkEntry_eq cfg.entry).trans ((if_neg (not_not.2 holder)).trans
      ((if_neg (Bool.eq_false_iff.1 unblocked)).trans (if_pos holds)))
  · rw [State.checkElements_eq]
    have split : elementsOf cfg.plan = before ++ x :: after := split
    rw [split]
    exact findSome?_first (fun y listed => passes_of (pass y listed)) ((fails_iff x why).2 fail)
  · refine refuse (State.checkRoute_request (entered_of isFree.1) (free_of isFree) ?_)
    rw [request]
    exact if_pos silent
  · refine refuse (State.checkRoute_request (entered_of isFree.1) (free_of isFree) ?_)
    rw [request]
    exact (if_neg (not_not.2 alive)).trans (if_pos blocked)
  · have result := State.checkRoute_found (s := u) (entered_of hears.1.1) (free_of hears.1)
      (heard_of hears) ((s.taken_flankSearch rest _).trans search)
    refine ⟨fun few => refuse (result.trans (if_pos few)), fun room => ?_⟩
    have passes := result.trans (if_neg (Nat.not_lt.2 room))
    rw [State.takeRoute_offering]
    exact exec_rest (congrArg some (State.runCommand_done takes (by decide)
      (workSetRoute_passes found passes)))

end Sys2Proof.Machine
end

section
/-! PROOFS. What a full release (R86) does, part by part: the elements and the claims, the offer
records with their releases, and the pool reference. -/

namespace Sys2Proof.Machine
open Sys2Proof

/-! ## Records handed back, with their releases (R151) -/

/-- The release of the offer that stands in a record, where one does, with its address. -/
def State.releaseOf (s : State) (k : Fin 8) : List (Payload × Byte) :=
  (s.hou.offers[k]).toList.flatMap fun o => addressed s.config o.neighbour o.release

/-- The releases of the offers in a list of records, each once. -/
def State.releasesOf (s : State) (ks : List (Fin 8)) : List (Payload × Byte) :=
  (distinct ks).flatMap s.releaseOf

theorem State.releasesOf_congr {s t : State} (config : t.config = s.config)
    (offers : t.hou.offers = s.hou.offers) (ks : List (Fin 8)) :
    t.releasesOf ks = s.releasesOf ks := by
  have one : t.releaseOf = s.releaseOf := funext fun k => by
    rw [State.releaseOf, State.releaseOf, config, offers]
  rw [State.releasesOf, State.releasesOf, one]

theorem Placed.congr {s s' t t' : State} {a : List (Payload × Byte)} (h : Placed s t a)
    (before : s.slu = s'.slu) (after : t'.slu = t.slu) : Placed s' t' a := by
  rwa [Placed, after, ← before]

theorem flatMap_filter_ne {α β : Type} [DecidableEq α] {f g : α → List β} {x : α} {l : List α}
    (gone : f x = []) (others : ∀ y, y ≠ x → f y = g y) :
    l.flatMap f = (l.filter fun y => y ≠ x).flatMap g := by
  induction l with
  | nil => rfl
  | cons y l ih =>
    by_cases same : y = x
    · subst same
      rw [List.flatMap_cons, gone, List.filter_cons_of_neg (by simp), ih, List.nil_append]
    · rw [List.filter_cons_of_pos (by simpa using same), List.flatMap_cons, List.flatMap_cons,
        others y same, ih]

/-- The listed records have been handed back: they are empty, with the release of each placed; a
route that none of them belongs to is as it was. -/
structure HandedBack (ks : List (Fin 8)) (s t : State) : Prop where
  config : t.config = s.config
  records : ∀ j : Fin 8, t.hou.offers[j] = if j ∈ ks then none else s.hou.offers[j]
  placed : Placed s t (s.releasesOf ks)
  stays : ∀ q : Fin 64, (∀ (k : Fin 8) (o : Offer), k ∈ ks → s.hou.offers[k] = some o →
    o.route ≠ q) → t.lku.routes[q] = s.lku.routes[q]

section
variable {s t u : State} {k : Fin 8} {ks : List (Fin 8)}

theorem HandedBack.nil (s : State) : HandedBack [] s s :=
  ⟨rfl, fun _ => rfl, .of_same rfl, fun _ _ => rfl⟩

theorem HandedBack.releaseOf (h : HandedBack ks s t) (j : Fin 8) :
    t.releaseOf j = if j ∈ ks then [] else s.releaseOf j := by
  rw [State.releaseOf, h.records, h.config]
  split <;> rfl

theorem HandedBack.cons (first : HandedBack [k] s u) (rest : HandedBack ks u t) :
    HandedBack (k :: ks) s t := by
  have later : u.releasesOf ks = ((distinct ks).filter fun y => y ≠ k).flatMap s.releaseOf :=
    flatMap_filter_ne (by rw [first.releaseOf, if_pos (List.mem_singleton_self k)])
      fun y other => by rw [first.releaseOf, if_neg (by simpa using other)]
  refine ⟨rest.config.trans first.config, fun j => ?_, ?_, fun q unnamed => ?_⟩
  · rw [rest.records, first.records]
    by_cases same : j = k <;> simp [same]
  · have both : s.releasesOf (k :: ks) = s.releasesOf [k] ++ u.releasesOf ks := by
      rw [later, State.releasesOf, State.releasesOf, distinct, List.flatMap_cons]
      simp [distinct]
    exact both ▸ first.placed.trans rest.placed
  · refine (rest.stays q fun j o mem stands => ?_).trans
      (first.stays q fun j o mem stands => ?_)
    · rw [first.records] at stands
      by_cases same : j ∈ [k]
      · rw [if_pos same] at stands
        cases stands
      · rw [if_neg same] at stands
        exact unnamed j o (List.mem_cons_of_mem _ mem) stands
    · exact unnamed j o (List.mem_cons.2 (.inl (List.mem_singleton.1 mem))) stands

theorem State.removeOffer_offers (s : State) (k j : Fin 8) :
    (s.removeOffer k).hou.offers[j] = if k = j then none else s.hou.offers[j] := by
  cases stands : s.hou.offers[k] with
  | none =>
    have same : s.removeOffer k = s := by rw [State.removeOffer, stands]
    rw [same]
    split
    · next at_k => rw [← at_k, stands]
    · rfl
  | some o =>
    rw [s.removeOffer_some stands]
    exact upd_get _ k j _

theorem State.handBack_handedBack (s : State) (k : Fin 8) : HandedBack [k] s (s.handBack k) := by
  obtain ⟨lku, hou⟩ := s.handBack_removeOffer k
  refine ⟨by simp, fun j => ?_, ?_, fun q unnamed => ?_⟩
  · rw [hou, s.removeOffer_offers]
    simp [eq_comm]
  · have release : s.releasesOf [k] = s.releaseOf k := by simp [State.releasesOf, distinct]
    rw [release, State.releaseOf]
    cases stands : s.hou.offers[k] with
    | none =>
      rw [State.handBack, stands]
      exact .of_same rfl
    | some o =>
      have same : (s.removeOffer k).slu = s.slu ∧ (s.removeOffer k).config = s.config := by simp
      have placed := (Placed.of_same same.1).trans
        ((s.removeOffer k).toNeighbour_placed o.neighbour o.release)
      rw [s.handBack_some stands]
      simpa [same.2] using placed
  · rw [lku]
    cases stands : s.hou.offers[k] with
    | none => rw [State.removeOffer, stands]
    | some o =>
      rw [s.removeOffer_route stands,
        if_neg (unnamed k o (List.mem_singleton_self k) stands)]

/-- The records of a list handed back one after the other (R151). -/
theorem State.handBacks_handedBack (s : State) (ks : List (Fin 8)) :
    HandedBack ks s (s.forEach ks State.handBack) := by
  induction ks generalizing s with
  | nil => simpa using HandedBack.nil s
  | cons k ks ih =>
    rw [State.forEach_cons]
    exact (s.handBack_handedBack k).cons (ih _)

end

/-! ## The pool reference given up (R116) -/

section
variable {s t : State} {k : Fin 16} {r x : Fin 64}

theorem State.poolDuration_congr (config : t.config = s.config)
    (state : (t.lku.routes[r]).state = (s.lku.routes[r]).state) :
    t.poolDuration r = s.poolDuration r := by
  rw [State.poolDuration, State.poolDuration, config, state]

theorem State.grantTimer_rtp (s : State) (k : Fin 16) (r : Fin 64) : (s.grantTimer k r).rtp =
    { s.rtp with timers := upd s.rtp.timers k fun _ => some ⟨r, .start (s.poolDuration r)⟩ } := by
  simp only [State.grantTimer, State.updRoute_keeps]
  rfl

theorem State.grantTimer_route (s : State) (k : Fin 16) (r x : Fin 64) :
    (s.grantTimer k r).lku.routes[x] =
      if r = x then { s.lku.routes[x] with pool := .timer k } else s.lku.routes[x] := by
  rw [State.grantTimer, State.updRoute_route]
  rfl

theorem State.grantHead_nil (empty : s.rtp.queue = []) : s.grantHead k = s := by
  rw [State.grantHead, empty]

theorem State.grantHead_cons {rest : List (Fin 64)} (queue : s.rtp.queue = r :: rest) :
    s.grantHead k = (s.setPoolQueue rest).grantTimer k r := by
  rw [State.grantHead, queue]

theorem State.giveUpTimer_none (none : (s.lku.routes[r]).pool = .none) : s.giveUpTimer r = s := by
  simp only [State.giveUpTimer, none]

theorem State.giveUpTimer_queued (queued : (s.lku.routes[r]).pool = .queued) : s.giveUpTimer r =
    (s.updRoute r fun c => { c with pool := .none }).setPoolQueue
      (s.rtp.queue.filter fun q => q ≠ r) := by
  simp only [State.giveUpTimer, queued]
  rfl

theorem State.giveUpTimer_timer (timer : (s.lku.routes[r]).pool = .timer k) : s.giveUpTimer r =
    ((s.updRoute r fun c => { c with pool := .none }).updPoolTimer k none).grantHead k := by
  simp only [State.giveUpTimer, timer]

/-- A route whose reference is given up, and a state that the giving up leaves but for its own
record, as a full release does. -/
theorem State.giveUpTimer_given (rtp : t.rtp = (s.giveUpTimer r).rtp)
    (others : ∀ x, x ≠ r → t.lku.routes[x] = (s.giveUpTimer r).lku.routes[x]) :
    PoolGivenUp r s t := by
  refine ⟨fun none => ?_, fun queued => ?_, fun k timer => ⟨fun empty => ?_, ?_⟩⟩
  · rw [rtp, State.giveUpTimer_none none]
  · rw [rtp, State.giveUpTimer_queued queued]
    rfl
  · rw [rtp, State.giveUpTimer_timer timer]
    exact congrArg State.rtp (State.grantHead_nil
      (s := (s.updRoute r fun c => { c with pool := .none }).updPoolTimer k none) empty)
  · intro x xs queue
    set v := (s.updRoute r fun c => { c with pool := .none }).updPoolTimer k none with hv
    have given : s.giveUpTimer r = (v.setPoolQueue xs).grantTimer k x :=
      (State.giveUpTimer_timer timer).trans (State.grantHead_cons queue)
    have duration : (v.setPoolQueue xs).poolDuration x = s.poolDuration x := by
      refine State.poolDuration_congr rfl ?_
      have route : (v.setPoolQueue xs).lku.routes[x] =
          (s.updRoute r fun c => { c with pool := .none }).lku.routes[x] := rfl
      rw [route, State.updRoute_route]
      split <;> rfl
    rw [rtp, given, State.grantTimer_rtp, duration]
    refine ⟨rfl, ?_, fun other => ?_⟩
    · exact upd_upd s.rtp.timers k (fun _ => none) fun _ => some ⟨x, .start (s.poolDuration x)⟩
    · rw [others x other, given, State.grantTimer_route, if_pos rfl]
end

/-! ## The full release (R86) -/

/-- A holder without those of a route: a full release frees every element the route holds. -/
theorem dropHolder_anyRole (r : Fin 64) (h : Option Holder) : dropHolder (.route r) anyRole h =
    if h.map (·.owner) = some (.route r) then none else h := by
  cases h with
  | none => simp [dropHolder, heldBy]
  | some x => simp [dropHolder, heldBy, anyRole]

theorem dropHolder_overlap (o : Owner) (h : Option Holder) : dropHolder o overlapRole h =
    if h = some ⟨o, .overlap⟩ then none else h := by
  obtain _ | ⟨owner, role⟩ := h
  · simp [dropHolder, heldBy]
  · simp [dropHolder, heldBy, overlapRole]

/-- Every element loses a holder that an owner has in one of the roles, and is otherwise as it was;
of points and signals this leaves the flank counts out. -/
structure HoldersDropped (o : Owner) (roles : Role → Bool) (s t : State) : Prop where
  sections : ∀ k : Fin 32, t.lku.sections[k] =
    { s.lku.sections[k] with holder := dropHolder o roles (s.lku.sections[k]).holder }
  points : ∀ p : Fin 16,
    (t.lku.points[p]).holder = dropHolder o roles (s.lku.points[p]).holder ∧
      (t.lku.points[p]).blocked = (s.lku.points[p]).blocked
  signals : ∀ g : Fin 16,
    (t.lku.signals[g]).holder = dropHolder o roles (s.lku.signals[g]).holder ∧
      (t.lku.signals[g]).blocked = (s.lku.signals[g]).blocked

/-- What a full release of a route leaves (R86). -/
structure ReleasedWhole (r : Fin 64) (s t : State) : Prop where
  route : t.lku.routes[r] = RouteRec.idle (idleOverlap s.config (.route r))
  holders : HoldersDropped (.route r) anyRole s t
  offers : ∀ k : Fin 8, t.hou.offers[k] =
    if k ∈ (s.lku.routes[r]).offers then none else s.hou.offers[k]
  flank : FlankRemoved (s.lku.routes[r]).hold.entries s t
  placed : Placed s t (s.releasesOf (s.lku.routes[r]).offers)
  pool : PoolGivenUp r s t
  states : ∀ q : Fin 64, q ≠ r → (t.lku.routes[q]).state = (s.lku.routes[q]).state

section
variable (s : State) (r : Fin 64)

theorem State.unlocked_holders : HoldersDropped (.route r) anyRole s (s.unlocked r) := by
  set u := s.freeElements (.route r) anyRole with hu
  obtain ⟨sections, points, signals⟩ := u.dropFlank_locks (.route r)
  obtain ⟨pointHolders, signalHolders⟩ := u.releaseFlank_holders (u.holdOf (.route r)).flank
  obtain ⟨-, freePoints, freeSignals⟩ := s.freeElements_holders (.route r) anyRole
  obtain ⟨-, pointBlocks, signalBlocks⟩ :=
    (Locking.blocks_eq_iff (s.unlocked r).lku s.lku).1 (by simp [State.unlocked])
  refine ⟨fun k => ?_, fun p => ⟨?_, pointBlocks p⟩, fun g => ⟨?_, signalBlocks g⟩⟩
  · rw [State.unlocked, ← hu, sections, hu]
    simp [State.freeElements]
  · rw [State.unlocked, ← hu, points, pointHolders, hu, freePoints]
  · rw [State.unlocked, ← hu, signals, signalHolders, hu, freeSignals]

theorem State.unlocked_removed :
    FlankRemoved (s.lku.routes[r]).hold.entries s (s.unlocked r) := by
  obtain ⟨claims, holds⟩ := s.unlocked_flank r
  refine ⟨fun p q => ?_, fun g => ?_⟩
  · rw [claims, State.namedBy_singleton]
  · rw [holds, State.namedBy_singleton]

end

/-- A full release is the unlocking, the records handed back and the pool reference given up, and
then the record at its IDLE values. -/
theorem State.fullRelease_whole (s : State) (r : Fin 64) :
    ReleasedWhole r s (s.fullRelease r) := by
  obtain ⟨config, hou, slu, rtp⟩ := s.unlocked_keeps r
  have refs : ((s.unlocked r).lku.routes[r]).offers = (s.lku.routes[r]).offers := by
    rw [s.unlocked_route]
    split <;> rfl
  have back := (s.unlocked r).handBacks_handedBack (s.lku.routes[r]).offers
  set v := (s.unlocked r).forEach (s.lku.routes[r]).offers State.handBack with hv
  have all : (s.unlocked r).handBackAll r = v := by rw [hv, State.handBackAll, refs]
  have released : s.fullRelease r = (v.giveUpTimer r).idleRoute r := by
    rw [← all]
    rfl
  obtain ⟨sections, points, signals⟩ : v.lku.sections = (s.unlocked r).lku.sections ∧
      v.lku.points = (s.unlocked r).lku.points ∧ v.lku.signals = (s.unlocked r).lku.signals := by
    rw [← all]
    simp
  have alike (x : Fin 64) : RouteAlike (s.unlocked r).lku.routes[x] v.lku.routes[x] := by
    rw [← all]
    exact State.handBackAll_alike _ r x
  have stateOf (x : Fin 64) : (v.lku.routes[x]).state = (s.lku.routes[x]).state := by
    rw [(alike x).state, s.unlocked_route]
    split <;> rfl
  have poolOf (x : Fin 64) : (v.lku.routes[x]).pool = (s.lku.routes[x]).pool := by
    rw [← all, State.handBackAll_pool, s.unlocked_route]
    split <;> rfl
  have configV : v.config = s.config := back.config.trans config
  have rtpV : v.rtp = s.rtp := by
    rw [← all, (State.handBackAll_keeps _ r).2.2.2.2.2.2.2.2.2.2.2.1, rtp]
  have given : PoolGivenUp r v (s.fullRelease r) := by
    refine State.giveUpTimer_given (by rw [released]; simp) fun x other => ?_
    rw [released, State.idleRoute_route, if_neg (Ne.symm other)]
  obtain ⟨none, queued, timer⟩ := given
  obtain ⟨lockSections, lockPoints, lockSignals⟩ := s.unlocked_holders r
  obtain ⟨claims, holds⟩ := s.unlocked_removed r
  refine ⟨?_, ⟨fun k => ?_, fun p => ?_, fun g => ?_⟩, fun k => ?_,
    ⟨fun p q => ?_, fun g => ?_⟩, ?_, ⟨fun h => ?_, fun h => ?_, fun k h => ?_⟩, fun q other => ?_⟩
  · rw [released, State.idleRoute_route, if_pos rfl]
    simp [configV]
  · rw [released, ← lockSections, ← sections]
    simp
  · rw [released, ← (lockPoints p).1, ← (lockPoints p).2, ← points]
    simp
  · rw [released, ← (lockSignals g).1, ← (lockSignals g).2, ← signals]
    simp
  · rw [released, ← hou, ← back.records]
    simp
  · rw [released, ← claims, ← points]
    simp
  · rw [released, ← holds, ← signals]
    simp
  · have placed := back.placed
    rw [State.releasesOf_congr config (congrArg Handover.offers hou)] at placed
    exact placed.congr slu (by rw [released]; simp)
  · rw [← rtpV]
    exact none ((poolOf r).trans h)
  · rw [← rtpV]
    exact queued ((poolOf r).trans h)
  · obtain ⟨empty, head⟩ := timer k ((poolOf r).trans h)
    rw [← rtpV]
    refine ⟨empty, fun x xs queue => ?_⟩
    rw [← State.poolDuration_congr configV (stateOf x)]
    exact head x xs queue
  · rw [released, State.idleRoute_route, if_neg (Ne.symm other),
      (RouteAlike.of_poolless (v.giveUpTimer_poolless r q)).1.state, stateOf]

/-- A route without a pool reference, all of whose offer references name records of its own, is
released without another route being touched (R86). -/
theorem State.fullRelease_others {s : State} {r q : Fin 64} (own : s.OffersOwned)
    (poolless : (s.lku.routes[r]).pool = .none) (other : q ≠ r) :
    (s.fullRelease r).lku.routes[q] = s.lku.routes[q] := by
  obtain ⟨-, hou, -, -⟩ := s.unlocked_keeps r
  have refs : ((s.unlocked r).lku.routes[r]).offers = (s.lku.routes[r]).offers := by
    rw [s.unlocked_route]
    split <;> rfl
  have free : (((s.unlocked r).handBackAll r).lku.routes[r]).pool = .none := by
    rw [State.handBackAll_pool, s.unlocked_route]
    split <;> exact poolless
  have released : s.fullRelease r = ((s.unlocked r).handBackAll r).idleRoute r :=
    congrArg (State.idleRoute · r) (State.giveUpTimer_none free)
  rw [released, State.idleRoute_route, if_neg (Ne.symm other), State.handBackAll, refs,
    ((s.unlocked r).handBacks_handedBack _).stays q, s.unlocked_route, if_neg (Ne.symm other)]
  intro k o mem stands same
  obtain ⟨x, names, owner⟩ := own r k mem
  rw [hou, names] at stands
  cases stands
  exact other (same.symm.trans owner)

end Sys2Proof.Machine
end

section
/-! PROOFS. The setting timer's expiry (R85). -/

namespace Sys2Proof.Machine
open Sys2Proof

/-- A route whose state was not IDLE, and with which every route from its entry signal is IDLE after
an event, gives the yellow and green lamps of that signal a new trial (R100). -/
theorem State.freshTrial_of_idle {b t : State} {r : Fin 64} {c : RouteCfg}
    (listed : t.config.routes[r] = some c) (set : (b.lku.routes[r]).state ≠ .idle)
    (idle : ∀ (q : Fin 64) (x : RouteCfg), t.config.routes[q] = some x → x.entry = c.entry →
      (t.lku.routes[q]).state = .idle) : b.freshTrial t c.entry = true := by
  have from_iff (q : Fin 64) : (t.config.routes[q]).any (·.entry == c.entry) = true ↔
      ∃ x, t.config.routes[q] = some x ∧ x.entry = c.entry := by
    simp [Option.any_eq_true]
  rw [State.freshTrial, Bool.and_eq_true, List.any_eq_true, List.all_eq_true]
  refine ⟨⟨r, List.mem_filter.2 ⟨List.mem_finRange r, (from_iff r).2 ⟨c, listed, rfl⟩⟩,
    bne_iff_ne.2 set⟩, fun q mem => beq_iff_eq.2 ?_⟩
  obtain ⟨x, named, entry⟩ := (from_iff q).1 (List.mem_filter.1 mem).2
  exact idle q x named entry

/-- A lamp that an event restores has no lamp-failed flag and no condition after it (R100). -/
theorem Consequences.restored {b u t : State} (h : Consequences b u t) {g : Fin 16} {l : Lamp}
    (restored : b.lampRestored t g l = true) : (t.lampRec g l).failed = false ∧
      ⟨.lampFailed, lampElement g l⟩ ∉ t.cmu.faults := by
  refine ⟨?_, fun stands => ((h.faults _).1 stands).2 ⟨g, l, restored, rfl⟩⟩
  rw [h.failed, restored]
  exact Bool.and_false _

theorem State.settingExpiry_due {s : State} {r : Fin 64}
    (setting : (s.lku.routes[r]).state = .setting) (due : (s.lku.routes[r]).setting.due = true) :
    s.settingExpiry r = (s.fullRelease r).setFault .settingFailed (byteOf r.val) :=
  if_pos ⟨setting, due⟩

/-- Settles O26: the expiry is a full release, and the lamps of the entry signal follow R100. -/
theorem settingExpiryReleasesTheRoute : Obligations.SettingExpiryReleasesTheRoute := by
  intro s r setting due left
  have expires : s.effect (.settingTimerExpiry r) =
      some ((s.fullRelease r).setFault .settingFailed (byteOf r.val)) :=
    congrArg some (State.settingExpiry_due setting due)
  obtain ⟨t, runs, rest⟩ := exec_rest expires
  have whole := s.fullRelease_whole r
  have lku : t.lku = (s.fullRelease r).lku := rest.locks.trans (by simp)
  have offers : t.hou.offers = (s.fullRelease r).hou.offers := rest.offers.1.trans (by simp)
  have rtp : t.rtp = (s.fullRelease r).rtp := rest.pool.trans (by simp)
  have classOne : t.slu.classOne = (s.fullRelease r).slu.classOne :=
    rest.lines.1.trans (by simp)
  have config : t.config = s.config := rest.surroundings.2.2.2.trans (by simp)
  have failed : ⟨.settingFailed, byteOf r.val⟩ ∈ t.cmu.faults :=
    (rest.faults _).2 ⟨by simp, fun ⟨_, _, _, same⟩ => nomatch congrArg Condition.kind same⟩
  obtain ⟨claims, holds⟩ := whole.flank
  refine ⟨t, runs, rest, by rw [lku, whole.route], fun k => ?_, fun p => ?_, fun g => ?_,
    fun k => by rw [offers, whole.offers], ⟨fun p q => by rw [lku, claims],
      fun g => by rw [lku, holds]⟩, ?_, ?_, rest.counts.trans (by simp),
    rest.points.trans (by simp), failed, fun c listed alone l notRed => ?_⟩
  · rw [lku, whole.holders.sections, dropHolder_anyRole]
  · rw [lku, (whole.holders.points p).1, (whole.holders.points p).2, dropHolder_anyRole]
    exact ⟨rfl, rfl⟩
  · rw [lku, (whole.holders.signals g).1, (whole.holders.signals g).2, dropHolder_anyRole]
    exact ⟨rfl, rfl⟩
  · exact whole.placed.queued classOne
  · obtain ⟨none, queued, timer⟩ := whole.pool
    rw [PoolGivenUp, rtp, lku]
    exact ⟨none, queued, timer⟩
  · have trial : s.freshTrial t c.entry = true := by
      refine State.freshTrial_of_idle (by rw [config]; exact listed) (by rw [setting]; nofun)
        fun q x named entry => ?_
      rw [lku]
      by_cases same : q = r
      · rw [same, whole.route]
        rfl
      · rw [whole.states q same]
        exact alone q x same (config ▸ named) entry
    refine rest.restored ?_
    cases l with
    | red => exact absurd rfl notRed
    | yellow => exact trial
    | green => exact trial

end Sys2Proof.Machine
end

section
/-! PROOFS. The release timer pool (7.4): the request of a timer (R115), the expiry of one worked
for its route (R110, R113), and the head of the queue served (R117). -/

namespace Sys2Proof.Machine
open Sys2Proof

/-! ## The request of a timer (R115) -/

theorem find?_finRange_first {n : Nat} {p : Fin n → Bool} {k : Fin n} (found : p k = true)
    (first : ∀ j, j < k → p j = false) : (List.finRange n).find? p = some k := by
  refine List.find?_eq_some_iff_getElem.2 ⟨found, k.val, by simp, by simp, fun j small => ?_⟩
  rw [List.getElem_finRange, first _ small]
  rfl

section
variable {s : State} {r : Fin 64} {k : Fin 16}

theorem State.requestTimer_first (free : s.rtp.timers[k] = none)
    (taken : ∀ j : Fin 16, j < k → s.rtp.timers[j] ≠ none) :
    s.requestTimer r = s.grantTimer k r := by
  have lowest : ((indices 16).find? fun j => (s.rtp.timers[j]).isNone) = some k :=
    find?_finRange_first (by rw [free]; rfl) fun j before =>
      Option.isNone_eq_false_iff.2 (Option.isSome_iff_ne_none.2 (taken j before))
  rw [State.requestTimer, lowest]

theorem State.requestTimer_full (taken : ∀ j : Fin 16, s.rtp.timers[j] ≠ none) :
    s.requestTimer r = (s.setPoolQueue (s.rtp.queue ++ [r])).updRoute r
      fun c => { c with pool := .queued } := by
  have no_free : ((indices 16).find? fun j => (s.rtp.timers[j]).isNone) = none :=
    List.find?_eq_none.2 fun j _ free => taken j (Option.isNone_iff_eq_none.1 free)
  rw [State.requestTimer, no_free]

theorem State.poolDuration_listed {c : RouteCfg} (listed : s.config.routes[r] = some c) :
    s.poolDuration r =
      10 * if (s.lku.routes[r]).state = .approachHeld then c.approachTime else c.overlapTime := by
  rw [State.poolDuration, listed]

end

/-! ## An expired timer worked for its route (R110, R113) -/

/-- The expired timer taken back and the reference of its route gone. -/
def State.timerBack (s : State) (k : Fin 16) (r : Fin 64) : State :=
  (s.updPoolTimer k none).updRoute r fun c => { c with pool := .none }

section
variable {s w : State} {k : Fin 16} {r : Fin 64}

theorem State.timerBack_rtp (s : State) (k : Fin 16) (r : Fin 64) : (s.timerBack k r).rtp =
    { s.rtp with timers := upd s.rtp.timers k fun _ => none } := rfl

theorem State.timerBack_route (s : State) (k : Fin 16) (r x : Fin 64) :
    (s.timerBack k r).lku.routes[x] =
      if r = x then { s.lku.routes[x] with pool := .none } else s.lku.routes[x] := by
  rw [State.timerBack, State.updRoute_route]
  rfl

theorem State.timerBack_owned (own : s.OffersOwned) (k : Fin 16) (r : Fin 64) :
    (s.timerBack k r).OffersOwned := fun x e mem => by
  rw [State.timerBack_route] at mem
  refine own x e ?_
  split at mem
  · exact mem
  · exact mem

theorem State.poolExpiry_due {x : PoolTimer} (stands : s.rtp.timers[k] = some x)
    (due : x.time.due = true) :
    s.poolExpiry k = ((s.timerBack k x.route).workExpiry x.route).grantHead k := by
  simp only [State.poolExpiry, stands, due]
  rfl

theorem State.overlapClear_iff (s : State) (o : Owner) : s.overlapClear o = true ↔
    ∀ j, j ∈ overlapOf s.config o →
      (s.acu.sections[j]).state = .clear ∧ (s.acu.sections[j]).occ = false := by
  simp [State.overlapClear, List.all_eq_true, SectionRec.isFree]

theorem State.workExpiry_approach (held : (s.lku.routes[r]).state = .approachHeld) :
    s.workExpiry r = s.fullRelease r := by
  rw [State.workExpiry, held]

theorem State.workExpiry_clear (held : (s.lku.routes[r]).state = .overlapHeld)
    (clear : s.overlapClear (.route r) = true) :
    s.workExpiry r = (s.freeElements (.route r) overlapRole).idleRoute r := by
  rw [State.workExpiry, held]
  exact if_pos clear

theorem State.workExpiry_stays (notApproach : (s.lku.routes[r]).state ≠ .approachHeld)
    (occupied : (s.lku.routes[r]).state = .overlapHeld → ¬s.overlapClear (.route r) = true) :
    s.workExpiry r = s := by
  unfold State.workExpiry
  split
  · next held => exact absurd held notApproach
  · next held => exact if_neg (occupied held)
  · rfl

/-- The overlap of a route released: no element is held by it as overlap, and nothing is counted. -/
theorem State.overlapReleased (s : State) (r : Fin 64) :
    HoldersDropped (.route r) overlapRole s
        ((s.freeElements (.route r) overlapRole).idleRoute r) ∧
      FlankRemoved [] s ((s.freeElements (.route r) overlapRole).idleRoute r) := by
  obtain ⟨claims, holds⟩ := s.freeElements_counts (.route r) overlapRole
  refine ⟨⟨fun j => ?_, fun p => ?_, fun g => ?_⟩, fun p q => ?_, fun g => ?_⟩
  · simp [State.freeElements]
  · simp [State.freeElements]
  · simp [State.freeElements]
  · rw [(State.idleRoute_keeps _ r).2.2.2.2.2.2.2.2.1, claims]
    simp [NamesElement]
  · rw [(State.idleRoute_keeps _ r).2.2.2.2.2.2.2.2.2.1, holds]
    simp [NamesElement]

/-- What the work for the route of an expired timer leaves of the rest. -/
structure WorkedFor (r : Fin 64) (s w : State) : Prop where
  config : w.config = s.config
  pool : w.rtp = s.rtp
  counts : w.acu = s.acu
  points : w.pcu = s.pcu
  commands : w.cmu = s.cmu
  states : ∀ q : Fin 64, q ≠ r → (w.lku.routes[q]).state = (s.lku.routes[q]).state
  others : s.OffersOwned → ∀ q : Fin 64, q ≠ r → w.lku.routes[q] = s.lku.routes[q]

theorem State.workExpiry_worked (poolless : (s.lku.routes[r]).pool = .none) :
    WorkedFor r s (s.workExpiry r) := by
  by_cases approach : (s.lku.routes[r]).state = .approachHeld
  · rw [State.workExpiry_approach approach]
    exact ⟨by simp, (s.fullRelease_pool poolless).1, by simp, by simp, by simp,
      (s.fullRelease_whole r).states,
      fun own q other => State.fullRelease_others own poolless other⟩
  · by_cases clear : (s.lku.routes[r]).state = .overlapHeld ∧ s.overlapClear (.route r) = true
    · rw [State.workExpiry_clear clear.1 clear.2]
      have others (q : Fin 64) (other : q ≠ r) :
          ((s.freeElements (.route r) overlapRole).idleRoute r).lku.routes[q] =
            s.lku.routes[q] := by
        rw [State.idleRoute_route, if_neg (Ne.symm other)]
        simp
      exact ⟨by simp, by simp, by simp, by simp, by simp,
        fun q other => congrArg RouteRec.state (others q other), fun _ => others⟩
    · rw [State.workExpiry_stays approach (not_and.1 clear)]
      exact ⟨rfl, rfl, rfl, rfl, rfl, fun _ _ => rfl, fun _ _ _ => rfl⟩

/-- The head of the queue, where there is one, has the timer as its pool reference. -/
theorem State.grantHead_route (s : State) (k : Fin 16) (x : Fin 64) :
    (s.grantHead k).lku.routes[x] = { s.lku.routes[x] with
      pool := if s.rtp.queue.head? = some x then .timer k else (s.lku.routes[x]).pool } := by
  cases queue : s.rtp.queue with
  | nil => rw [State.grantHead_nil queue]; rfl
  | cons q rest =>
    rw [State.grantHead_cons queue, State.grantTimer_route, List.head?_cons]
    by_cases same : q = x
    · rw [if_pos same, if_pos (congrArg some same)]
      rfl
    · rw [if_neg same, if_neg (mt Option.some.inj same)]
      rfl

theorem State.grantHead_other (s : State) (k j : Fin 16) (other : j ≠ k) :
    (s.grantHead k).rtp.timers[j] = s.rtp.timers[j] := by
  cases queue : s.rtp.queue with
  | nil => rw [State.grantHead_nil queue]
  | cons q rest =>
    rw [State.grantHead_cons queue, State.grantTimer_rtp]
    exact upd_other _ k j _ other.symm

end

/-! ## The obligation -/

section
variable {s : State} {r : Fin 64}

theorem FlankRemoved.nil_of_same {s t : State} (points : t.lku.points = s.lku.points)
    (signals : t.lku.signals = s.lku.signals) : FlankRemoved [] s t :=
  ⟨fun p q => by rw [points]; simp [NamesElement], fun g => by rw [signals]; simp [NamesElement]⟩

end

/-- What stands at the end of the event of the state in which the head of the queue is served. -/
structure PoolServed (k : Fin 16) (w t : State) : Prop where
  routes : ∀ q : Fin 64, t.lku.routes[q] = { w.lku.routes[q] with
    pool := if w.rtp.queue.head? = some q then .timer k else (w.lku.routes[q]).pool }
  sections : t.lku.sections = w.lku.sections
  points : t.lku.points = w.lku.points
  signals : t.lku.signals = w.lku.signals
  offers : t.hou.offers = w.hou.offers
  classOne : t.slu.classOne = w.slu.classOne
  timers : t.rtp = (w.grantHead k).rtp

theorem poolServed_of_rest {s w t : State} {k : Fin 16} (rest : RestOfEvent s (w.grantHead k) t) :
    PoolServed k w t :=
  ⟨fun q => by rw [rest.locks, State.grantHead_route], by rw [rest.locks]; simp,
    by rw [rest.locks]; simp, by rw [rest.locks]; simp, rest.offers.1.trans (by simp),
    rest.lines.1.trans (by simp), rest.pool⟩

/-- A request changes no route but the one that asks. -/
theorem State.requestTimer_other (s : State) {r q : Fin 64} (other : q ≠ r) :
    (s.requestTimer r).lku.routes[q] = s.lku.routes[q] := by
  unfold State.requestTimer
  split
  · rw [State.grantTimer_route, if_neg (Ne.symm other)]
  · rw [State.updRoute_route, if_neg (Ne.symm other)]
    rfl

/-- Settles O27: the request by the lowest free timer; the expiry by the state of the timer's route,
and then the head of the queue. -/
theorem poolGrantsLowestFreeTimerAndServesTheQueue :
    Obligations.PoolGrantsLowestFreeTimerAndServesTheQueue := by
  refine ⟨?_, ?_⟩
  · intro s r c listed t
    refine ⟨fun k free taken => ?_, fun taken => ?_, fun q other => ?_⟩
    · have grants : t = s.grantTimer k r := State.requestTimer_first free taken
      rw [grants, State.grantTimer_rtp, State.grantTimer_route, if_pos rfl,
        State.poolDuration_listed listed]
      exact ⟨upd_same _ k _, rfl, rfl, fun j other => upd_other _ k j _ other.symm⟩
    · have waits : t = _ := State.requestTimer_full taken
      rw [waits, State.updRoute_route, if_pos rfl]
      exact ⟨rfl, rfl, rfl⟩
    · exact s.requestTimer_other other
  · intro s k x stands due unqueued r state clear whole overlap holders
    set v := s.timerBack k r with hv
    set w := v.workExpiry r with hw
    have expires : s.poolExpiry k = w.grantHead k := State.poolExpiry_due stands due
    have routeV : v.lku.routes[r] = { s.lku.routes[r] with pool := .none } := by
      rw [hv, State.timerBack_route, if_pos rfl]
    have stateV : (v.lku.routes[r]).state = state := by rw [routeV]
    have clear_iff : v.overlapClear (.route r) = true ↔ clear := v.overlapClear_iff (.route r)
    have worked : WorkedFor r v w := State.workExpiry_worked (by rw [routeV])
    have queueW : w.rtp.queue = s.rtp.queue := by rw [worked.pool]; rfl
    have timersW (j : Fin 16) : w.rtp.timers[j] = if k = j then none else s.rtp.timers[j] := by
      rw [worked.pool, hv, State.timerBack_rtp]
      exact upd_get _ k j _
    obtain ⟨t, runs, rest⟩ := exec_rest (i := .poolTimerExpiry k) (s := s)
      (congrArg some expires)
    obtain ⟨routes, sections, points, signals, offers, classOne, timers⟩ := poolServed_of_rest rest
    have route (q : Fin 64) : t.lku.routes[q] = { w.lku.routes[q] with
        pool := if s.rtp.queue.head? = some q then .timer k else (w.lku.routes[q]).pool } := by
      rw [routes, queueW]
    have own : t.lku.routes[r] = w.lku.routes[r] := by
      have notHead : s.rtp.queue.head? ≠ some r := fun head =>
        unqueued (List.mem_of_mem_head? head)
      rw [route, if_neg notHead]
    refine ⟨t, runs, by rw [expires]; exact rest, fun approach => ?_, fun notApproach => ?_,
      fun held isClear => ?_, fun notApproach occupied => ?_, fun empty => ?_,
      fun q later queue => ?_, fun owned q other => ?_, fun j other => ?_,
      rest.counts.trans (by simp [worked.counts]; rfl),
      rest.points.trans (by simp [worked.points]; rfl), fun c notLamp => ?_⟩
    · have released : ReleasedWhole r v w := by
        rw [hw, State.workExpiry_approach (stateV.trans approach)]
        exact v.fullRelease_whole r
      obtain ⟨claims, holds⟩ := released.flank
      rw [routeV] at claims holds
      refine ⟨own.trans released.route, ⟨fun j => ?_, fun p => ?_, fun g => ?_⟩, fun e => ?_,
        ⟨fun p q => ?_, fun g => ?_⟩, ?_⟩
      · rw [sections, released.holders.sections, dropHolder_anyRole]
        rfl
      · rw [points, (released.holders.points p).1, (released.holders.points p).2,
          dropHolder_anyRole]
        exact ⟨rfl, rfl⟩
      · rw [signals, (released.holders.signals g).1, (released.holders.signals g).2,
          dropHolder_anyRole]
        exact ⟨rfl, rfl⟩
      · rw [offers, released.offers, routeV]
        rfl
      · rw [points, claims]
        rfl
      · rw [signals, holds]
        rfl
      · have placed := released.placed
        rw [routeV, State.releasesOf_congr (t := v) (s := s) rfl rfl] at placed
        exact (placed.congr (s' := s) rfl rfl).queued classOne
    · by_cases isClear : state = .overlapHeld ∧ clear
      · have released : w = (v.freeElements (.route r) overlapRole).idleRoute r :=
          State.workExpiry_clear (stateV.trans isClear.1) (clear_iff.2 isClear.2)
        obtain ⟨-, claims, holds⟩ := v.overlapReleased r
        refine ⟨offers.trans (by rw [released]; simp; rfl), ⟨fun p q => ?_, fun g => ?_⟩,
          classOne.trans (by rw [released]; simp; rfl)⟩
        · rw [points, released, claims]
          rfl
        · rw [signals, released, holds]
          rfl
      · have same : w = v := State.workExpiry_stays (stateV ▸ notApproach)
          fun held free => isClear ⟨stateV.symm.trans held, clear_iff.1 free⟩
        exact ⟨offers.trans (by rw [same]; rfl),
          .nil_of_same (points.trans (by rw [same]; rfl)) (signals.trans (by rw [same]; rfl)),
          classOne.trans (by rw [same]; rfl)⟩
    · have released : w = (v.freeElements (.route r) overlapRole).idleRoute r :=
        State.workExpiry_clear (stateV.trans held) (clear_iff.2 isClear)
      obtain ⟨dropped, -⟩ := v.overlapReleased r
      rw [← released] at dropped
      refine ⟨?_, fun j => ?_, fun p => ?_, fun g => ?_⟩
      · rw [own, released, State.idleRoute_route, if_pos rfl]
        simp
        rfl
      · rw [sections, dropped.sections, dropHolder_overlap]
        rfl
      · rw [points, (dropped.points p).1, (dropped.points p).2, dropHolder_overlap]
        exact ⟨rfl, rfl⟩
      · rw [signals, (dropped.signals g).1, (dropped.signals g).2, dropHolder_overlap]
        exact ⟨rfl, rfl⟩
    · have same : w = v := State.workExpiry_stays (stateV ▸ notApproach)
        fun held free => occupied (stateV.symm.trans held) (clear_iff.1 free)
      exact ⟨by rw [own, same, routeV], sections.trans (by rw [same]; rfl),
        points.trans (by rw [same]; rfl), signals.trans (by rw [same]; rfl)⟩
    · rw [timers, State.grantHead_nil (queueW.trans empty), timersW, if_pos rfl, queueW]
      exact ⟨rfl, empty⟩
    · have grants := State.grantHead_cons (k := k) (queueW.trans queue)
      have other : q ≠ r := fun same => unqueued (by rw [queue, same]; exact List.mem_cons_self)
      have duration : (w.setPoolQueue later).poolDuration q = s.poolDuration q := by
        refine State.poolDuration_congr worked.config ((worked.states q other).trans ?_)
        rw [hv, State.timerBack_route, if_neg (Ne.symm other)]
      rw [timers, grants, State.grantTimer_rtp, duration, route, queue]
      exact ⟨rfl, upd_same _ k _, if_pos rfl⟩
    · rw [route, worked.others (State.timerBack_owned owned k r) q other, hv,
        State.timerBack_route, if_neg (Ne.symm other)]
    · rw [timers, State.grantHead_other _ k j other, timersW, if_neg (Ne.symm other)]
    · refine (rest.faults c).trans ?_
      have faults : (w.grantHead k).cmu.faults = s.cmu.faults := by
        simp [worked.commands]
        rfl
      rw [faults, and_iff_left]
      rintro ⟨g, l, -, rfl⟩
      exact notLamp rfl

end Sys2Proof.Machine
end

section
/-! PROOFS. The answers of a neighbour to an offer (R149): the record an answer matches, and what a
GRANT and a REFUSE make of it. -/

namespace Sys2Proof.Machine
open Sys2Proof

/-! ## The record an answer matches -/

theorem findSome?_finRange_first {α : Type} {n : Nat} {f : Fin n → Option α} {k : Fin n} {y : α}
    (found : f k = some y) (first : ∀ j, j < k → f j = none) :
    (List.finRange n).findSome? f = some y := by
  have split : List.finRange n =
      (List.finRange n).take k ++ k :: (List.finRange n).drop (k + 1) := by
    have here : (List.finRange n)[k.val]'(by simp) = k := by simp
    calc List.finRange n
        = (List.finRange n).take k ++ (List.finRange n).drop k := (List.take_append_drop _ _).symm
      _ = _ := by rw [List.drop_eq_getElem_cons (by simp), here]
  rw [split]
  refine findSome?_first (fun j mem => first j ?_) found
  obtain ⟨i, small, at_i⟩ := List.mem_take_iff_getElem.1 mem
  rw [List.getElem_finRange] at at_i
  rw [← at_i, Fin.lt_def]
  exact lt_of_lt_of_le small (min_le_left _ _)

/-- An answer from a neighbour names a record: it is an offer to that neighbour of the kind and the
id, and of the target where the answer carries one (R149). -/
def State.Answers (s : State) (n : Fin 4) (kind : OfferKind) (id : Byte) (target : Option Byte)
    (k : Fin 8) (o : Offer) : Prop :=
  s.hou.offers[k] = some o ∧ o.neighbour = n ∧ o.kind = kind ∧ o.id = id ∧
    ∀ x, target = some x → o.target = x

section
variable {s : State} {n : Fin 4} {kind : OfferKind} {id : Byte} {target : Option Byte} {k : Fin 8}
  {o : Offer} {release : Payload}

/-- The target of an answer, as the record search tests it. -/
theorem all_target_iff :
    target.all (· == o.target) = true ↔ ∀ x, target = some x → o.target = x := by
  cases target with
  | none => simp
  | some x => simp [eq_comm (a := x)]

theorem State.offerOf_none (unnamed : ∀ k o, ¬s.Answers n kind id target k o) :
    s.offerOf n kind id target = none := by
  refine List.findSome?_eq_none_iff.2 fun k _ =>
    Option.eq_none_iff_forall_ne_some.2 fun y found => ?_
  obtain ⟨o, stands, chosen⟩ := Option.bind_eq_some_iff.1 found
  split at chosen
  · next names =>
    obtain ⟨neighbour, same, named, aim⟩ := names
    exact unnamed k o ⟨stands, neighbour, same, named, all_target_iff.1 aim⟩
  · nomatch chosen

theorem State.offerOf_first (names : s.Answers n kind id target k o)
    (first : ∀ j q, s.Answers n kind id target j q → k ≤ j) :
    s.offerOf n kind id target = some (k, o) := by
  obtain ⟨stands, neighbour, same, named, aim⟩ := names
  refine findSome?_finRange_first (k := k) ?_ fun j before => ?_
  · rw [stands, Option.bind_some, if_pos ⟨neighbour, same, named, all_target_iff.2 aim⟩]
  · refine Option.eq_none_iff_forall_ne_some.2 fun y found => ?_
    obtain ⟨q, record, chosen⟩ := Option.bind_eq_some_iff.1 found
    split at chosen
    · next names =>
      obtain ⟨neighbour, same, named, aim⟩ := names
      exact absurd before
        (not_lt.2 (first j q ⟨record, neighbour, same, named, all_target_iff.1 aim⟩))
    · nomatch chosen

/-! ## GRANT and REFUSE -/

theorem State.takeGrant_outside (outside : ¬s.sld.station = .run) :
    s.takeGrant n kind id target release = s := if_neg outside

theorem State.takeGrant_none (run : s.sld.station = .run)
    (none : s.offerOf n kind id target = none) :
    s.takeGrant n kind id target release = s.toNeighbour n release := by
  rw [State.takeGrant, if_pos run, none]

theorem State.takeGrant_some (run : s.sld.station = .run)
    (found : s.offerOf n kind id target = some (k, o)) :
    s.takeGrant n kind id target release =
      if o.state = .sent then (s.updOffer k fun _ => some o.grant).completionTest o.route
      else s := by
  rw [State.takeGrant, if_pos run, found]

theorem State.takeRefuse_outside (outside : ¬s.sld.station = .run) :
    s.takeRefuse n kind id target = s := if_neg outside

theorem State.takeRefuse_none (none : s.offerOf n kind id target = none) :
    s.takeRefuse n kind id target = s := by
  rw [State.takeRefuse, none]
  exact ite_self s

theorem State.takeRefuse_some (run : s.sld.station = .run)
    (found : s.offerOf n kind id target = some (k, o)) :
    s.takeRefuse n kind id target =
      if o.state = .sent then (s.removeOffer k).failSetting o.route else s := by
  rw [State.takeRefuse, if_pos run, found]

/-- A refused record is gone, and its route, where it was in SETTING, is IDLE (R87). -/
theorem State.refused_settled (s : State) (k : Fin 8) (r : Fin 64) :
    ((s.removeOffer k).failSetting r).hou.offers[k] = none ∧
    ((s.lku.routes[r]).state = .setting →
      (((s.removeOffer k).failSetting r).lku.routes[r]).state = .idle) := by
  have gone : (s.removeOffer k).hou.offers[k] = none := by
    rw [s.removeOffer_offers, if_pos rfl]
  refine ⟨?_, fun setting => ?_⟩
  · obtain same | left := (s.removeOffer k).failSetting_leave r k
    · exact same.trans gone
    · exact left
  · have fails : (s.removeOffer k).failSetting r = (s.removeOffer k).fullRelease r :=
      if_pos ((s.removeOffer_alike k r).state.trans setting)
    rw [fails, ((s.removeOffer k).fullRelease_whole r).route]
    rfl

end

/-! ## The obligation -/

/-- The records after the acceptance of a telegram hold the same offers. -/
theorem State.received_answers (s : State) (src : Source) (f : Frame) {n : Fin 4}
    {kind : OfferKind} {id : Byte} {target : Option Byte} {k : Fin 8} {o : Offer} :
    (s.received src f).Answers n kind id target k o ↔ s.Answers n kind id target k o := by
  simp [State.Answers]

/-- Settles O43: an answer by the record that `State.offerOf` finds for it. -/
theorem answersSettleTheOffer : Obligations.AnswersSettleTheOffer := by
  intro s f n kind id target u run names none' matches' granted refused
  obtain ⟨-, -, -, config, -, -, -, lku, -, -, queue, hou, -, sld⟩ :=
    s.received_keeps (.neighbour n) f
  have counter : u.slu.counter = s.slu.counter := by
    simp [u, State.received, State.acceptFrom]
  have runs : u.sld.station = .run ↔ run := by rw [sld]
  have names_iff (k : Fin 8) (o : Offer) : u.Answers n kind id target k o ↔ names k o :=
    s.received_answers (.neighbour n) f
  have noneFound (unnamed : none') : u.offerOf n kind id target = none :=
    State.offerOf_none fun k o named => unnamed k o ((names_iff k o).1 named)
  have found {k : Fin 8} {o : Offer} (first : matches' k o) :
      u.offerOf n kind id target = some (k, o) :=
    State.offerOf_first ((names_iff k o).2 first.1) fun j q named =>
      first.2 j q ((names_iff j q).1 named)
  have grant {i : Instr} {release : Payload}
      (takes : s.effect i = some (u.takeGrant n kind id target release)) : granted i release := by
    have answer {v : State} (settles : u.takeGrant n kind id target release = v) :
        ∃ t, exec i s = .next t ∧ RestOfEvent s v t := exec_rest (settles ▸ takes)
    refine ⟨fun outside => answer (State.takeGrant_outside (mt runs.1 outside)),
      fun inRun unnamed => ?_, fun k o inRun first => ⟨fun sent => ?_, fun other => ?_⟩⟩
    · obtain ⟨t, event, rest⟩ := answer (State.takeGrant_none (runs.2 inRun) (noneFound unnamed))
      obtain ⟨new, placed, content, numbers⟩ := u.toNeighbour_queued n release
      rw [queue] at placed content
      rw [config] at content
      rw [counter] at numbers
      exact ⟨t, event, rest, new, rest.lines.1.trans placed, content, numbers⟩
    · exact answer ((State.takeGrant_some (runs.2 inRun) (found first)).trans (if_pos sent))
    · exact answer ((State.takeGrant_some (runs.2 inRun) (found first)).trans (if_neg other))
  have refuse {i : Instr} (takes : s.effect i = some (u.takeRefuse n kind id target)) :
      refused i := by
    have answer {v : State} (settles : u.takeRefuse n kind id target = v) :
        ∃ t, exec i s = .next t ∧ RestOfEvent s v t := exec_rest (settles ▸ takes)
    refine ⟨fun ignored => answer ?_, fun k o inRun first => ⟨fun sent => ?_, fun other => ?_⟩⟩
    · obtain outside | unnamed := ignored
      · exact State.takeRefuse_outside (mt runs.1 outside)
      · exact State.takeRefuse_none (noneFound unnamed)
    · obtain ⟨t, event, rest⟩ :=
        answer ((State.takeRefuse_some (runs.2 inRun) (found first)).trans (if_pos sent))
      obtain ⟨gone, idle⟩ := u.refused_settled k o.route
      refine ⟨t, event, rest, by rw [rest.offers.1, gone], fun setting => ?_⟩
      rw [rest.locks]
      exact idle (by rw [lku]; exact setting)
    · exact answer ((State.takeRefuse_some (runs.2 inRun) (found first)).trans (if_neg other))
  refine ⟨?_, ?_⟩
  · rintro x rfl rfl
    exact ⟨fun accepts => grant (congrArg some (State.collected_accepted accepts)),
      fun why accepts => refuse (congrArg some (State.collected_accepted accepts))⟩
  · rintro rfl rfl
    exact ⟨fun accepts => grant (congrArg some (State.collected_accepted accepts)),
      fun why accepts => refuse (congrArg some (State.collected_accepted accepts))⟩

end Sys2Proof.Machine
end

section
/-! PROOFS. The expiry of a reply timer (R150): the policy of the neighbour, and the records SENT to
a neighbour that BLOCK removes. -/

namespace Sys2Proof.Machine
open Sys2Proof

section
variable {s : State} {n : Fin 4} {k : Fin 8} {o : Offer} {c : NeighbourCfg}

theorem State.replyExpiry_due (stands : s.hou.offers[k] = some o)
    (configured : s.config.neighbours[o.neighbour] = some c) (sent : o.state = .sent)
    (due : o.reply.due = true) : s.replyExpiry k = s.applyPolicy k o c.policy := by
  rw [State.replyExpiry, stands]
  simp only [configured]
  exact if_pos ⟨sent, due⟩

theorem State.dropSent_some (stands : s.hou.offers[k] = some o) : s.dropSent k =
    ((s.removeOffer k).toNeighbour o.neighbour o.release).failSetting o.route := by
  rw [State.dropSent, stands, ← s.handBack_some stands]

theorem replyTime_configured {cfg : ZoneConfig} (configured : cfg.neighbours[n] = some c) :
    replyTime cfg n = c.replyTime := by
  rw [replyTime, configured]
  rfl

theorem SentGone.of_subset {ks ks' gone : List (Fin 8)} {failed : List (Fin 64)} {t : State}
    (h : SentGone n ks gone failed s t) (sub : ∀ k ∈ ks', k ∈ ks) :
    SentGone n ks' gone failed s t :=
  { h with sent := fun k mem => h.sent k (sub k mem) }

/-- A neighbour with its BLOCKED flag set, and the condition of it (R150). -/
def State.flagBlocked (s : State) (n : Fin 4) : State :=
  (s.updNeighbour n fun r => { r with blocked := true }).setFault .neighbourBlocked (byteOf n.val)

/-- BLOCK removes every record SENT to the neighbour: the expired one, and then the others. -/
theorem State.block_gone (own : s.OffersOwned) (sent : s.Sent n k o) : ∃ gone failed,
    SentGone n (indices 8) gone failed s ((s.dropSent k).blockNeighbour n) := by
  obtain ⟨gone, failed, first⟩ := s.dropSent_gone n own sent
  set u := s.dropSent k
  have flagged : SentGone n [] [] [] u (u.flagBlocked n) :=
    ⟨.of_same rfl rfl rfl rfl rfl rfl rfl, List.nodup_nil, nofun, nofun, nofun, nofun⟩
  have owned : (u.flagBlocked n).OffersOwned := flagged.dropped.owned (first.dropped.owned own)
  obtain ⟨gone', failed', rest⟩ := (u.flagBlocked n).dropSentIn_gone n owned (indices 8)
  exact ⟨_, _, ((first.trans flagged).trans rest).of_subset fun j mem =>
    List.mem_append_right _ mem⟩

theorem State.block_keeps (s : State) (k : Fin 8) (n : Fin 4) :
    ((s.dropSent k).blockNeighbour n).acu = s.acu ∧ ((s.dropSent k).blockNeighbour n).pcu = s.pcu ∧
    ((s.dropSent k).blockNeighbour n).sld = s.sld ∧
    ((s.dropSent k).blockNeighbour n).cmu.queue = s.cmu.queue ∧
    ((s.dropSent k).blockNeighbour n).cmu.faults =
      setCondition ⟨.neighbourBlocked, byteOf n.val⟩ s.cmu.faults ∧
    ((s.dropSent k).blockNeighbour n).hou.neighbours =
      upd s.hou.neighbours n fun r => { r with blocked := true } := by
  simp [State.blockNeighbour]

end

/-- Settles O47: the expiry by the policy; BLOCK by the removal of the SENT records. -/
theorem replyExpiryFollowsThePolicy : Obligations.ReplyExpiryFollowsThePolicy := by
  intro s k o c stands configured sent due answers dropped
  have expires := State.replyExpiry_due stands configured sent due
  have answer {v : State} (applies : s.applyPolicy k o c.policy = v) : answers v :=
    exec_rest (congrArg some (expires.trans applies))
  have drops : s.dropSent k = dropped := State.dropSent_some stands
  refine ⟨fun wait => answer (by rw [wait]; rfl), fun resend few => answer ?_,
    fun resend many => answer ?_, fun drop => answer (by rw [drop]; exact drops),
    fun block own => ?_⟩
  · rw [resend, ← replyTime_configured configured]
    exact if_pos few
  · rw [resend, ← drops]
    exact if_neg (Nat.not_lt.2 many)
  · set v := (s.dropSent k).blockNeighbour o.neighbour with hv
    obtain ⟨t, event, rest⟩ := exec_rest (i := .replyTimerExpiry k) (s := s) (u := v)
      (congrArg some (expires.trans (by rw [block]; rfl)))
    obtain ⟨gone, failed, removed⟩ := State.block_gone own ⟨stands, rfl, sent⟩
    obtain ⟨acu, pcu, sld, queue, faults, neighbours⟩ := s.block_keeps k o.neighbour
    rw [← hv] at removed acu pcu sld queue faults neighbours
    refine ⟨t, event, removed.sentDropped rest.locks (fun j => by rw [rest.offers.1]) rest.offers.2
      rest.lines.1 rest.pool, ?_, fun m other => ?_, fun j q before unsent unowned => ?_,
      fun x notLamp => ?_, rest.counts.trans acu, rest.points.trans pcu, rest.loader.trans sld,
      rest.commands.1.trans queue, rest.outputs⟩
    · rw [rest.neighbours, neighbours, upd_same]
    · rw [rest.neighbours, neighbours, upd_other _ _ _ _ (Ne.symm other)]
    · rw [rest.offers.1]
      exact removed.left before unsent unowned
    · rw [rest.faults, faults, mem_setCondition, and_iff_left, or_comm]
      rintro ⟨g, l, -, rfl⟩
      exact notLamp rfl

end Sys2Proof.Machine
end

section
/-! PROOFS. The takeover of a setting event (R81, R82): what the predecessors lose, one after the
other, and their places in the pool (R116). -/

namespace Sys2Proof.Machine
open Sys2Proof

/-! ## One owner dispossessed (R82) -/

/-- A route record without its overlap: at its IDLE values where the route stood in OVERLAP_HELD. -/
def RouteRec.dispossessed (overlap : OverlapState) (c : RouteRec) : RouteRec :=
  if c.state = .overlapHeld then RouteRec.idle overlap
  else { c with hold := { c.hold with overlap := .released } }

theorem RouteRec.dispossessed_poolless {overlap : OverlapState} {a b : RouteRec}
    (same : b.poolless = a.poolless) :
    (b.dispossessed overlap).poolless = (a.dispossessed overlap).poolless := by
  cases a
  cases b
  cases same
  rw [RouteRec.dispossessed, RouteRec.dispossessed]
  split
  · rfl
  · rfl

/-- A portion record without its overlap: at its IDLE values where it stood in OVERLAP_HELD. -/
def PortionRec.dispossessed (overlap : OverlapState) (c : PortionRec) : PortionRec :=
  if c.state = .overlapHeld then PortionRec.idle overlap
  else { c with hold := { c.hold with overlap := .released } }

/-- The overlap elements of an owner free, and its overlap RELEASED. -/
def State.overlapLost (s : State) (o : Owner) : State :=
  (s.freeElements o overlapRole).updHold o fun h => { h with overlap := .released }

section
variable (s : State)

theorem State.overlapLost_route (o : Owner) (q : Fin 64) :
    (s.overlapLost o).lku.routes[q] = if o = .route q then
      { s.lku.routes[q] with hold := { (s.lku.routes[q]).hold with overlap := .released } }
    else s.lku.routes[q] := by
  match o with
  | .route r =>
    have written := (s.freeElements (.route r) overlapRole).updRoute_route r q fun c =>
      { c with hold := { c.hold with overlap := .released } }
    rw [(s.freeElements_keeps (.route r) overlapRole).2.2.2.2.2.2.2.1] at written
    exact written.trans (if_congr (by simp) rfl rfl)
  | .portion p => simp [State.overlapLost, State.updHold]

theorem State.overlapLost_portion (o : Owner) (p : Fin 16) :
    (s.overlapLost o).hou.portions[p] = if o = .portion p then
      { s.hou.portions[p] with hold := { (s.hou.portions[p]).hold with overlap := .released } }
    else s.hou.portions[p] := by
  match o with
  | .route r => simp [State.overlapLost, State.updHold]
  | .portion x =>
    have written := (s.freeElements (.portion x) overlapRole).updPortion_portion x p fun c =>
      { c with hold := { c.hold with overlap := .released } }
    exact written.trans (if_congr (by simp) rfl rfl)

theorem State.dispossess_heldRoute {r : Fin 64} (held : (s.lku.routes[r]).state = .overlapHeld) :
    s.dispossess (.route r) = ((s.overlapLost (.route r)).giveUpTimer r).idleRoute r := by
  refine if_pos (c := ((s.overlapLost (.route r)).lku.routes[r]).state = .overlapHeld) ?_
  rw [State.overlapLost_route, if_pos rfl]
  exact held

theorem State.dispossess_otherRoute {r : Fin 64}
    (other : (s.lku.routes[r]).state ≠ .overlapHeld) :
    s.dispossess (.route r) = s.overlapLost (.route r) := by
  refine if_neg (c := ((s.overlapLost (.route r)).lku.routes[r]).state = .overlapHeld) ?_
  rw [State.overlapLost_route, if_pos rfl]
  exact other

theorem State.dispossess_heldPortion {p : Fin 16}
    (held : (s.hou.portions[p]).state = .overlapHeld) :
    s.dispossess (.portion p) = (s.overlapLost (.portion p)).idlePortion p := by
  refine if_pos (c := ((s.overlapLost (.portion p)).hou.portions[p]).state = .overlapHeld) ?_
  rw [State.overlapLost_portion, if_pos rfl]
  exact held

theorem State.dispossess_otherPortion {p : Fin 16}
    (other : (s.hou.portions[p]).state ≠ .overlapHeld) :
    s.dispossess (.portion p) = s.overlapLost (.portion p) := by
  refine if_neg (c := ((s.overlapLost (.portion p)).hou.portions[p]).state = .overlapHeld) ?_
  rw [State.overlapLost_portion, if_pos rfl]
  exact other

theorem State.dispossess_holders (o : Owner) :
    (∀ k : Fin 32, ((s.dispossess o).lku.sections[k]).holder =
      dropHolder o overlapRole (s.lku.sections[k]).holder) ∧
    ∀ p : Fin 16, ((s.dispossess o).lku.points[p]).holder =
      dropHolder o overlapRole (s.lku.points[p]).holder := by
  obtain ⟨sections, points, -⟩ := s.freeElements_holders o overlapRole
  have locks : (s.dispossess o).lku.sections = (s.freeElements o overlapRole).lku.sections ∧
      (s.dispossess o).lku.points = (s.freeElements o overlapRole).lku.points := by
    cases o <;> simp only [State.dispossess] <;> split <;> simp
  rw [locks.1, locks.2]
  exact ⟨sections, points⟩

/-- But for its pool reference, a route record after an owner has lost its overlap. -/
theorem State.dispossess_route (o : Owner) (q : Fin 64) :
    ((s.dispossess o).lku.routes[q]).poolless = if o = .route q then
      ((s.lku.routes[q]).dispossessed (idleOverlap s.config o)).poolless
    else (s.lku.routes[q]).poolless := by
  match o with
  | .route r =>
    by_cases held : (s.lku.routes[r]).state = .overlapHeld
    · rw [s.dispossess_heldRoute held, State.idleRoute_route]
      by_cases same : r = q
      · subst same
        rw [if_pos rfl, if_pos rfl, RouteRec.dispossessed, if_pos held]
        simp [State.overlapLost]
      · rw [if_neg same, if_neg (by simpa using same), State.giveUpTimer_poolless,
          State.overlapLost_route, if_neg (by simpa using same)]
    · rw [s.dispossess_otherRoute held, State.overlapLost_route]
      by_cases same : r = q
      · subst same
        rw [if_pos rfl, if_pos rfl, RouteRec.dispossessed, if_neg held]
      · rw [if_neg (by simpa using same), if_neg (by simpa using same)]
  | .portion p =>
    have routes : (s.dispossess (.portion p)).lku.routes = s.lku.routes := by
      simp only [State.dispossess]
      split <;> simp [State.updHold]
    rw [routes, if_neg nofun]

theorem State.dispossess_portion (o : Owner) (p : Fin 16) :
    (s.dispossess o).hou.portions[p] = if o = .portion p then
      (s.hou.portions[p]).dispossessed (idleOverlap s.config o)
    else s.hou.portions[p] := by
  match o with
  | .route r =>
    have portions : (s.dispossess (.route r)).hou.portions = s.hou.portions := by
      simp only [State.dispossess]
      split <;> simp [State.updHold]
    rw [portions, if_neg nofun]
  | .portion x =>
    by_cases held : (s.hou.portions[x]).state = .overlapHeld
    · rw [s.dispossess_heldPortion held, State.idlePortion, State.updPortion_portion]
      by_cases same : x = p
      · subst same
        rw [if_pos rfl, if_pos rfl, PortionRec.dispossessed, if_pos held]
        simp [State.overlapLost]
      · rw [if_neg same, if_neg (by simpa using same), State.overlapLost_portion,
          if_neg (by simpa using same)]
    · rw [s.dispossess_otherPortion held, State.overlapLost_portion]
      by_cases same : x = p
      · subst same
        rw [if_pos rfl, if_pos rfl, PortionRec.dispossessed, if_neg held]
      · rw [if_neg (by simpa using same), if_neg (by simpa using same)]

/-- An owner that is no route in OVERLAP_HELD has no timer to give up. -/
theorem State.dispossess_rtp {o : Owner}
    (standing : ∀ q, o = .route q → (s.lku.routes[q]).state ≠ .overlapHeld) :
    (s.dispossess o).rtp = s.rtp := by
  match o with
  | .route q =>
    rw [s.dispossess_otherRoute (standing q rfl)]
    simp [State.overlapLost]
  | .portion p =>
    simp only [State.dispossess]
    split <;> simp

end

/-! ## The predecessors dispossessed, in whatever order -/

/-- Each owner of a list has lost its overlap, and no other has. -/
structure Dispossessed (os : List Owner) (s t : State) : Prop where
  config : t.config = s.config
  sections : ∀ k : Fin 32, (t.lku.sections[k]).holder =
    if ∃ o ∈ os, (s.lku.sections[k]).holder = some ⟨o, .overlap⟩ then none
    else (s.lku.sections[k]).holder
  points : ∀ p : Fin 16, (t.lku.points[p]).holder =
    if ∃ o ∈ os, (s.lku.points[p]).holder = some ⟨o, .overlap⟩ then none
    else (s.lku.points[p]).holder
  routes : ∀ q : Fin 64, (t.lku.routes[q]).poolless = if .route q ∈ os then
    ((s.lku.routes[q]).dispossessed (idleOverlap s.config (.route q))).poolless
    else (s.lku.routes[q]).poolless
  portions : ∀ p : Fin 16, t.hou.portions[p] = if .portion p ∈ os then
    (s.hou.portions[p]).dispossessed (idleOverlap s.config (.portion p))
    else s.hou.portions[p]

/-- A holder dropped for one owner and then for others of a list. -/
theorem dropHolder_exists (o : Owner) (os : List Owner) (h : Option Holder) :
    (if ∃ x ∈ os, dropHolder o overlapRole h = some ⟨x, .overlap⟩ then none
      else dropHolder o overlapRole h) =
    if ∃ x ∈ o :: os, h = some ⟨x, .overlap⟩ then none else h := by
  rw [dropHolder_overlap]
  by_cases first : h = some ⟨o, .overlap⟩
  · have some_drops : ∃ x ∈ o :: os, h = some ⟨x, .overlap⟩ := ⟨o, List.mem_cons_self, first⟩
    rw [if_pos first, if_pos some_drops]
    exact ite_self none
  · rw [if_neg first]
    refine if_congr ⟨fun ⟨x, mem, held⟩ => ⟨x, List.mem_cons_of_mem _ mem, held⟩, ?_⟩ rfl rfl
    rintro ⟨x, mem, held⟩
    obtain rfl | mem := List.mem_cons.1 mem
    · exact absurd held first
    · exact ⟨x, mem, held⟩

section
variable {s : State} {os : List Owner}

theorem State.dispossessAll_nil (s : State) : s.dispossessAll [] = s := s.forEach_nil _

theorem State.dispossessAll_cons (s : State) (o : Owner) (os : List Owner) :
    s.dispossessAll (o :: os) = (s.dispossess o).dispossessAll os := s.forEach_cons o os _

theorem State.dispossessAll_append (s : State) (os os' : List Owner) :
    s.dispossessAll (os ++ os') = (s.dispossessAll os).dispossessAll os' := by
  induction os generalizing s with
  | nil => rw [List.nil_append, State.dispossessAll_nil]
  | cons o os ih => rw [List.cons_append, State.dispossessAll_cons, State.dispossessAll_cons, ih]

theorem State.dispossessAll_dispossessed (once : os.Nodup) :
    Dispossessed os s (s.dispossessAll os) := by
  induction os generalizing s with
  | nil =>
    rw [State.dispossessAll_nil]
    exact ⟨rfl, by simp, by simp, by simp, by simp⟩
  | cons o os ih =>
    obtain ⟨fresh, once⟩ := List.nodup_cons.1 once
    obtain ⟨config, sections, points, routes, portions⟩ := ih (s := s.dispossess o) once
    obtain ⟨dropSections, dropPoints⟩ := s.dispossess_holders o
    have sameConfig : (s.dispossess o).config = s.config := by simp
    rw [State.dispossessAll_cons]
    refine ⟨config.trans sameConfig, fun k => ?_, fun p => ?_, fun q => ?_, fun p => ?_⟩
    · rw [sections, dropSections]
      exact dropHolder_exists o os _
    · rw [points, dropPoints]
      exact dropHolder_exists o os _
    · have first := s.dispossess_route o q
      rw [routes, sameConfig]
      by_cases same : o = .route q
      · subst same
        rw [if_neg fresh, first, if_pos rfl, if_pos List.mem_cons_self]
      · rw [if_neg same] at first
        rw [RouteRec.dispossessed_poolless first, first]
        simp [Ne.symm same]
    · rw [portions, sameConfig, s.dispossess_portion o p]
      by_cases same : o = .portion p
      · subst same
        rw [if_neg fresh, if_pos rfl, if_pos List.mem_cons_self]
      · simp [same, Ne.symm same]

/-- Where none of the owners is a route in OVERLAP_HELD, the pool stays as it was. -/
theorem State.dispossessAll_rtp
    (standing : ∀ q, .route q ∈ os → (s.lku.routes[q]).state ≠ .overlapHeld) (once : os.Nodup) :
    (s.dispossessAll os).rtp = s.rtp := by
  induction os generalizing s with
  | nil => rw [State.dispossessAll_nil]
  | cons o os ih =>
    obtain ⟨fresh, once⟩ := List.nodup_cons.1 once
    have rtp : (s.dispossess o).rtp = s.rtp :=
      s.dispossess_rtp fun q same => standing q (by rw [← same]; exact List.mem_cons_self)
    rw [State.dispossessAll_cons, ih (fun q mem => ?_) once, rtp]
    have first := s.dispossess_route o q
    rw [if_neg fun same : o = .route q => fresh (same ▸ mem)] at first
    rw [(RouteAlike.of_poolless first).1.state]
    exact standing q (List.mem_cons_of_mem _ mem)

/-- Owners that are hosted portions leave routes and pool as they were. -/
theorem State.dispossessAll_portions (hosted : ∀ q, .route q ∉ os) :
    (s.dispossessAll os).lku.routes = s.lku.routes ∧ (s.dispossessAll os).rtp = s.rtp := by
  induction os generalizing s with
  | nil => rw [State.dispossessAll_nil]; exact ⟨rfl, rfl⟩
  | cons o os ih =>
    obtain ⟨routes, rtp⟩ := ih (s := s.dispossess o) fun q mem =>
      hosted q (List.mem_cons_of_mem _ mem)
    rw [State.dispossessAll_cons, routes, rtp]
    match o, hosted with
    | .route q, hosted => exact absurd List.mem_cons_self (hosted q)
    | .portion p, _ =>
      simp only [State.dispossess]
      split <;> simp [State.updHold]

theorem PoolGivenUp.congr {s' t t' : State} {r : Fin 64} (h : PoolGivenUp r s t)
    (pool : (s'.lku.routes[r]).pool = (s.lku.routes[r]).pool) (before : s'.rtp = s.rtp)
    (durations : ∀ x, s'.poolDuration x = s.poolDuration x) (after : t'.rtp = t.rtp)
    (routes : t'.lku.routes = t.lku.routes) : PoolGivenUp r s' t' := by
  rw [PoolGivenUp, pool, before, after, routes]
  simp only [durations]
  exact h

/-- The only route among the owners, in OVERLAP_HELD, gives up its pool reference (R116). -/
theorem State.dispossessAll_pool {q : Fin 64} (held : (s.lku.routes[q]).state = .overlapHeld)
    (mem : .route q ∈ os) (once : os.Nodup) (only : ∀ x, .route x ∈ os → x = q) :
    PoolGivenUp q s (s.dispossessAll os) := by
  obtain ⟨before, after, rfl⟩ := List.append_of_mem mem
  obtain ⟨-, later, apart⟩ := List.nodup_append.1 once
  have hostedBefore (x : Fin 64) : .route x ∉ before := fun early => by
    obtain rfl := only x (List.mem_append_left _ early)
    exact apart _ early _ List.mem_cons_self rfl
  have hostedAfter (x : Fin 64) : .route x ∉ after := fun late => by
    obtain rfl := only x (List.mem_append_right _ (List.mem_cons_of_mem _ late))
    exact (List.nodup_cons.1 later).1 late
  obtain ⟨routes, rtp⟩ := State.dispossessAll_portions (s := s) hostedBefore
  set v := s.dispossessAll before with hv
  have config : v.config = s.config := by simp [hv]
  obtain ⟨routes', rtp'⟩ := State.dispossessAll_portions (s := v.dispossess (.route q)) hostedAfter
  have split : s.dispossessAll (before ++ .route q :: after) =
      (v.dispossess (.route q)).dispossessAll after := by
    rw [State.dispossessAll_append, State.dispossessAll_cons]
  have lost : v.dispossess (.route q) = ((v.overlapLost (.route q)).giveUpTimer q).idleRoute q :=
    v.dispossess_heldRoute (by rw [routes]; exact held)
  have given : PoolGivenUp q (v.overlapLost (.route q)) (v.dispossess (.route q)) := by
    refine State.giveUpTimer_given (by rw [lost]; simp) fun x other => ?_
    rw [lost, State.idleRoute_route, if_neg (Ne.symm other)]
  rw [split]
  refine given.congr ?_ ?_ (fun x => ?_) rtp' routes'
  · rw [State.overlapLost_route, if_pos rfl, routes]
  · rw [← rtp]
    simp [State.overlapLost]
  · refine (State.poolDuration_congr ?_ ?_).symm
    · rw [← config]
      simp [State.overlapLost]
    · rw [State.overlapLost_route, ← routes]
      split <;> rfl

end

/-! ## The predecessors of a plan (R77, R82) -/

theorem isPredecessor_iff (cfg : ZoneConfig) (entry : Fin 16) (h : Holder) :
    isPredecessor cfg entry h = true ↔ h.role = .overlap ∧
      ∃ x, planOf cfg h.owner = some x ∧ x.exit = .localSignal entry := by
  simp [isPredecessor]

theorem State.mem_predecessors (s : State) (entry : Fin 16) (plan : Plan) (o : Owner) :
    o ∈ s.predecessors entry plan ↔
      ((∃ k : Fin 32, (k ∈ plan.path ∨ k ∈ plan.overlap) ∧
          (s.lku.sections[k]).holder = some ⟨o, .overlap⟩) ∨
        ∃ p : Fin 16, (∃ q, (p, q) ∈ plan.points ∨ (p, q) ∈ plan.overlapPoints) ∧
          (s.lku.points[p]).holder = some ⟨o, .overlap⟩) ∧
      ∃ x, planOf s.config o = some x ∧ x.exit = .localSignal entry := by
  simp only [State.predecessors, mem_distinct, List.mem_map, List.mem_filter, List.mem_append,
    List.mem_filterMap, isPredecessor_iff]
  constructor
  · rintro ⟨⟨owner, role⟩, ⟨held, rfl, ends⟩, rfl⟩
    refine ⟨held.imp (fun ⟨k, listed, holds⟩ => ⟨k, listed, holds⟩) ?_, ends⟩
    rintro ⟨⟨p, q⟩, listed, holds⟩
    exact ⟨p, ⟨q, listed⟩, holds⟩
  · rintro ⟨held, ends⟩
    refine ⟨⟨o, .overlap⟩, ⟨held.imp (fun ⟨k, listed, holds⟩ => ⟨k, listed, holds⟩) ?_, rfl, ends⟩,
      rfl⟩
    rintro ⟨p, ⟨q, listed⟩, holds⟩
    exact ⟨(p, q), listed, holds⟩

end Sys2Proof.Machine
end

section
/-! PROOFS. What the takeover leaves to the end of the setting event (R82). -/

namespace Sys2Proof.Machine
open Sys2Proof

section
variable {s : State} {r q : Fin 64} {c : RouteCfg} {chosen : List (Fin 48)}

/-! ## The other routes, the portions and the pool from the takeover on -/

theorem State.makeOffer_other (other : q ≠ r) (w : RemoteRequest) :
    (s.makeOffer r w).lku.routes[q] = s.lku.routes[q] := by
  cases found : s.freeRecord with
  | none => rw [State.makeOffer, found]
  | some k =>
    rw [State.makeOffer_eq found]
    simp only [State.toNeighbour_keeps, State.recorded, State.updRoute_route]
    exact if_neg (Ne.symm other)

theorem State.offerFlank_other (other : q ≠ r) (e : FlankElement) :
    (s.offerFlank r e).lku.routes[q] = s.lku.routes[q] := by
  unfold State.offerFlank
  split
  · rw [State.updRoute_route, if_neg (Ne.symm other), State.makeOffer_other other]
  · rfl

/-- The offers of a route concern its own record alone. -/
theorem State.offering_other (other : q ≠ r) :
    (s.offering r c chosen).lku.routes[q] = (s.seized r c chosen).lku.routes[q] := by
  have flanks (t : State) (es : List FlankElement) :
      (t.offerFlanks r es).lku.routes[q] = t.lku.routes[q] :=
    State.forEach_keeps (fun t => t.lku.routes[q]) _ (fun t e => t.offerFlank_other other e) t es
  rw [State.offering, flanks]
  match c.request with
  | none => rfl
  | some (n, p) => exact State.makeOffer_other other _

/-- The taking of a route's plan concerns its own record alone. -/
theorem State.seized_other (other : q ≠ r) : (s.seized r c chosen).lku.routes[q] =
    (s.dispossessAll (s.predecessors c.entry c.plan)).lku.routes[q] := by
  simp only [State.seized, State.takePlan, State.requestMoves_keeps, State.updHold,
    State.updRoute_route, State.claimFlank_keeps, State.holdPlan_keeps, State.entered,
    State.updSignalLock_keeps, if_neg (Ne.symm other)]

theorem State.offering_hosted : (s.offering r c chosen).hou.portions =
      (s.dispossessAll (s.predecessors c.entry c.plan)).hou.portions ∧
    (s.offering r c chosen).rtp = (s.dispossessAll (s.predecessors c.entry c.plan)).rtp := by
  simp [State.offering, State.seized, State.takePlan, State.entered, State.updHold]

/-- A section that the plan does not list has the holder that the takeover left it. -/
theorem State.seized_unlisted {k : Fin 32} (unlisted : ¬(k ∈ c.plan.path ∨ k ∈ c.plan.overlap)) :
    ((s.seized r c chosen).lku.sections[k]).holder =
      ((s.dispossessAll (s.predecessors c.entry c.plan)).lku.sections[k]).holder := by
  obtain ⟨path, overlap⟩ := not_or.1 unlisted
  simp only [s.seized_locks r c chosen, State.claimFlank_keeps, State.holdPlan_section,
    if_neg path, if_neg overlap, State.entered, State.updRoute_keeps, State.updSignalLock_keeps]

theorem State.seized_unlistedPoint {p : Fin 16}
    (unlisted : ¬∃ x, (p, x) ∈ c.plan.points ∨ (p, x) ∈ c.plan.overlapPoints) :
    ((s.seized r c chosen).lku.points[p]).holder =
      ((s.dispossessAll (s.predecessors c.entry c.plan)).lku.points[p]).holder := by
  have path : p ∉ c.plan.points.map (·.1) := fun mem => by
    obtain ⟨⟨y, x⟩, listed, rfl⟩ := List.mem_map.1 mem
    exact unlisted ⟨x, .inl listed⟩
  have overlap : p ∉ c.plan.overlapPoints.map (·.1) := fun mem => by
    obtain ⟨⟨y, x⟩, listed, rfl⟩ := List.mem_map.1 mem
    exact unlisted ⟨x, .inr listed⟩
  rw [(s.seized_locks r c chosen).2.1, (State.claimFlank_holders _ _ p 0).1, State.holdPlan_point,
    if_neg overlap, if_neg path]
  simp only [State.entered, State.updRoute_keeps, State.updSignalLock_keeps]

end

/-! ## What an owner has lost -/

section
variable {s t : State} {os : List Owner}

theorem RouteRec.fields_of_poolless {a b : RouteRec} (same : b.poolless = a.poolless) :
    b.state = a.state ∧ b.hold = a.hold ∧ b.offers = a.offers ∧ b.note = a.note := by
  cases a
  cases b
  cases same
  exact ⟨rfl, rfl, rfl, rfl⟩

/-- An owner that is not among them keeps its state and its hold. -/
theorem Dispossessed.route_stays (h : Dispossessed os s t) {q : Fin 64} (other : .route q ∉ os) :
    (t.lku.routes[q]).state = (s.lku.routes[q]).state ∧
      (t.lku.routes[q]).hold = (s.lku.routes[q]).hold := by
  have same := h.routes q
  rw [if_neg other] at same
  obtain ⟨state, hold, -⟩ := RouteRec.fields_of_poolless same
  exact ⟨state, hold⟩

theorem Dispossessed.route_released (h : Dispossessed os s t) {q : Fin 64} (mem : .route q ∈ os)
    (standing : (s.lku.routes[q]).state ≠ .overlapHeld) :
    (t.lku.routes[q]).state = (s.lku.routes[q]).state ∧
      (t.lku.routes[q]).hold = { (s.lku.routes[q]).hold with overlap := .released } ∧
      (t.lku.routes[q]).offers = (s.lku.routes[q]).offers ∧
      (t.lku.routes[q]).note = (s.lku.routes[q]).note := by
  have same := h.routes q
  rw [if_pos mem, RouteRec.dispossessed, if_neg standing] at same
  exact RouteRec.fields_of_poolless same

theorem Dispossessed.route_idle (h : Dispossessed os s t) {q : Fin 64} (mem : .route q ∈ os)
    (held : (s.lku.routes[q]).state = .overlapHeld) :
    (t.lku.routes[q]).state = .idle ∧
      (t.lku.routes[q]).hold = Hold.idle (idleOverlap s.config (.route q)) ∧
      (t.lku.routes[q]).note = false := by
  have same := h.routes q
  rw [if_pos mem, RouteRec.dispossessed, if_pos held] at same
  obtain ⟨state, hold, -, note⟩ := RouteRec.fields_of_poolless same
  exact ⟨state, hold, note⟩

theorem Dispossessed.portion_released (h : Dispossessed os s t) {p : Fin 16}
    (mem : .portion p ∈ os) (standing : (s.hou.portions[p]).state ≠ .overlapHeld) :
    t.hou.portions[p] = { s.hou.portions[p] with
      hold := { (s.hou.portions[p]).hold with overlap := .released } } := by
  rw [h.portions, if_pos mem, PortionRec.dispossessed, if_neg standing]

theorem Dispossessed.portion_idle (h : Dispossessed os s t) {p : Fin 16} (mem : .portion p ∈ os)
    (held : (s.hou.portions[p]).state = .overlapHeld) :
    t.hou.portions[p] = PortionRec.idle (idleOverlap s.config (.portion p)) := by
  rw [h.portions, if_pos mem, PortionRec.dispossessed, if_pos held]

end

/-! ## The obligation -/

/-- Settles O32: the predecessors of the plan lose their overlaps, and the rest of the setting event
touches none of what is said of them. -/
theorem takeoverDispossessesThePredecessors :
    Obligations.TakeoverDispossessesThePredecessors := by
  intro s c rest r cfg chosen takes found passes plan listed listedPoint loses gone
  set u := s.taken rest with hu
  set w := u.offering r cfg chosen with hw
  set preds := u.predecessors cfg.entry cfg.plan with hpreds
  have mem_iff (o : Owner) : o ∈ preds ↔ loses o := u.mem_predecessors cfg.entry cfg.plan o
  have once : preds.Nodup := nodup_distinct _
  have lost : Dispossessed preds u (u.dispossessAll preds) :=
    State.dispossessAll_dispossessed once
  have gone_iff (h : Option Holder) : (∃ o ∈ preds, h = some ⟨o, .overlap⟩) ↔ gone h :=
    ⟨fun ⟨o, mem, held⟩ => ⟨o, held, (mem_iff o).1 mem⟩,
      fun ⟨o, held, loss⟩ => ⟨o, (mem_iff o).2 loss, held⟩⟩
  obtain ⟨idle, -, -⟩ := State.checkRoute_passes chosen passes
  obtain ⟨t, event, after⟩ := exec_rest (i := .setRoute) (s := s) (congrArg some
    (State.runCommand_done takes (by decide) (workSetRoute_passes found passes)))
  have tested : TestedAfter w r t := testedAfter_of_rest after
  obtain ⟨doneLku, -, doneHou, -⟩ := (w.completionTest r).done_keeps c
  obtain ⟨sections, points, -⟩ := u.offering_keeps r cfg chosen
  obtain ⟨hosted, rtp⟩ := State.offering_hosted (s := u) (r := r) (c := cfg) (chosen := chosen)
  have pool : t.rtp = (u.dispossessAll preds).rtp := by
    rw [after.pool, ← rtp]
    simp [State.done]
    rfl
  have route (q : Fin 64) (other : q ≠ r) :
      t.lku.routes[q] = (u.dispossessAll preds).lku.routes[q] := by
    rw [after.locks, doneLku, State.completionTest_other _ (Ne.symm other), hw,
      State.offering_other other, State.seized_other other]
  have portion (p : Fin 16) :
      ((u.dispossessAll preds).hou.portions[p]).state.Tested (t.hou.portions[p]).state ∧
      t.hou.portions[p] = { (u.dispossessAll preds).hou.portions[p] with
        state := (t.hou.portions[p]).state } := by
    have moved := after.portion_moved p
    rw [doneHou, (w.completionTest_keeps r).2.2.2.2.2.2.2.2.2.2.2.2.2.1, hosted] at moved
    exact moved
  refine ⟨t, event, fun k unlisted => ?_, fun p unlisted => ?_, fun q other => ?_, fun p => ?_,
    fun standing => ?_, fun q other loss held only => ?_⟩
  · rw [tested.sections, sections, State.seized_unlisted unlisted, lost.sections]
    exact ⟨fun h => if_pos ((gone_iff _).2 h), fun h => if_neg (mt (gone_iff _).1 h)⟩
  · rw [tested.points, points, State.seized_unlistedPoint unlisted, lost.points]
    exact ⟨fun h => if_pos ((gone_iff _).2 h), fun h => if_neg (mt (gone_iff _).1 h)⟩
  · rw [route q other]
    exact ⟨fun stays => lost.route_stays (mt (mem_iff _).1 stays),
      fun loss standing => lost.route_released ((mem_iff _).2 loss) standing,
      fun loss held => lost.route_idle ((mem_iff _).2 loss) held⟩
  · obtain ⟨⟨-, unproven⟩, record⟩ := portion p
    refine ⟨fun stays => ?_, fun loss standing => ?_, fun loss held => ?_⟩
    · rw [lost.portions, if_neg (mt (mem_iff _).1 stays)] at record
      rw [record]
      exact ⟨rfl, rfl⟩
    · rw [lost.portion_released ((mem_iff _).2 loss) standing] at record unproven
      rw [record]
      exact ⟨rfl, rfl, fun inUse => (unproven fun provable => provable.elim
        (fun h => nomatch inUse.symm.trans h) (fun h => nomatch inUse.symm.trans h)).trans inUse⟩
    · rw [lost.portion_idle ((mem_iff _).2 loss) held] at record unproven
      rw [record, unproven (fun provable => provable.elim nofun nofun)]
      rfl
  · rw [pool]
    refine State.dispossessAll_rtp (s := u) (fun q mem => ?_) once
    by_cases same : q = r
    · subst same
      intro held
      nomatch idle.symm.trans held
    · exact standing q same ((mem_iff _).1 mem)
  · have given : PoolGivenUp q u (u.dispossessAll preds) := State.dispossessAll_pool (s := u) held
      ((mem_iff _).2 loss) once fun x mem => only x ((mem_iff _).1 mem)
    obtain ⟨none, queued, timer⟩ := given
    rw [pool]
    refine ⟨none, queued, fun k granted => ?_⟩
    obtain ⟨empty, head⟩ := timer k granted
    refine ⟨empty, fun x xs queue => ?_⟩
    obtain ⟨queue', timers, -⟩ := head x xs queue
    exact ⟨queue', timers⟩

end Sys2Proof.Machine
end

section
/-! PROOFS. The train followed on its path (R104, R105): the holders that go, the places that are
released, and what of the owner's record changes with them. -/

namespace Sys2Proof.Machine
open Sys2Proof

/-! ## Holders that go -/

/-- The holder of an element before and after: gone where it is one that goes, and otherwise
kept. -/
def Drops (goes : Holder → Prop) (a b : Option Holder) : Prop :=
  (a = none → b = none) ∧ ∀ h, a = some h → (goes h → b = none) ∧ (¬goes h → b = some h)

section
variable {p q : Holder → Prop} {a b c : Option Holder} {o : Owner} {roles : Role → Bool}

theorem Drops.refl (a : Option Holder) : Drops (fun _ => False) a a :=
  ⟨id, fun _ stands => ⟨nofun, fun _ => stands⟩⟩

theorem Drops.congr (h : Drops p a b) (same : ∀ x, p x ↔ q x) : Drops q a b := by
  obtain rfl : p = q := funext fun x => propext (same x)
  exact h

theorem Drops.trans (h : Drops p a b) (k : Drops q b c) : Drops (fun x => p x ∨ q x) a c := by
  refine ⟨fun none => k.1 (h.1 none), fun x stands => ⟨fun goes => ?_, fun stays => ?_⟩⟩
  · by_cases first : p x
    · exact k.1 ((h.2 x stands).1 first)
    · exact (k.2 x ((h.2 x stands).2 first)).1 (goes.resolve_left first)
  · obtain ⟨notFirst, notSecond⟩ := not_or.1 stays
    exact (k.2 x ((h.2 x stands).2 notFirst)).2 notSecond

theorem dropHolder_drops (o : Owner) (role : Role) (roles : Role → Bool)
    (only : ∀ x, roles x = true ↔ x = role) (a : Option Holder) :
    Drops (· = ⟨o, role⟩) a (dropHolder o roles a) := by
  refine ⟨fun none => by rw [none]; rfl, ?_⟩
  rintro ⟨owner, x⟩ rfl
  have held : heldBy o roles (some ⟨owner, x⟩) = true ↔ (⟨owner, x⟩ : Holder) = ⟨o, role⟩ := by
    simp [heldBy, only]
  exact ⟨fun goes => if_pos (held.2 goes), fun stays => if_neg (mt held.1 stays)⟩

/-- Holders that go where a condition on the element holds. -/
theorem Drops.ite {cond : Prop} [Decidable cond] (h : Drops p a b) :
    Drops (fun x => p x ∧ cond) a (if cond then b else a) := by
  split
  · next holds => exact h.congr fun x => (and_iff_left holds).symm
  · next fails => exact (Drops.refl a).congr fun x => iff_of_false id fun both => fails both.2

end

theorem pathRole_iff (x : Role) : pathRole x = true ↔ x = .path := beq_iff_eq
theorem overlapRole_iff (x : Role) : overlapRole x = true ↔ x = .overlap := beq_iff_eq
theorem entryRole_iff (x : Role) : entryRole x = true ↔ x = .entry := beq_iff_eq

/-- The holders of all elements before and after. -/
structure LocksDrop (sections : Fin 32 → Holder → Prop) (points signals : Fin 16 → Holder → Prop)
    (s t : State) : Prop where
  sections : ∀ k : Fin 32, Drops (sections k) (s.lku.sections[k]).holder (t.lku.sections[k]).holder
  points : ∀ p : Fin 16, Drops (points p) (s.lku.points[p]).holder (t.lku.points[p]).holder
  signals : ∀ g : Fin 16, Drops (signals g) (s.lku.signals[g]).holder (t.lku.signals[g]).holder

section
variable {s t u : State} {x x' : Fin 32 → Holder → Prop} {y y' z z' : Fin 16 → Holder → Prop}

theorem LocksDrop.trans (h : LocksDrop x y z s t) (k : LocksDrop x' y' z' t u) :
    LocksDrop (fun i d => x i d ∨ x' i d) (fun i d => y i d ∨ y' i d) (fun i d => z i d ∨ z' i d)
      s u :=
  ⟨fun i => (h.sections i).trans (k.sections i), fun i => (h.points i).trans (k.points i),
    fun i => (h.signals i).trans (k.signals i)⟩

theorem LocksDrop.congr (h : LocksDrop x y z s t) (sections : ∀ i d, x i d ↔ x' i d)
    (points : ∀ i d, y i d ↔ y' i d) (signals : ∀ i d, z i d ↔ z' i d) :
    LocksDrop x' y' z' s t :=
  ⟨fun i => (h.sections i).congr (sections i), fun i => (h.points i).congr (points i),
    fun i => (h.signals i).congr (signals i)⟩

theorem LocksDrop.of_same (sections : t.lku.sections = s.lku.sections)
    (points : ∀ p : Fin 16, (t.lku.points[p]).holder = (s.lku.points[p]).holder)
    (signals : ∀ g : Fin 16, (t.lku.signals[g]).holder = (s.lku.signals[g]).holder) :
    LocksDrop (fun _ _ => False) (fun _ _ => False) (fun _ _ => False) s t := by
  refine ⟨fun k => ?_, fun p => ?_, fun g => ?_⟩
  · rw [sections]; exact .refl _
  · rw [points]; exact .refl _
  · rw [signals]; exact .refl _

end

/-! ## The record of the owner -/

/-- Of the record of an owner only the hold has changed. -/
def OwnerKept (o : Owner) (s t : State) : Prop :=
  match o with
  | .route r => t.lku.routes[r] = { s.lku.routes[r] with hold := (t.lku.routes[r]).hold }
  | .portion p => t.hou.portions[p] = { s.hou.portions[p] with hold := (t.hou.portions[p]).hold }

section
variable {s t u : State} {o : Owner}

theorem OwnerKept.trans (h : OwnerKept o s t) (k : OwnerKept o t u) : OwnerKept o s u := by
  match o, h, k with
  | .route r, h, k =>
    rw [OwnerKept] at *
    rw [k, h]
  | .portion p, h, k =>
    rw [OwnerKept] at *
    rw [k, h]

theorem OwnerKept.of_same (routes : t.lku.routes = s.lku.routes) (hou : t.hou = s.hou) :
    OwnerKept o s t := by
  match o with
  | .route r => rw [OwnerKept, routes]
  | .portion p => rw [OwnerKept, hou]

theorem State.holdOf_congr (routes : t.lku.routes = s.lku.routes) (hou : t.hou = s.hou)
    (o : Owner) : t.holdOf o = s.holdOf o := by
  match o with
  | .route r => rw [State.holdOf, State.holdOf, routes]
  | .portion p => rw [State.holdOf, State.holdOf, hou]

theorem State.updHold_holdOf (s : State) (o : Owner) (f : Hold → Hold) :
    (s.updHold o f).holdOf o = f (s.holdOf o) := by
  match o with
  | .route r => simp only [State.holdOf, State.updHold, State.updRoute_route, if_pos]
  | .portion p => simp only [State.holdOf, State.updHold, State.updPortion_portion, if_pos]

theorem State.updHold_ownerKept (s : State) (o : Owner) (f : Hold → Hold) :
    OwnerKept o s (s.updHold o f) := by
  match o with
  | .route r => simp only [OwnerKept, State.updHold, State.updRoute_route, if_pos]
  | .portion p => simp only [OwnerKept, State.updHold, State.updPortion_portion, if_pos]

end

/-! ## One path section released (R105) -/

section
variable {s : State} {o : Owner} {i : Fin 8} {k : Fin 32}

theorem State.freePoints_drops (s : State) (o : Owner) (k : Fin 32)
    (ps : List (Fin 16 × Position)) (p : Fin 16) :
    Drops (fun h => h = ⟨o, .path⟩ ∧ (∃ q, (p, q) ∈ ps) ∧
        ∃ c, s.config.points[p] = some c ∧ c.track = k)
      (s.lku.points[p]).holder ((s.freePoints o k ps).lku.points[p]).holder := by
  unfold State.freePoints
  induction ps generalizing s with
  | nil =>
    rw [State.forEach_nil]
    exact (Drops.refl _).congr fun h => iff_of_false id fun ⟨_, ⟨q, mem⟩, _⟩ => nomatch mem
  | cons x xs ih =>
    rw [State.forEach_cons]
    set u := if (s.config.points[x.1]).any (·.track == k) then
        s.updPointLock x.1 fun l => { l with holder := dropHolder o pathRole l.holder }
      else s with hu
    have config : u.config = s.config := by
      rw [hu]
      split
      · rfl
      · rfl
    have first : Drops (fun h => h = ⟨o, .path⟩ ∧ (x.1 = p ∧
          (s.config.points[x.1]).any (·.track == k) = true))
        (s.lku.points[p]).holder (u.lku.points[p]).holder := by
      have locks : (u.lku.points[p]).holder =
          if x.1 = p ∧ (s.config.points[x.1]).any (·.track == k) = true then
            dropHolder o pathRole (s.lku.points[p]).holder
          else (s.lku.points[p]).holder := by
        by_cases tracks : (s.config.points[x.1]).any (·.track == k) = true
        · rw [hu, if_pos tracks, State.updPointLock_points, upd_get]
          by_cases same : x.1 = p
          · rw [if_pos same, if_pos ⟨same, tracks⟩]
          · rw [if_neg same, if_neg fun both => same both.1]
        · rw [hu, if_neg tracks, if_neg fun both => tracks both.2]
      rw [locks]
      exact (dropHolder_drops o .path pathRole pathRole_iff _).ite
    refine (first.trans (ih u)).congr fun h => ?_
    rw [config, ← and_or_left]
    refine and_congr_right fun _ => ?_
    constructor
    · rintro (⟨rfl, tracks⟩ | ⟨⟨q, mem⟩, c, listed, track⟩)
      · obtain ⟨c, listed, track⟩ := (Option.any_eq_true _ _).1 tracks
        exact ⟨⟨x.2, List.mem_cons_self⟩, c, listed, beq_iff_eq.1 track⟩
      · exact ⟨⟨q, List.mem_cons_of_mem _ mem⟩, c, listed, track⟩
    · rintro ⟨⟨q, mem⟩, c, listed, track⟩
      obtain rfl | mem := List.mem_cons.1 mem
      · exact .inl ⟨rfl, by simp [listed, track]⟩
      · exact .inr ⟨⟨q, mem⟩, c, listed, track⟩

theorem State.freeEntry_drops (s : State) (o : Owner) (g : Fin 16) :
    Drops (fun h => h = ⟨o, .entry⟩ ∧
        ∃ r c, o = .route r ∧ s.config.routes[r] = some c ∧ c.entry = g)
      (s.lku.signals[g]).holder ((s.freeEntry o).lku.signals[g]).holder := by
  match o with
  | .portion p =>
    exact (Drops.refl _).congr fun h => iff_of_false id fun ⟨_, _, _, same, _⟩ => nomatch same
  | .route r =>
    cases listed : s.config.routes[r] with
    | none =>
      rw [State.freeEntry, listed]
      refine (Drops.refl _).congr fun h => iff_of_false id ?_
      rintro ⟨-, x, c, same, named, -⟩
      cases same
      nomatch listed.symm.trans named
    | some c =>
      have locks : ((s.freeEntry (.route r)).lku.signals[g]).holder = if c.entry = g then
          dropHolder (.route r) entryRole (s.lku.signals[g]).holder
          else (s.lku.signals[g]).holder := by
        rw [State.freeEntry, listed]
        simp only [State.updSignalLock_signals, upd_get]
        split
        · rfl
        · rfl
      rw [locks]
      refine (dropHolder_drops (.route r) .entry entryRole entryRole_iff _).ite.congr fun h => ?_
      refine and_congr_right fun _ => ⟨fun entry => ⟨r, c, rfl, listed, entry⟩, ?_⟩
      rintro ⟨x, d, same, named, entry⟩
      cases same
      cases listed.symm.trans named
      exact entry

/-- A path section is a point's track section. -/
def isTrackOf (cfg : ZoneConfig) (o : Owner) (k : Fin 32) (p : Fin 16) : Prop :=
  (∃ q, (p, q) ∈ pointsOf cfg o) ∧ ∃ c, cfg.points[p] = some c ∧ c.track = k

/-- A signal is the entry signal of an owner. -/
def isEntryOf (cfg : ZoneConfig) (o : Owner) (g : Fin 16) : Prop :=
  ∃ r c, o = .route r ∧ cfg.routes[r] = some c ∧ c.entry = g

theorem State.releaseSection_locks (s : State) (o : Owner) (i : Fin 8) (k : Fin 32) :
    LocksDrop (fun j h => h = ⟨o, .path⟩ ∧ j = k)
      (fun p h => h = ⟨o, .path⟩ ∧ isTrackOf s.config o k p)
      (fun g h => h = ⟨o, .entry⟩ ∧ i = 0 ∧ isEntryOf s.config o g) s (s.releaseSection o i k) := by
  set a := s.updHold o fun h => { h with status := upd h.status i fun _ => .released } with ha
  set b := a.updSectionLock k fun l => { l with holder := dropHolder o pathRole l.holder } with hb
  set c := b.freePoints o k (pointsOf b.config o) with hc
  have released : s.releaseSection o i k = if i = 0 then c.freeEntry o else c := rfl
  have configB : b.config = s.config := by simp [hb, ha]
  have configC : c.config = s.config := by rw [← configB]; simp [hc]
  refine ⟨fun j => ?_, fun p => ?_, fun g => ?_⟩
  · have locks : ((s.releaseSection o i k).lku.sections[j]).holder = if j = k then
        dropHolder o pathRole (s.lku.sections[j]).holder else (s.lku.sections[j]).holder := by
      have same : (s.releaseSection o i k).lku.sections = b.lku.sections := by
        rw [released]
        split
        · simp [hc]
        · simp [hc]
      rw [same, hb, State.updSectionLock_sections, upd_get, (s.updHold_keeps o _).2.2.2.2.2.2.2.1]
      simp only [eq_comm (a := k)]
      split
      · rfl
      · rfl
    rw [locks]
    exact (dropHolder_drops o .path pathRole pathRole_iff _).ite
  · have points : (s.releaseSection o i k).lku.points = c.lku.points := by
      rw [released]
      split
      · simp
      · rfl
    have before : b.lku.points = s.lku.points := by simp [hb, ha]
    have drops := b.freePoints_drops o k (pointsOf b.config o) p
    rw [configB, before] at drops
    rw [points, hc, configB]
    exact drops
  · have before : c.lku.signals = s.lku.signals := by simp [hc, hb, ha]
    have drops := c.freeEntry_drops o g
    rw [configC, before] at drops
    have signals : ((s.releaseSection o i k).lku.signals[g]).holder = if i = 0 then
        ((c.freeEntry o).lku.signals[g]).holder else (s.lku.signals[g]).holder := by
      rw [released, ← before]
      split
      · rfl
      · rfl
    rw [signals]
    exact drops.ite.congr fun h => by rw [and_assoc, and_comm (b := i = 0)]; rfl

theorem State.releaseSection_hold (s : State) (o : Owner) (i : Fin 8) (k : Fin 32) :
    (s.releaseSection o i k).holdOf o =
        { s.holdOf o with status := upd (s.holdOf o).status i fun _ => .released } ∧
      OwnerKept o s (s.releaseSection o i k) := by
  set a := s.updHold o fun h => { h with status := upd h.status i fun _ => .released } with ha
  obtain ⟨routes, hou⟩ : (s.releaseSection o i k).lku.routes = a.lku.routes ∧
      (s.releaseSection o i k).hou = a.hou := by
    simp only [State.releaseSection]
    split
    · simp [ha]
    · simp [ha]
  refine ⟨?_, (s.updHold_ownerKept o _).trans (.of_same routes hou)⟩
  rw [State.holdOf_congr routes hou, ha, State.updHold_holdOf]

end

/-! ## The places that are released (R105) -/

/-- The places that sectional release takes of a list, from the first that is not yet released. -/
def State.releasedPlaces (s : State) (o : Owner) : List (Fin 8 × Fin 32) → List (Fin 8 × Fin 32)
  | [] => []
  | q :: rest =>
    if (s.holdOf o).status[q.1] = .released then s.releasedPlaces o rest
    else if s.mayRelease o q.1 q.2 then q :: s.releasedPlaces o rest
    else []

/-- The places of a path one after the other. -/
abbrev InOrder (qs : List (Fin 8 × Fin 32)) : Prop := qs.Pairwise fun a b => a.1 < b.1

section
variable {s t : State} {o : Owner} {qs : List (Fin 8 × Fin 32)}

/-- Release at a place reads the status of that place and of the next. -/
theorem State.mayRelease_congr {i : Fin 8} {k : Fin 32} (config : t.config = s.config)
    (counts : t.acu = s.acu)
    (status : ∀ j, i ≤ j → (t.holdOf o).status[j] = (s.holdOf o).status[j]) :
    t.mayRelease o i k = s.mayRelease o i k := by
  simp only [State.mayRelease, config, counts, status i le_rfl]
  congr 3
  funext small
  have next := status ⟨i.val + 1, small⟩ (Nat.le_succ _)
  exact congrArg (· == PathStatus.seenOccupied) next

theorem State.releasedPlaces_congr (config : t.config = s.config) (counts : t.acu = s.acu)
    (status : ∀ q ∈ qs, ∀ j, q.1 ≤ j → (t.holdOf o).status[j] = (s.holdOf o).status[j]) :
    t.releasedPlaces o qs = s.releasedPlaces o qs := by
  induction qs with
  | nil => rfl
  | cons q qs ih =>
    have here := status q List.mem_cons_self
    rw [State.releasedPlaces, State.releasedPlaces, here q.1 le_rfl,
      State.mayRelease_congr config counts here,
      ih fun q mem => status q (List.mem_cons_of_mem _ mem)]

/-- Sectional release is the release of its places, one after the other. -/
theorem State.releaseFrom_eq (order : InOrder qs) : s.releaseFrom o qs =
    s.forEach (s.releasedPlaces o qs) fun s q => s.releaseSection o q.1 q.2 := by
  induction qs generalizing s with
  | nil => rw [State.releasedPlaces, State.forEach_nil, State.releaseFrom]
  | cons q qs ih =>
    obtain ⟨later, order⟩ := List.pairwise_cons.1 order
    rw [State.releaseFrom, State.releasedPlaces]
    split
    · exact ih order
    · split
      · have same : (s.releaseSection o q.1 q.2).releasedPlaces o qs = s.releasedPlaces o qs := by
          refine State.releasedPlaces_congr (by simp) (by simp) fun x mem j after => ?_
          rw [(s.releaseSection_hold o q.1 q.2).1]
          exact upd_other _ _ _ _ (ne_of_lt (lt_of_lt_of_le (later x mem) after))
        rw [State.forEach_cons, ← same]
        exact ih order
      · rw [State.forEach_nil]

/-- A place is passed: its section is released already, or may be. -/
def State.passes (s : State) (o : Owner) (q : Fin 8 × Fin 32) : Prop :=
  (s.holdOf o).status[q.1] = .released ∨ s.mayRelease o q.1 q.2 = true

/-- A place is taken where it and every earlier one is passed. -/
theorem State.mem_releasedPlaces (order : InOrder qs) (x : Fin 8 × Fin 32) :
    x ∈ s.releasedPlaces o qs ↔ x ∈ qs ∧ (s.holdOf o).status[x.1] ≠ .released ∧
      ∀ q ∈ qs, q.1 ≤ x.1 → s.passes o q := by
  induction qs with
  | nil => exact iff_of_false (by simp [State.releasedPlaces]) fun ⟨mem, _⟩ => nomatch mem
  | cons q qs ih =>
    obtain ⟨later, order⟩ := List.pairwise_cons.1 order
    have onward (mem : x ∈ qs) : q.1 ≤ x.1 := (later x mem).le
    rw [State.releasedPlaces]
    split
    · next released =>
      rw [ih order, List.forall_mem_cons, List.mem_cons]
      constructor
      · rintro ⟨mem, unreleased, pass⟩
        exact ⟨.inr mem, unreleased, fun _ => .inl released, pass⟩
      · rintro ⟨rfl | mem, unreleased, -, pass⟩
        · exact absurd released unreleased
        · exact ⟨mem, unreleased, pass⟩
    · next unreleased =>
      split
      · next may =>
        rw [List.mem_cons, ih order, List.forall_mem_cons, List.mem_cons]
        constructor
        · rintro (rfl | ⟨mem, other, pass⟩)
          · exact ⟨.inl rfl, unreleased, fun _ => .inr may,
              fun y mem before => absurd (later y mem) (not_lt.2 before)⟩
          · exact ⟨.inr mem, other, fun _ => .inr may, pass⟩
        · rintro ⟨rfl | mem, other, -, pass⟩
          · exact .inl rfl
          · exact .inr ⟨mem, other, pass⟩
      · next mayNot =>
        refine iff_of_false List.not_mem_nil ?_
        rintro ⟨mem, -, pass⟩
        have head : q.1 ≤ x.1 := by
          obtain rfl | mem := List.mem_cons.1 mem
          · exact le_rfl
          · exact onward mem
        exact (pass q List.mem_cons_self head).elim unreleased mayNot

/-- What the release of some places leaves: the holders of their sections are gone, with those of
the points, and with the first that of the entry signal; their statuses are RELEASED. -/
structure PlacesReleased (o : Owner) (rs : List (Fin 8 × Fin 32)) (s t : State) : Prop where
  config : t.config = s.config
  locks : LocksDrop (fun j h => h = ⟨o, .path⟩ ∧ ∃ q ∈ rs, q.2 = j)
    (fun p h => h = ⟨o, .path⟩ ∧ ∃ q ∈ rs, isTrackOf s.config o q.2 p)
    (fun g h => h = ⟨o, .entry⟩ ∧ (∃ q ∈ rs, q.1 = 0) ∧ isEntryOf s.config o g) s t
  released : ∀ i : Fin 8, (∃ q ∈ rs, q.1 = i) → (t.holdOf o).status[i] = .released
  status : ∀ i : Fin 8, (∀ q ∈ rs, q.1 ≠ i) → (t.holdOf o).status[i] = (s.holdOf o).status[i]
  overlap : (t.holdOf o).overlap = (s.holdOf o).overlap
  flank : (t.holdOf o).flank = (s.holdOf o).flank
  owner : OwnerKept o s t

theorem State.releaseSections_released (s : State) (o : Owner) (rs : List (Fin 8 × Fin 32)) :
    PlacesReleased o rs s (s.forEach rs fun s q => s.releaseSection o q.1 q.2) := by
  induction rs generalizing s with
  | nil =>
    rw [State.forEach_nil]
    refine ⟨rfl, (LocksDrop.of_same rfl (fun _ => rfl) fun _ => rfl).congr ?_ ?_ ?_,
      (fun _ ⟨_, mem, _⟩ => nomatch mem),
      fun _ _ => rfl, rfl, rfl, .of_same rfl rfl⟩
    · exact fun _ _ => iff_of_false id fun ⟨_, q, mem, _⟩ => nomatch mem
    · exact fun _ _ => iff_of_false id fun ⟨_, q, mem, _⟩ => nomatch mem
    · exact fun _ _ => iff_of_false id fun ⟨_, ⟨q, mem, _⟩, _⟩ => nomatch mem
  | cons x rs ih =>
    rw [State.forEach_cons]
    set u := s.releaseSection o x.1 x.2 with hu
    obtain ⟨hold, kept⟩ := s.releaseSection_hold o x.1 x.2
    rw [← hu] at hold kept
    have config : u.config = s.config := by simp [hu]
    obtain ⟨rest, locks, released, status, overlap, flank, owner⟩ := ih u
    rw [config] at locks
    refine ⟨rest.trans config, ((s.releaseSection_locks o x.1 x.2).trans locks).congr ?_ ?_ ?_,
      fun i taken => ?_, fun i others => ?_, overlap.trans (by rw [hold]),
      flank.trans (by rw [hold]), kept.trans owner⟩
    · intro j h
      rw [← and_or_left]
      simp [eq_comm]
    · intro p h
      rw [← and_or_left]
      simp
    · intro g h
      rw [← and_or_left, ← or_and_right]
      simp
    · by_cases again : ∃ y ∈ rs, y.1 = i
      · exact released i again
      · have first : x.1 = i := by
          obtain ⟨y, mem, at_i⟩ := taken
          obtain rfl | mem := List.mem_cons.1 mem
          · exact at_i
          · exact absurd ⟨y, mem, at_i⟩ again
        rw [status i fun y mem same => again ⟨y, mem, same⟩, hold, ← first]
        exact upd_same _ _ _
    · obtain ⟨other, others⟩ := List.forall_mem_cons.1 others
      rw [status i others, hold]
      exact upd_other _ _ _ _ other

end

end Sys2Proof.Machine
end

section
/-! PROOFS. The places of a path, how far the release goes on them, and the end of the path (R104 to
R106, R108). -/

namespace Sys2Proof.Machine
open Sys2Proof

/-! ## The places of a path -/

section
variable {s : State} {o : Owner} {i : Fin 8} {k : Fin 32}

theorem mem_pathPlaces (cfg : ZoneConfig) (o : Owner) (q : Fin 8 × Fin 32) :
    q ∈ pathPlaces cfg o ↔ (pathOf cfg o)[q.1.val]? = some q.2 := by
  obtain ⟨i, k⟩ := q
  simp only [pathPlaces, List.mem_filterMap, Option.map_eq_some_iff, Prod.mk.injEq]
  constructor
  · rintro ⟨j, -, x, listed, rfl, rfl⟩
    exact listed
  · exact fun listed => ⟨i, List.mem_finRange i, k, listed, rfl, rfl⟩

theorem pathPlaces_inOrder (cfg : ZoneConfig) (o : Owner) : InOrder (pathPlaces cfg o) := by
  refine List.Pairwise.filterMap _ (R := (· < ·)) ?_ (List.pairwise_lt_finRange 8)
  intro i j before q at_i q' at_j
  obtain ⟨k, -, rfl⟩ := Option.map_eq_some_iff.1 at_i
  obtain ⟨k', -, rfl⟩ := Option.map_eq_some_iff.1 at_j
  exact before

/-- The release goes on beyond a place: it and every earlier one of the path is passed (R105). -/
def State.goesOn (s : State) (o : Owner) (i : Fin 8) : Prop :=
  ∀ (j : Fin 8) (x : Fin 32), j ≤ i → (pathOf s.config o)[j.val]? = some x → s.passes o (j, x)

/-- The places of the path of an owner that sectional release takes. -/
abbrev State.placesTaken (s : State) (o : Owner) : List (Fin 8 × Fin 32) :=
  s.releasedPlaces o (pathPlaces s.config o)

theorem State.mem_placesTaken (q : Fin 8 × Fin 32) : q ∈ s.placesTaken o ↔
    (pathOf s.config o)[q.1.val]? = some q.2 ∧ s.goesOn o q.1 ∧
      (s.holdOf o).status[q.1] ≠ .released := by
  rw [State.mem_releasedPlaces (pathPlaces_inOrder _ _), mem_pathPlaces]
  refine and_congr_right fun _ => ⟨fun ⟨other, pass⟩ => ⟨fun j x before listed => ?_, other⟩,
    fun ⟨pass, other⟩ => ⟨other, fun y mem before => ?_⟩⟩
  · exact pass (j, x) ((mem_pathPlaces _ _ _).2 listed) before
  · exact pass y.1 y.2 before ((mem_pathPlaces _ _ _).1 mem)

theorem State.releaseFrom_path (s : State) (o : Owner) :
    PlacesReleased o (s.placesTaken o) s (s.releaseFrom o (pathPlaces s.config o)) := by
  rw [State.releaseFrom_eq (pathPlaces_inOrder _ _)]
  exact s.releaseSections_released o _

/-- After the release the sections of the path up to which it went on are RELEASED (R105). -/
theorem State.releaseFrom_status (s : State) (o : Owner) (i : Fin 8) :
    ((∃ x, (pathOf s.config o)[i.val]? = some x) → s.goesOn o i →
      ((s.releaseFrom o (pathPlaces s.config o)).holdOf o).status[i] = .released) ∧
    (¬((∃ x, (pathOf s.config o)[i.val]? = some x) ∧ s.goesOn o i) →
      ((s.releaseFrom o (pathPlaces s.config o)).holdOf o).status[i] =
        (s.holdOf o).status[i]) := by
  have after := s.releaseFrom_path o
  refine ⟨fun ⟨x, listed⟩ goes => ?_, fun stops => after.status i fun q mem same => ?_⟩
  · by_cases released : (s.holdOf o).status[i] = .released
    · by_cases late : ∃ q ∈ s.placesTaken o, q.1 = i
      · exact after.released i late
      · exact (after.status i fun q mem same => late ⟨q, mem, same⟩).trans released
    · exact after.released i ⟨(i, x), (State.mem_placesTaken _).2 ⟨listed, goes, released⟩, rfl⟩
  · obtain ⟨listed, goes, -⟩ := (State.mem_placesTaken q).1 mem
    subst same
    exact stops ⟨⟨q.2, listed⟩, goes⟩

/-- The path has ended where the release goes on to its last section (R106). -/
theorem State.pathEnded_iff (s : State) (o : Owner) :
    (s.releaseFrom o (pathPlaces s.config o)).pathEnded o = true ↔
      ∀ (i : Fin 8) (x : Fin 32), (pathOf s.config o)[i.val]? = some x → s.goesOn o i := by
  have config : (s.releaseFrom o (pathPlaces s.config o)).config = s.config := by simp
  rw [State.pathEnded, config, List.all_eq_true]
  simp only [beq_iff_eq]
  constructor
  · intro ended i x listed j y before at_j
    have released := ended (j, y) ((mem_pathPlaces _ _ _).2 at_j)
    by_cases stops : (∃ x, (pathOf s.config o)[j.val]? = some x) ∧ s.goesOn o j
    · exact stops.2 j y le_rfl at_j
    · exact .inl (((s.releaseFrom_status o j).2 stops).symm.trans released)
  · intro ends q mem
    have listed := (mem_pathPlaces _ _ _).1 mem
    exact (s.releaseFrom_status o q.1).1 ⟨q.2, listed⟩ (ends q.1 q.2 listed)

end

/-! ## The end of the path (R106, R108) -/

/-- The overlap elements that an owner frees, where it frees them. -/
def OverlapDrops (o : Owner) (goes : Prop) (s t : State) : Prop :=
  LocksDrop (fun _ h => h = ⟨o, .overlap⟩ ∧ goes) (fun _ h => h = ⟨o, .overlap⟩ ∧ goes)
    (fun _ h => h = ⟨o, .overlap⟩ ∧ goes) s t

section
variable {s t u : State} {o : Owner} {goes : Prop}

theorem OverlapDrops.of_same (stays : ¬goes) (sections : t.lku.sections = s.lku.sections)
    (points : ∀ p : Fin 16, (t.lku.points[p]).holder = (s.lku.points[p]).holder)
    (signals : ∀ g : Fin 16, (t.lku.signals[g]).holder = (s.lku.signals[g]).holder) :
    OverlapDrops o goes s t :=
  (LocksDrop.of_same sections points signals).congr
    (fun _ _ => iff_of_false id fun both => stays both.2)
    (fun _ _ => iff_of_false id fun both => stays both.2)
    (fun _ _ => iff_of_false id fun both => stays both.2)

theorem State.freeElements_overlap (s : State) (o : Owner) (holds : goes) :
    OverlapDrops o goes s (s.freeElements o overlapRole) := by
  obtain ⟨sections, points, signals⟩ := s.freeElements_holders o overlapRole
  have drops (a : Option Holder) : Drops (fun h => h = ⟨o, .overlap⟩ ∧ goes) a
      (dropHolder o overlapRole a) :=
    (dropHolder_drops o .overlap overlapRole overlapRole_iff a).congr fun h =>
      (and_iff_left holds).symm
  exact ⟨fun k => by rw [sections]; exact drops _, fun p => by rw [points]; exact drops _,
    fun g => by rw [signals]; exact drops _⟩

/-- Holders that stay before others go. -/
theorem OverlapDrops.after (h : OverlapDrops o goes t u)
    (sections : t.lku.sections = s.lku.sections)
    (points : ∀ p : Fin 16, (t.lku.points[p]).holder = (s.lku.points[p]).holder)
    (signals : ∀ g : Fin 16, (t.lku.signals[g]).holder = (s.lku.signals[g]).holder) :
    OverlapDrops o goes s u :=
  ((LocksDrop.of_same sections points signals).trans h).congr (fun _ _ => by rw [false_or])
    (fun _ _ => by rw [false_or]) (fun _ _ => by rw [false_or])

theorem OverlapDrops.andSame (h : OverlapDrops o goes s t)
    (locks : u.lku.sections = t.lku.sections ∧ u.lku.points = t.lku.points ∧
      u.lku.signals = t.lku.signals) : OverlapDrops o goes s u := by
  obtain ⟨sections, points, signals⟩ := locks
  exact ⟨fun k => by rw [sections]; exact h.sections k, fun p => by rw [points]; exact h.points p,
    fun g => by rw [signals]; exact h.signals g⟩

end

/-- What the end of its path leaves of a route (R106, R108). -/
structure RouteEnded (r : Fin 64) (goes : Prop) (s t : State) : Prop where
  locks : OverlapDrops (.route r) goes s t
  flank : (t.lku.routes[r]).hold.flank = []
  offers : ∀ k ∈ (s.lku.routes[r]).offers, t.hou.offers[k] = none
  idle : (s.lku.routes[r]).hold.overlap ≠ .held ∨ goes →
    t.lku.routes[r] = RouteRec.idle (idleOverlap s.config (.route r))
  held : (s.lku.routes[r]).hold.overlap = .held → ¬goes →
    (t.lku.routes[r]).state = .overlapHeld ∧
      (overlapTime s.config r ≠ 0 → (t.lku.routes[r]).pool ≠ .none)

/-- What the end of its path leaves of a hosted portion (R154). -/
structure PortionEnded (p : Fin 16) (goes : Prop) (s t : State) : Prop where
  locks : OverlapDrops (.portion p) goes s t
  flank : (t.hou.portions[p]).hold.flank = []
  idle : (s.hou.portions[p]).hold.overlap ≠ .held ∨ goes →
    t.hou.portions[p] = PortionRec.idle (idleOverlap s.config (.portion p))
  held : (s.hou.portions[p]).hold.overlap = .held → ¬goes →
    (t.hou.portions[p]).state = .overlapHeld

section
variable (s : State)

theorem State.requestTimer_pool (r : Fin 64) : ((s.requestTimer r).lku.routes[r]).pool ≠ .none := by
  unfold State.requestTimer
  split
  · rw [State.grantTimer_route, if_pos rfl]
    nofun
  · rw [State.updRoute_route, if_pos rfl]
    nofun

theorem State.dropFlank_holders (o : Owner) :
    (s.dropFlank o).lku.sections = s.lku.sections ∧
    (∀ p : Fin 16, ((s.dropFlank o).lku.points[p]).holder = (s.lku.points[p]).holder) ∧
    ∀ g : Fin 16, ((s.dropFlank o).lku.signals[g]).holder = (s.lku.signals[g]).holder := by
  obtain ⟨sections, points, signals⟩ := s.dropFlank_locks o
  obtain ⟨pointHolders, signalHolders⟩ := s.releaseFlank_holders (s.holdOf o).flank
  exact ⟨sections, fun p => by rw [points, pointHolders], fun g => by rw [signals, signalHolders]⟩

theorem State.dropFlank_hold (o : Owner) :
    (s.dropFlank o).holdOf o = { s.holdOf o with flank := [] } ∧ OwnerKept o s (s.dropFlank o) := by
  have routes : (s.releaseFlank (s.holdOf o).flank).lku.routes = s.lku.routes := by simp
  have hou : (s.releaseFlank (s.holdOf o).flank).hou = s.hou := by simp
  refine ⟨?_, (OwnerKept.of_same routes hou).trans (State.updHold_ownerKept _ o _)⟩
  rw [State.dropFlank, State.updHold_holdOf, State.holdOf_congr routes hou]

/-- The flank of a route given back and its records handed back (R106). -/
def State.routeGivenBack (r : Fin 64) : State := (s.dropFlank (.route r)).handBackAll r

theorem State.routeGivenBack_keeps (r : Fin 64) :
    (s.routeGivenBack r).config = s.config ∧ (s.routeGivenBack r).acu = s.acu ∧
    ((s.routeGivenBack r).lku.routes[r]).hold.flank = [] ∧
    (∀ k ∈ (s.lku.routes[r]).offers, (s.routeGivenBack r).hou.offers[k] = none) := by
  obtain ⟨hold, kept⟩ := s.dropFlank_hold (.route r)
  have refs : ((s.dropFlank (.route r)).lku.routes[r]).offers = (s.lku.routes[r]).offers := by
    rw [OwnerKept] at kept
    rw [kept]
  refine ⟨by simp [State.routeGivenBack], by simp [State.routeGivenBack], ?_, fun k mem => ?_⟩
  · have entries := ((s.dropFlank (.route r)).handBackAll_alike r r).entries
    have empty : ((s.dropFlank (.route r)).lku.routes[r]).hold.flank = [] :=
      congrArg Hold.flank hold
    rw [Hold.entries, Hold.entries, empty] at entries
    exact List.map_eq_nil_iff.1 entries
  · rw [State.routeGivenBack, State.handBackAll, refs,
      ((s.dropFlank (.route r)).handBacks_handedBack _).records, if_pos mem]

theorem State.routeGivenBack_holders (r : Fin 64) :
    (s.routeGivenBack r).lku.sections = s.lku.sections ∧
    (∀ p : Fin 16, ((s.routeGivenBack r).lku.points[p]).holder = (s.lku.points[p]).holder) ∧
    ∀ g : Fin 16, ((s.routeGivenBack r).lku.signals[g]).holder = (s.lku.signals[g]).holder := by
  simpa [State.routeGivenBack] using s.dropFlank_holders (.route r)

theorem State.endPath_route (r : Fin 64) : s.endPath (.route r) =
    if (s.lku.routes[r]).hold.overlap = .held then (s.routeGivenBack r).enterOverlapHeld r
    else (s.routeGivenBack r).idleRoute r := by
  have overlap : ((s.dropFlank (.route r)).holdOf (.route r)).overlap =
      (s.lku.routes[r]).hold.overlap := by
    rw [(s.dropFlank_hold (.route r)).1]
    rfl
  rw [← overlap]
  rfl

theorem State.endPath_routeEnded (r : Fin 64) : RouteEnded r
    ((s.lku.routes[r]).hold.overlap = .held ∧ s.overlapClear (.route r) = true ∧
      overlapTime s.config r = 0) s (s.endPath (.route r)) := by
  obtain ⟨config, acu, flank, offers⟩ := s.routeGivenBack_keeps r
  obtain ⟨sections, points, signals⟩ := s.routeGivenBack_holders r
  rw [State.endPath_route]
  set b := s.routeGivenBack r with hb
  by_cases held : (s.lku.routes[r]).hold.overlap = .held
  · rw [if_pos held]
    set e := b.updRoute r fun c => { c with state := .overlapHeld } with he
    have route : e.lku.routes[r] = { b.lku.routes[r] with state := .overlapHeld } := by
      rw [he, State.updRoute_route, if_pos rfl]
    have clear : e.overlapClear (.route r) = s.overlapClear (.route r) := by
      have counts : e.acu = s.acu := acu
      have same : e.config = s.config := config
      rw [State.overlapClear, State.overlapClear, counts, same]
    by_cases time : overlapTime s.config r = 0
    · have enters : b.enterOverlapHeld r = e.tryOverlap (.route r) :=
        if_pos (show overlapTime e.config r = 0 by rw [← time, ← config]; rfl)
      rw [enters]
      by_cases free : s.overlapClear (.route r) = true
      · have released : e.tryOverlap (.route r) =
            (e.freeElements (.route r) overlapRole).idleRoute r := if_pos (clear.trans free)
        have final : (e.tryOverlap (.route r)).lku.routes[r] =
            RouteRec.idle (idleOverlap s.config (.route r)) := by
          rw [released, State.idleRoute_route, if_pos rfl, ← config]
          simp
          rfl
        rw [released] at final ⊢
        exact ⟨((e.freeElements_overlap (.route r) ⟨held, free, time⟩).after sections points
            signals).andSame (by simp), by rw [final]; rfl,
          fun k mem => by simpa [he] using offers k mem, fun _ => final,
          fun _ stays => absurd ⟨held, free, time⟩ stays⟩
      · have stays : e.tryOverlap (.route r) = e := if_neg (by rw [clear]; exact free)
        rw [stays]
        exact ⟨.of_same (fun goes => free goes.2.1) sections points signals,
          by rw [route]; exact flank, offers,
          fun ends => ends.elim (absurd held) (fun goes => absurd goes.2.1 free),
          fun _ _ => ⟨by rw [route], fun other => absurd time other⟩⟩
    · have enters : b.enterOverlapHeld r = e.requestTimer r :=
        if_neg (show ¬overlapTime e.config r = 0 by rw [← config] at time; exact time)
      obtain ⟨state, hold, -⟩ := RouteRec.fields_of_poolless (e.requestTimer_poolless r r)
      rw [enters]
      exact ⟨OverlapDrops.andSame (t := e)
          (.of_same (fun goes => time goes.2.2) sections points signals) (by simp),
        by rw [hold, route]; exact flank,
        fun k mem => by simpa [he] using offers k mem,
        fun ends => ends.elim (absurd held) (fun goes => absurd goes.2.2 time),
        fun _ _ => ⟨by rw [state, route], fun _ => e.requestTimer_pool r⟩⟩
  · have final : (b.idleRoute r).lku.routes[r] =
        RouteRec.idle (idleOverlap s.config (.route r)) := by
      rw [State.idleRoute_route, if_pos rfl, config]
    rw [if_neg held]
    exact ⟨.of_same (fun goes => held goes.1) (by simpa using sections) (by simpa using points)
        (by simpa using signals), by rw [final]; rfl,
      fun k mem => by simpa using offers k mem, fun _ => final, fun h => absurd h held⟩

theorem State.endPath_portion (p : Fin 16) : s.endPath (.portion p) =
    if (s.hou.portions[p]).hold.overlap = .held then
      ((s.dropFlank (.portion p)).updPortion p fun c =>
        { c with state := .overlapHeld }).tryOverlap (.portion p)
    else (s.dropFlank (.portion p)).idlePortion p := by
  have overlap : ((s.dropFlank (.portion p)).holdOf (.portion p)).overlap =
      (s.hou.portions[p]).hold.overlap := by
    rw [(s.dropFlank_hold (.portion p)).1]
    rfl
  rw [← overlap]
  rfl

theorem State.endPath_portionEnded (p : Fin 16) : PortionEnded p
    ((s.hou.portions[p]).hold.overlap = .held ∧ s.overlapClear (.portion p) = true) s
    (s.endPath (.portion p)) := by
  obtain ⟨sections, points, signals⟩ := s.dropFlank_holders (.portion p)
  obtain ⟨hold, -⟩ := s.dropFlank_hold (.portion p)
  have config : (s.dropFlank (.portion p)).config = s.config := by simp
  have acu : (s.dropFlank (.portion p)).acu = s.acu := by simp
  have flank : ((s.dropFlank (.portion p)).hou.portions[p]).hold.flank = [] :=
    congrArg Hold.flank hold
  rw [State.endPath_portion]
  set b := s.dropFlank (.portion p) with hb
  by_cases held : (s.hou.portions[p]).hold.overlap = .held
  · rw [if_pos held]
    set e := b.updPortion p fun c => { c with state := .overlapHeld } with he
    have record : e.hou.portions[p] = { b.hou.portions[p] with state := .overlapHeld } := by
      rw [he, State.updPortion_portion, if_pos rfl]
    have clear : e.overlapClear (.portion p) = s.overlapClear (.portion p) := by
      have counts : e.acu = s.acu := acu
      have same : e.config = s.config := config
      rw [State.overlapClear, State.overlapClear, counts, same]
    by_cases free : s.overlapClear (.portion p) = true
    · have released : e.tryOverlap (.portion p) =
          (e.freeElements (.portion p) overlapRole).idlePortion p := if_pos (clear.trans free)
      have final : ((e.freeElements (.portion p) overlapRole).idlePortion p).hou.portions[p] =
          PortionRec.idle (idleOverlap s.config (.portion p)) := by
        rw [State.idlePortion, State.updPortion_portion, if_pos rfl, ← config]
        simp
        rfl
      rw [released]
      exact ⟨((e.freeElements_overlap (.portion p) ⟨held, free⟩).after sections points
          signals).andSame (by simp), by rw [final]; rfl, fun _ => final,
        fun _ stays => absurd ⟨held, free⟩ stays⟩
    · have stays : e.tryOverlap (.portion p) = e := if_neg (by rw [clear]; exact free)
      rw [stays]
      exact ⟨.of_same (fun goes => free goes.2) sections points signals,
        by rw [record]; exact flank,
        fun ends => ends.elim (absurd held) (fun goes => absurd goes.2 free),
        fun _ _ => by rw [record]⟩
  · have final : (b.idlePortion p).hou.portions[p] =
        PortionRec.idle (idleOverlap s.config (.portion p)) := by
      rw [State.idlePortion, State.updPortion_portion, if_pos rfl, config]
    rw [if_neg held]
    exact ⟨.of_same (fun goes => held goes.1) (by simpa using sections) (by simpa using points)
        (by simpa using signals), by rw [final]; rfl, fun _ => final, fun h => absurd h held⟩

end

end Sys2Proof.Machine
end

section
/-! PROOFS. The notice of a section whose owner is IN_USE: the marking, the release and the end of
the path in one event (R88, R104 to R109, R154). -/

namespace Sys2Proof.Machine
open Sys2Proof

section
variable {s : State} {o : Owner} {k : Fin 32}

/-! ## The notice read and the path marked (R104) -/

theorem State.readNotice_isFree (s : State) (k j : Fin 32) :
    ((s.readNotice k).acu.sections[j]).isFree = true ↔
      (s.acu.sections[j]).state = .clear ∧ (j = k ∨ (s.acu.sections[j]).occ = false) := by
  simp only [State.readNotice, State.updSection_sections, upd_get, eq_comm (a := j)]
  split
  · next same => subst same; simp [SectionRec.isFree, SectionRec.noticed]
  · next other => simp [SectionRec.isFree, other]

/-- With the latches of `k` read, a section has been seen occupied as it stood before (R104). -/
theorem State.readNotice_seesOccupied (s : State) (k j : Fin 32) :
    (s.readNotice k).seesOccupied k (s.acu.sections[k]).occ j =
      ((s.acu.sections[j]).state != .clear || (s.acu.sections[j]).occ) := by
  simp only [State.seesOccupied, State.readNotice, State.updSection_sections, upd_get]
  by_cases same : k = j
  · subst same
    simpa [SectionRec.noticed] using Bool.or_comm _ _
  · simp [same, beq_false_of_ne (Ne.symm same)]

/-- The path marked at a notice of `k`, the latches of which have been read. -/
def State.trainSeen (s : State) (o : Owner) (k : Fin 32) : State :=
  (s.readNotice k).markPath o k (s.acu.sections[k]).occ

theorem State.trainSeen_hold (s : State) (o : Owner) (k : Fin 32) : (s.trainSeen o k).holdOf o =
    Hold.marked (pathOf s.config o)
      ((s.readNotice k).seesOccupied k (s.acu.sections[k]).occ) (s.holdOf o) := by
  rw [State.trainSeen, State.markPath, State.updHold_holdOf]
  rw [State.holdOf_congr (s := s) (t := s.readNotice k) rfl rfl]
  rfl

theorem State.trainSeen_keeps (s : State) (o : Owner) (k : Fin 32) :
    (s.trainSeen o k).config = s.config ∧ (s.trainSeen o k).acu = (s.readNotice k).acu ∧
    (s.trainSeen o k).lku.sections = s.lku.sections ∧
    (s.trainSeen o k).lku.points = s.lku.points ∧
    (s.trainSeen o k).lku.signals = s.lku.signals ∧
    ((s.trainSeen o k).holdOf o).overlap = (s.holdOf o).overlap ∧
    ((s.trainSeen o k).holdOf o).flank = (s.holdOf o).flank ∧
    OwnerKept o s (s.trainSeen o k) := by
  have kept := (s.readNotice k).updHold_ownerKept o
    (Hold.marked (pathOf (s.readNotice k).config o)
      ((s.readNotice k).seesOccupied k (s.acu.sections[k]).occ))
  refine ⟨by simp [State.trainSeen, State.readNotice], by simp [State.trainSeen],
    by simp [State.trainSeen, State.readNotice], by simp [State.trainSeen, State.readNotice],
    by simp [State.trainSeen, State.readNotice], by rw [State.trainSeen_hold]; rfl,
    by rw [State.trainSeen_hold]; rfl, (OwnerKept.of_same (s := s) rfl rfl).trans kept⟩

theorem State.trainSeen_status (s : State) (o : Owner) (k : Fin 32) (i : Fin 8) :
    ((s.trainSeen o k).holdOf o).status[i] = PathStatus.marked (pathOf s.config o)
      (fun j => (s.acu.sections[j]).state != .clear || (s.acu.sections[j]).occ) i
      (s.holdOf o).status[i] := by
  have seen : (s.readNotice k).seesOccupied k (s.acu.sections[k]).occ =
      fun j => (s.acu.sections[j]).state != .clear || (s.acu.sections[j]).occ :=
    funext (s.readNotice_seesOccupied k)
  rw [State.trainSeen_hold, seen]
  simp [Hold.marked]

/-- A place is passed where it is released, or seen occupied and free with the next one, where
there is one, seen occupied (R105). -/
theorem State.trainSeen_passes (s : State) (o : Owner) (k : Fin 32) (j : Fin 8) (x : Fin 32) :
    (s.trainSeen o k).passes o (j, x) ↔
      ((s.trainSeen o k).holdOf o).status[j] = .released ∨
        (((s.trainSeen o k).holdOf o).status[j] = .seenOccupied ∧
          ((s.acu.sections[x]).state = .clear ∧ (x = k ∨ (s.acu.sections[x]).occ = false)) ∧
          (j.val + 1 = (pathOf s.config o).length ∨ ∃ m : Fin 8, m.val = j.val + 1 ∧
            ((s.trainSeen o k).holdOf o).status[m] = .seenOccupied)) := by
  obtain ⟨config, acu, -⟩ := s.trainSeen_keeps o k
  have next (st : Vector PathStatus 8) :
      (if h : j.val + 1 < 8 then st[j.val + 1] == .seenOccupied else false) = true ↔
        ∃ m : Fin 8, m.val = j.val + 1 ∧ st[m] = .seenOccupied := by
    split
    · next small =>
      rw [beq_iff_eq]
      refine ⟨fun seen => ⟨⟨j.val + 1, small⟩, rfl, seen⟩, ?_⟩
      rintro ⟨m, at_m, seen⟩
      obtain rfl : m = ⟨j.val + 1, small⟩ := Fin.ext at_m
      exact seen
    · next large =>
      refine iff_of_false nofun ?_
      rintro ⟨m, at_m, -⟩
      exact large (at_m ▸ m.isLt)
  rw [State.passes, State.mayRelease, config, acu, ← s.readNotice_isFree k x, Bool.and_eq_true,
    Bool.and_eq_true, Bool.or_eq_true, next, beq_iff_eq, beq_iff_eq, and_assoc]

/-- An owner is IN_USE. -/
def State.ownerInUse (s : State) : Owner → Prop
  | .route r => (s.lku.routes[r]).state = .inUse
  | .portion p => (s.hou.portions[p]).state = .inUse

/-- The notice of a section of an owner in IN_USE is the following of the train (R88). -/
theorem State.notice_inUse (stands : NoticeStands s k) {role : Role}
    (holder : (s.lku.sections[k]).holder = some ⟨o, role⟩) (inUse : s.ownerInUse o) :
    s.sectionNotice k = (s.readNotice k).followTrain o k (s.acu.sections[k]).occ := by
  rw [stands.taken]
  match o, holder, inUse with
  | .route r, holder, inUse =>
    have state : ((s.readNotice k).lku.routes[r]).state = .inUse := inUse
    rw [State.actOnNotice_route (u := s.readNotice k) holder, State.routeNotice, state]
  | .portion p, holder, inUse =>
    have state : ((s.readNotice k).hou.portions[p]).state = .inUse := inUse
    rw [State.actOnNotice_portion (u := s.readNotice k) holder, State.portionNotice, state]

end

/-! ## The train followed -/

/-- The path of an owner ends with a notice: every place of it is passed (R106). -/
def State.pathEnds (s : State) (o : Owner) (k : Fin 32) : Prop :=
  ∀ (i : Fin 8) (x : Fin 32), (pathOf s.config o)[i.val]? = some x → (s.trainSeen o k).goesOn o i

/-- The train on the path of an owner at a notice of `k`, its places released. -/
def State.trainPassed (s : State) (o : Owner) (k : Fin 32) : State :=
  (s.trainSeen o k).releaseFrom o (pathPlaces s.config o)

section
variable {s : State} {o : Owner} {k : Fin 32}

theorem State.followTrain_eq (s : State) (o : Owner) (k : Fin 32) :
    (s.readNotice k).followTrain o k (s.acu.sections[k]).occ =
      if (s.trainPassed o k).pathEnded o = true then (s.trainPassed o k).endPath o
      else s.trainPassed o k := by
  have same : (s.trainSeen o k).config = s.config := (s.trainSeen_keeps o k).1
  rw [State.trainPassed, ← same]
  rfl

theorem State.trainPassed_released (s : State) (o : Owner) (k : Fin 32) :
    PlacesReleased o ((s.trainSeen o k).placesTaken o) (s.trainSeen o k) (s.trainPassed o k) := by
  have released := (s.trainSeen o k).releaseFrom_path o
  rwa [(s.trainSeen_keeps o k).1] at released

theorem State.trainPassed_ended (s : State) (o : Owner) (k : Fin 32) :
    (s.trainPassed o k).pathEnded o = true ↔ s.pathEnds o k := by
  have ended := (s.trainSeen o k).pathEnded_iff o
  rwa [(s.trainSeen_keeps o k).1] at ended

theorem State.followTrain_ends (ends : s.pathEnds o k) :
    (s.readNotice k).followTrain o k (s.acu.sections[k]).occ = (s.trainPassed o k).endPath o := by
  rw [State.followTrain_eq, if_pos ((s.trainPassed_ended o k).2 ends)]

theorem State.followTrain_goesOn (stays : ¬s.pathEnds o k) :
    (s.readNotice k).followTrain o k (s.acu.sections[k]).occ = s.trainPassed o k := by
  rw [State.followTrain_eq, if_neg (mt (s.trainPassed_ended o k).1 stays)]

/-- What of the owner is as it was before the notice, when its path has been followed. -/
theorem State.trainPassed_keeps (s : State) (o : Owner) (k : Fin 32) :
    (s.trainPassed o k).config = s.config ∧ (s.trainPassed o k).acu = (s.readNotice k).acu ∧
    ((s.trainPassed o k).holdOf o).overlap = (s.holdOf o).overlap ∧
    ((s.trainPassed o k).holdOf o).flank = (s.holdOf o).flank ∧
    OwnerKept o s (s.trainPassed o k) := by
  obtain ⟨config, acu, -, -, -, overlap, flank, kept⟩ := s.trainSeen_keeps o k
  have released := s.trainPassed_released o k
  exact ⟨released.config.trans config, by rw [← acu]; simp [State.trainPassed],
    released.overlap.trans overlap, released.flank.trans flank, kept.trans released.owner⟩

/-- The overlap test at the end of the path, by the sections before the notice (R109). -/
theorem State.trainPassed_overlapClear (s : State) (o : Owner) (k : Fin 32) :
    (s.trainPassed o k).overlapClear o = true ↔ ∀ j, j ∈ overlapOf s.config o →
      (s.acu.sections[j]).state = .clear ∧ (j = k ∨ (s.acu.sections[j]).occ = false) := by
  obtain ⟨config, acu, -⟩ := s.trainPassed_keeps o k
  have same : (s.trainPassed o k).overlapClear o = (s.readNotice k).overlapClear o := by
    rw [State.overlapClear, State.overlapClear, config, acu]
    rfl
  rw [same]
  exact s.readNotice_overlapClear k o

/-- An owner whose overlap waits for no timer at the end of its path (R108). -/
def Untimed (cfg : ZoneConfig) : Owner → Prop
  | .route r => overlapTime cfg r = 0
  | .portion _ => True

/-- The owner frees its overlap with the end of its path: a route with an overlap time waits for a
timer first (R108, R109). -/
def State.overlapEnds (s : State) (o : Owner) (k : Fin 32) : Prop :=
  (s.holdOf o).overlap = .held ∧ (s.trainPassed o k).overlapClear o = true ∧ Untimed s.config o

theorem State.trainPassed_route {r : Fin 64} (s : State) (k : Fin 32) :
    RouteEnded r (s.overlapEnds (.route r) k) (s.trainPassed (.route r) k)
      ((s.trainPassed (.route r) k).endPath (.route r)) := by
  obtain ⟨config, -, overlap, -⟩ := s.trainPassed_keeps (.route r) k
  have ended := (s.trainPassed (.route r) k).endPath_routeEnded r
  rw [config] at ended
  have same : ((s.trainPassed (.route r) k).lku.routes[r]).hold.overlap =
      (s.holdOf (.route r)).overlap := overlap
  rwa [same] at ended

theorem State.trainPassed_portion {p : Fin 16} (s : State) (k : Fin 32) :
    PortionEnded p (s.overlapEnds (.portion p) k) (s.trainPassed (.portion p) k)
      ((s.trainPassed (.portion p) k).endPath (.portion p)) := by
  obtain ⟨config, -, overlap, -⟩ := s.trainPassed_keeps (.portion p) k
  have ended := (s.trainPassed (.portion p) k).endPath_portionEnded p
  have same : ((s.trainPassed (.portion p) k).hou.portions[p]).hold.overlap =
      (s.holdOf (.portion p)).overlap := overlap
  rw [same] at ended
  have goes : s.overlapEnds (.portion p) k ↔ (s.holdOf (.portion p)).overlap = .held ∧
      (s.trainPassed (.portion p) k).overlapClear (.portion p) = true :=
    and_congr_right fun _ => and_iff_left trivial
  rwa [← propext goes] at ended

/-- The holders that go with the following of the train (R105, R109). -/
theorem State.followTrain_locks (s : State) (o : Owner) (k : Fin 32) :
    LocksDrop
      (fun j h => (h = ⟨o, .path⟩ ∧ ∃ q ∈ (s.trainSeen o k).placesTaken o, q.2 = j) ∨
        (h = ⟨o, .overlap⟩ ∧ s.pathEnds o k ∧ s.overlapEnds o k))
      (fun p h => (h = ⟨o, .path⟩ ∧
          ∃ q ∈ (s.trainSeen o k).placesTaken o, isTrackOf s.config o q.2 p) ∨
        (h = ⟨o, .overlap⟩ ∧ s.pathEnds o k ∧ s.overlapEnds o k))
      (fun g h => (h = ⟨o, .entry⟩ ∧ (∃ q ∈ (s.trainSeen o k).placesTaken o, q.1 = 0) ∧
          isEntryOf s.config o g) ∨
        (h = ⟨o, .overlap⟩ ∧ s.pathEnds o k ∧ s.overlapEnds o k))
      s ((s.readNotice k).followTrain o k (s.acu.sections[k]).occ) := by
  obtain ⟨config, -, sections, points, signals, -⟩ := s.trainSeen_keeps o k
  have path := (s.trainPassed_released o k).locks
  rw [config] at path
  have seen := (LocksDrop.of_same sections (fun p => by rw [points])
    fun g => by rw [signals]).trans path
  by_cases ends : s.pathEnds o k
  · have overlap : OverlapDrops o (s.overlapEnds o k) (s.trainPassed o k)
        ((s.trainPassed o k).endPath o) := by
      match o with
      | .route r => exact (s.trainPassed_route k).locks
      | .portion p => exact (s.trainPassed_portion k).locks
    rw [State.followTrain_ends ends]
    exact (seen.trans overlap).congr (fun _ _ => by simp [ends]) (fun _ _ => by simp [ends])
      fun _ _ => by simp [ends]
  · rw [State.followTrain_goesOn ends]
    exact seen.congr (fun _ _ => by simp [ends]) (fun _ _ => by simp [ends])
      fun _ _ => by simp [ends]

end

/-- The points whose track section is among the places released. -/
theorem trackReleased_iff {cfg : ZoneConfig} {o : Owner} {rs : List (Fin 8 × Fin 32)}
    {released : Fin 32 → Prop} (released_iff : ∀ x, (∃ q ∈ rs, q.2 = x) ↔ released x)
    {p : Fin 16} : (∃ q ∈ rs, isTrackOf cfg o q.2 p) ↔
      (∃ q, (p, q) ∈ pointsOf cfg o) ∧ ∃ c, cfg.points[p] = some c ∧ released c.track := by
  constructor
  · rintro ⟨q, taken, listed, c, configured, track⟩
    exact ⟨listed, c, configured, (released_iff _).1 ⟨q, taken, track.symm⟩⟩
  · rintro ⟨listed, c, configured, released⟩
    obtain ⟨q, taken, track⟩ := (released_iff _).2 released
    exact ⟨q, taken, listed, c, configured, track.symm⟩

/-! ## What the end of the path leaves, by the owner's record before the notice -/

section
variable {s t u : State} {k : Fin 32}

theorem State.trainPassed_routeRec (s : State) (r : Fin 64) (k : Fin 32) :
    ((s.trainPassed (.route r) k).lku.routes[r]).state = (s.lku.routes[r]).state ∧
    ((s.trainPassed (.route r) k).lku.routes[r]).offers = (s.lku.routes[r]).offers ∧
    ((s.trainPassed (.route r) k).lku.routes[r]).hold.overlap =
      (s.lku.routes[r]).hold.overlap := by
  obtain ⟨-, -, overlap, -, kept⟩ := s.trainPassed_keeps (.route r) k
  rw [OwnerKept] at kept
  exact ⟨by rw [kept], by rw [kept], overlap⟩

theorem State.trainPassed_portionRec (s : State) (p : Fin 16) (k : Fin 32) :
    ((s.trainPassed (.portion p) k).hou.portions[p]).state = (s.hou.portions[p]).state ∧
    ((s.trainPassed (.portion p) k).hou.portions[p]).hold.overlap =
      (s.hou.portions[p]).hold.overlap := by
  obtain ⟨-, -, overlap, -, kept⟩ := s.trainPassed_keeps (.portion p) k
  rw [OwnerKept] at kept
  exact ⟨by rw [kept], overlap⟩

/-- A portion whose train has been followed stands past its proving (R154). -/
theorem State.followTrain_unprovable {p : Fin 16} (inUse : (s.hou.portions[p]).state = .inUse) :
    ¬(((s.readNotice k).followTrain (.portion p) k
      (s.acu.sections[k]).occ).hou.portions[p]).state.provable := by
  obtain ⟨state, overlap⟩ := s.trainPassed_portionRec p k
  by_cases ends : s.pathEnds (.portion p) k
  · have ended := s.trainPassed_portion (p := p) k
    rw [State.followTrain_ends ends]
    by_cases idle : ((s.trainPassed (.portion p) k).hou.portions[p]).hold.overlap ≠ .held ∨
        s.overlapEnds (.portion p) k
    · rw [ended.idle idle]
      exact fun provable => provable.elim nofun nofun
    · obtain ⟨held, stays⟩ := not_or.1 idle
      rw [ended.held (not_not.1 held) stays]
      exact fun provable => provable.elim nofun nofun
  · rw [State.followTrain_goesOn ends, state, inUse]
    exact fun provable => provable.elim nofun nofun

theorem Consequences.portion_same {b : State} (h : Consequences b u t) {p : Fin 16}
    (settled : ¬(u.hou.portions[p]).state.provable) : t.hou.portions[p] = u.hou.portions[p] := by
  obtain ⟨⟨-, kept⟩, record⟩ := h.portion_moved p
  rw [record, kept settled]

/-- The tests at the end of the event leave the records of an owner in IN_USE as they are. -/
theorem Consequences.trainHold {o : Owner} (followed : s.ownerInUse o)
    (h : Consequences s ((s.readNotice k).followTrain o k (s.acu.sections[k]).occ) t) :
    t.holdOf o = ((s.readNotice k).followTrain o k (s.acu.sections[k]).occ).holdOf o := by
  match o with
  | .route r => rw [State.holdOf, State.holdOf, h.locks]
  | .portion p =>
    rw [State.holdOf, State.holdOf, h.portion_same (State.followTrain_unprovable followed)]

end

/-! ## The obligation -/

/-- Settles O23: the places by `State.goesOn`, the holders by `State.followTrain_locks`, and the end
of the path by the owner. -/
theorem trainIsFollowedThroughThePath : Obligations.TrainIsFollowedThroughThePath := by
  intro s k o role run configured chg holder short inUse path seen free status goes releases ends
    overlapFree overlapGoes read
  have followed : s.ownerInUse o := by
    match o, inUse with
    | .route r, inUse => exact inUse.1
    | .portion p, inUse => exact inUse
  obtain ⟨t, event, rest⟩ := sectionNotice_answers
    (State.notice_inUse ⟨run, configured, chg⟩ holder followed)
  set v := s.trainSeen o k with hv
  have status_eq (i : Fin 8) : (v.holdOf o).status[i] = status i := by
    rw [hv, State.trainSeen_status]
    simp only [PathStatus.marked, status]
    rfl
  have passes_iff (j : Fin 8) (x : Fin 32) : v.passes o (j, x) ↔
      (status j = .released ∨ (status j = .seenOccupied ∧ free x ∧
        (j.val + 1 = path.length ∨
          ∃ m : Fin 8, m.val = j.val + 1 ∧ status m = .seenOccupied))) := by
    rw [hv, State.trainSeen_passes, ← hv]
    simp only [status_eq]
    rfl
  have goes_iff (i : Fin 8) : v.goesOn o i ↔ goes i := by
    rw [State.goesOn, (s.trainSeen_keeps o k).1]
    simp only [passes_iff]
    rfl
  have ends_iff : s.pathEnds o k ↔ ends := by
    rw [State.pathEnds]
    simp only [← hv, goes_iff]
    rfl
  have taken_iff (q : Fin 8 × Fin 32) : q ∈ v.placesTaken o ↔
      path[q.1.val]? = some q.2 ∧ goes q.1 ∧ status q.1 ≠ .released := by
    rw [State.mem_placesTaken, (s.trainSeen_keeps o k).1, goes_iff, status_eq]
  have releases_iff (x : Fin 32) : (∃ q ∈ v.placesTaken o, q.2 = x) ↔ releases x := by
    simp only [taken_iff, releases, Prod.exists]
    exact ⟨fun ⟨i, y, taken, same⟩ => ⟨i, same ▸ taken⟩, fun ⟨i, taken⟩ => ⟨i, x, taken, rfl⟩⟩
  have overlap_iff : (s.pathEnds o k ∧ s.overlapEnds o k) ↔ overlapGoes := by
    refine and_congr ends_iff (and_congr_right fun _ =>
      and_congr (s.trainPassed_overlapClear o k) ?_)
    cases o
    · exact Iff.rfl
    · exact Iff.rfl
  have locks := s.followTrain_locks o k
  have hold := rest.toConsequences.trainHold followed
  have sameLocks : t.lku = _ := rest.locks
  refine ⟨t, event, rest, fun j h stands => ?_, fun p h stands => ?_,
    fun g h stands notOverlap => ?_, fun stays => ?_, fun r same => ?_, fun p same => ?_⟩
  · rw [sameLocks]
    have drops := (locks.sections j).congr (q := fun h => (h = ⟨o, .path⟩ ∧ releases j) ∨
      (h = ⟨o, .overlap⟩ ∧ overlapGoes)) fun h => by rw [← hv, releases_iff, overlap_iff]
    exact drops.2 h stands
  · have tracks : (∃ q ∈ v.placesTaken o, isTrackOf s.config o q.2 p) ↔
        (∃ q, (p, q) ∈ pointsOf s.config o) ∧
          ∃ c, s.config.points[p] = some c ∧ releases c.track :=
      trackReleased_iff releases_iff
    rw [sameLocks]
    have drops := (locks.points p).congr (q := fun h => (h = ⟨o, .path⟩ ∧
        (∃ q, (p, q) ∈ pointsOf s.config o) ∧
          ∃ c, s.config.points[p] = some c ∧ releases c.track) ∨
      (h = ⟨o, .overlap⟩ ∧ overlapGoes)) fun h => by rw [← hv, tracks, overlap_iff]
    exact drops.2 h stands
  · have first : (∃ q ∈ v.placesTaken o, q.1 = 0) ↔
        (∃ x, path[0]? = some x) ∧ goes 0 ∧ status 0 ≠ .released := by
      constructor
      · rintro ⟨⟨i, x⟩, taken, rfl⟩
        obtain ⟨listed, ok, unreleased⟩ := (taken_iff _).1 taken
        exact ⟨⟨x, listed⟩, ok, unreleased⟩
      · rintro ⟨⟨x, listed⟩, ok, unreleased⟩
        exact ⟨(0, x), (taken_iff _).2 ⟨listed, ok, unreleased⟩, rfl⟩
    rw [sameLocks]
    have drops := (locks.signals g).2 h stands
    have reads : (h = ⟨o, .entry⟩ ∧ (∃ q ∈ v.placesTaken o, q.1 = 0) ∧ isEntryOf s.config o g) ∨
        (h = ⟨o, .overlap⟩ ∧ s.pathEnds o k ∧ s.overlapEnds o k) ↔
        h = ⟨o, .entry⟩ ∧ (∃ x, path[0]? = some x) ∧ goes 0 ∧ status 0 ≠ .released ∧
          isEntryOf s.config o g := by
      rw [first, and_assoc, and_assoc]
      exact or_iff_left fun overlap => notOverlap (congrArg Holder.role overlap.1)
    exact ⟨fun freed => drops.1 (reads.2 freed), fun kept => drops.2 (mt reads.1 kept)⟩
  · have stays' := mt ends_iff.1 stays
    obtain ⟨-, -, overlap, flank, -⟩ := s.trainPassed_keeps o k
    rw [hold, State.followTrain_goesOn stays']
    refine ⟨overlap, flank, fun i => ?_⟩
    have statuses := v.releaseFrom_status o i
    rw [goes_iff, (s.trainSeen_keeps o k).1, status_eq] at statuses
    exact statuses
  · subst same
    obtain ⟨state, refs, overlap⟩ := s.trainPassed_routeRec r k
    refine ⟨fun stays => ?_, fun passed => ?_⟩
    · rw [sameLocks, State.followTrain_goesOn (mt ends_iff.1 stays), state]
      exact inUse.1
    · have ended := s.trainPassed_route (r := r) k
      have passed' := ends_iff.2 passed
      have goes' : overlapGoes ↔ s.overlapEnds (.route r) k :=
        overlap_iff.symm.trans (and_iff_right passed')
      have final := State.followTrain_ends passed'
      rw [sameLocks, final, rest.offers.1, final, ← refs, ← overlap, goes',
        ← (s.trainPassed_keeps (.route r) k).1]
      exact ⟨ended.flank, ended.offers, ended.idle, ended.held⟩
  · subst same
    obtain ⟨state, overlap⟩ := s.trainPassed_portionRec p k
    rw [rest.toConsequences.portion_same (State.followTrain_unprovable followed)]
    refine ⟨fun stays => ?_, fun passed => ?_⟩
    · rw [State.followTrain_goesOn (mt ends_iff.1 stays), state]
      exact inUse
    · have ended := s.trainPassed_portion (p := p) k
      have passed' := ends_iff.2 passed
      have goes' : overlapGoes ↔ s.overlapEnds (.portion p) k :=
        overlap_iff.symm.trans (and_iff_right passed')
      rw [State.followTrain_ends passed', ← overlap, goes',
        ← (s.trainPassed_keeps (.portion p) k).1]
      exact ⟨ended.flank, ended.idle, ended.held⟩

end Sys2Proof.Machine
end
